-- ==== Sys2Proof/Word.lean ====
section
/-! DEFINITION. The word types of the TF3240: a byte of the trunk or of a scanner line, the 16-bit lane
sequence number and check word, the 32-bit device clock, and a table of a fixed number of like records. -/

namespace Sys2Proof

/-- One character of the trunk or of a scanner line (R71, R183). -/
abbrev Byte := BitVec 8

/-- A lane sequence number (R107) or a trunk check word (R185): sixteen bits, wrapping. -/
abbrev Word16 := BitVec 16

/-- The device clock (R191): milliseconds, wrapping modulo 2^32. -/
abbrev Word32 := BitVec 32

/-- A fixed number of like records, indexed from 0. -/
abbrev Table (α : Type) (n : Nat) := Vector α n

end Sys2Proof
end

