-- ==== Sys2Proof/Syntax.lean ====
section
/-! DEFINITION. The commands of the TF3240: one constructor for each row of spec/opcode_table.json, in the
table's order.

Three sorts of row stand in the table.
* A REQUEST row (OPEN_LANE to DEVICE_RESET, UNKNOWN_REQUEST, EMPTY_REQUEST) is the step in which the
  request-taking part takes the request at the head of the request FIFO (R188). The request's operands are the
  bytes of that request, which REQUEST_FRAME has put there; the command itself therefore carries none
  (notes/assumptions/2.md).
* An INPUT row brings something from outside: a trunk or scanner character, a change of a sense or fault line,
  a pass end with the readings of the rows, a reset. Its operands are what is read on the lines.
* An INTERNAL row (a timer's expiry, an arbiter's choice, a walk's step) names the lane, port, drawer, unit or
  consumer whose timer it is, where there is more than one. -/

namespace Sys2Proof

/-- What the part reads on its inputs when it starts up (R147, R148, R195): the two rate straps (R183), the
supply fault line, and the sense input of each drawer (bit `d` set: drawer `d` reads OPEN). -/
structure Inputs where
  strapA     : Bool
  strapB     : Bool
  supplyHigh : Bool
  senseOpen  : BitVec 32
  deriving DecidableEq, Repr

/-- Why a trunk frame under reception is abandoned (R184). -/
inductive AbandonCause where
  /-- A character with a bad stop bit, in IDLE or RECEIVING. -/
  | badStopBit
  /-- The third byte stored holds a length above 64. -/
  | lengthAbove64 (b : Byte)
  /-- Idle of more than 2 character times before the last byte. -/
  | idleGap
  deriving DecidableEq, Repr

/-- The commands: one constructor per row of spec/opcode_table.json. -/
inductive Instr where
  | openLane
  | closeLane
  | suspendLane
  | resumeLane
  | resetLane
  | setLane
  | readLane
  | setScan
  | readKeys
  | writeKeymap
  | readKeymap
  | verifyKeymap
  | verifyWalkEnd
  | eraseKeymap
  | assignKeymap
  | setPort
  | readPort
  | writeRule
  | readRule
  | commitRules
  | setAdmission
  | readPool
  | tableRead
  | tableWrite
  | tableDelete
  | tableSearch
  | tableClear
  | tableWalkStep
  | tableWalkEnd
  | setUnmatched
  | setConsumer
  | flushConsumer
  | setStall
  | readConsumer
  | kick
  | clearInhibit
  | setDrawerDrawer
  | setDrawerSupply
  | readDrawer
  | clearCounter
  | writeTone
  | playTone
  | stopTone
  | setLamp
  | status
  | setTime
  | deviceReset
  | unknownRequest
  | emptyRequest
  /-- The character `last`, with a good stop bit, completes a REQUEST frame that passes its checks. -/
  | requestFrame (last : Byte)
  /-- The character `last`, with a good stop bit, completes a CREDIT frame that passes its checks. -/
  | creditFrame (last : Byte)
  /-- The character `last`, with a good stop bit, completes a frame that fails a check of R186. -/
  | frameRejected (last : Byte)
  | frameAbandoned (cause : AbandonCause)
  | waitIdleCharacter
  | receiverIdle
  | transmitChoice
  /-- The last check byte leaves the line. `inputs` is what a start-up reads, if the frame was the DONE reply
  of DEVICE-RESET and the part resets here (R194, R195). -/
  | transmitFrameEnd (inputs : Inputs)
  | transmitGapEnd
  | powerOn (inputs : Inputs)
  | resetPinLow
  | resetPinRise (inputs : Inputs)
  | duePoint (lane : Nat)
  | passStart
  /-- The end of the pass in progress. Bit `row * 16 + column` of `sample` is set where that row read closed
  while that column was driven; `lineA` and `lineB` are the key-lock lines of the lane in pass (R12); bit
  `lane * 8 + row` of `wake` is set where that row of that lane reads closed with all columns driven (R18). -/
  | passEnd (sample : BitVec 128) (lineA lineB : Bool) (wake : BitVec 128)
  | forcedKeymapSwitch (lane : Nat)
  /-- The watch point of a lane, with its two lock lines and what its rows read with all columns driven. -/
  | watchPoint (lane : Nat) (lineA lineB : Bool) (rows : Byte)
  | wakeHoldOffExpiry (lane : Nat)
  | tenderTimerExpiry (lane : Nat)
  /-- A character taken by a port at its stop-bit sample (R72); `good` says that the stop bit read high. -/
  | scannerCharacter (port : Nat) (char : Byte) (good : Bool)
  | idleGapExpiry (port : Nat)
  | admissionAttempt
  | admissionLimitExpiry (lane : Nat)
  | stallTimerExpiry (consumer : Nat)
  /-- The sense input of a drawer changes to reading OPEN (`isOpen`) or CLOSED. -/
  | senseChange (drawer : Nat) (isOpen : Bool)
  | stabilityTimerExpiry (drawer : Nat)
  | kickGrant
  | pulseEnd (drawer : Nat)
  | confirmTimeout (drawer : Nat)
  | unitRecovered (unit : Nat)
  | openTooLong (drawer : Nat)
  | supplyFault
  | supplyLineRise
  | tonePhaseEnd (lane : Nat)
  | lampBoundary (lane : Nat)
  | scannerStartBit (port : Nat)
  | trunkCharacterStored (char : Byte)
  deriving DecidableEq, Repr

end Sys2Proof
end

