-- ==== Sys2Proof/Decode.lean ====
section
/-! DEFINITION. What a table word spells. The TF3240 is a block that takes commands; no row of
spec/opcode_table.json gives bits ("fields" is empty on every row and none has "fixed"), so no word spells a
command (notes/assumptions/1.md). The bytes that do carry requests, the trunk frames, are read in
Machine/Frames.lean and Machine/Operands.lean. -/

namespace Sys2Proof

/-- The command that the table's bits spell in `w`: none, since no row of the table gives bits. -/
def decodeTableWord (_nbits _w : Nat) : Option Instr := none

end Sys2Proof
end

