-- ==== Sys2Proof/Config.lean ====
section
/-! DEFINITION. What is fixed for one machine: the sizes the book gives, and the input levels that the model
names for `State.reset`. The book fixes no level of the straps, of the sense inputs or of the supply fault line
("read from the straps", "as first read": R147, R148, R182), so those levels are the model's own choice
(notes/assumptions/3.md). -/

namespace Sys2Proof

/-- A lane's pending queue holds at most 8 entries (R107). -/
def Config.queueDepth : Nat := 8

/-- A record buffer stores at most 48 characters (R71). -/
def Config.recordLength : Nat := 48

/-- The request FIFO and the reply FIFO hold 4 each (R182). -/
def Config.fifoDepth : Nat := 4

/-- DESIGN CHOICE, unsafe (notes/assumptions/3.md): the inputs that `State.reset` is taken to have read. Straps
low and low, the supply line high (sound), every drawer reading CLOSED. -/
def Config.inputsAtReset : Inputs :=
  { strapA := false, strapB := false, supplyHigh := true, senseOpen := 0 }

end Sys2Proof
end

