-- ==== Sys2Proof/Machine/Blocks.lean ====
section
/-! DEFINITION. The records that the eleven blocks of the TF3240 hold, as plain data, block by block in the
order of the book's chapters, and `Device`, the whole part. Times are in the unit each field's comment names;
`Option Nat` on a timer is "a value, or stopped". Items that the book derives from others are stored once:
Machine/Outputs.lean and the accessors beside the operations compute the other view (driver state, in-pass
flag, READY, free count, generator state, reply place reserved). -/

namespace Sys2Proof.Machine

/-! ## Lane controller (R1) -/

inductive LaneState where
  | closed | opened | suspended | faulted
  deriving DecidableEq, Repr

/-- The key-lock positions, in ascending order LOCKED < REG < SUPV < MGR (R1). -/
inductive KeyLock where
  | locked | reg | supv | mgr
  deriving DecidableEq, Repr

inductive MissPolicy where
  | hold | fault
  deriving DecidableEq, Repr

inductive NoMatchPolicy where
  | acceptRaw | rejectReport
  deriving DecidableEq, Repr

/-- One setting set (1.6 of Lanes), in the units of that table. -/
structure Settings where
  scanPeriod    : Nat            -- 250 µs
  rows          : Nat
  columns       : Nat
  debounce      : Nat            -- passes
  rollover      : Nat            -- keys
  ghostCheck    : Bool
  missPolicy    : MissPolicy
  typDelay      : Nat            -- 10 ms
  typPeriod     : Nat            -- 10 ms
  switchTimeout : Nat            -- s
  tenderWindow  : Nat            -- s
  autoKick      : Option (Fin 2)
  goodTone      : Option (Fin 8)
  badTone       : Option (Fin 8)
  noMatch       : NoMatchPolicy
  wake          : Bool
  deriving DecidableEq, Repr

/-- The lane record of R1. `wakeDue` is the wake reading that waits for the pass in progress to end (R18). -/
structure LaneRec where
  state         : LaneState
  active        : Settings
  pendingSet    : Option Settings
  keyLock       : KeyLock
  settled       : Bool
  lockCandidate : Option KeyLock
  lockCount     : Nat
  windowOpen    : Bool
  tenderTimer   : Nat            -- ms
  watchTimer    : Option Nat     -- ms
  wakeMonitor   : Bool
  wakeRef       : Option Byte
  wakeHoldOff   : Nat            -- ms
  wakeDue       : Bool
  deriving DecidableEq, Repr

/-! ## Matrix scanner (R23) -/

inductive KeyState where
  | released | pressed | blocked | latched
  deriving DecidableEq, Repr

/-- What the matrix scanner holds for one lane (R23), but for the in-pass flag, which `Scanner.laneInPass`
gives. -/
structure LaneScan where
  dueTimer  : Option Nat         -- µs
  waiting   : Bool
  discard   : Bool
  missCount : Nat
  integ     : Table Nat 128
  keys      : Table KeyState 128
  deriving DecidableEq, Repr

/-- The shared driver (R23). The driver state is PASS exactly while `laneInPass` names a lane. `passLeft` is what
is left of the pass in progress, loaded with columns × dwell at its start; `passColumns` and `passDwell` are the
column count and the dwell that the pass uses, those in force at its start (R24). -/
structure Scanner where
  laneInPass  : Option (Fin 16)
  passLeft    : Nat              -- µs
  passColumns : Nat
  passDwell   : Nat              -- µs
  lastServed  : Fin 16
  dwell       : Nat              -- µs
  lanes       : Table LaneScan 16
  deriving DecidableEq, Repr

/-! ## Key translator (R61) -/

inductive Role where
  | none | modA | modB
  deriving DecidableEq, Repr

inductive Fate where
  | reported | refused | suppressed | muted
  deriving DecidableEq, Repr

/-- The record of a held key (R61). -/
structure Held where
  layer    : Fin 4
  code     : BitVec 12
  role     : Role
  repeats  : Bool
  wake     : Bool
  fate     : Fate
  deriving DecidableEq, Repr

structure KeyTrans where
  held         : Table (Option Held) 128
  owner        : Option (Fin 128)
  countdown    : Nat             -- passes
  delayPasses  : Nat             -- Nd
  periodPasses : Nat             -- Nr
  deriving DecidableEq, Repr

/-! ## Keymap store (R47, R48) -/

structure KeyEntry where
  code       : BitVec 12
  role       : Role
  repeats    : Bool
  tender     : Bool
  supervisor : Bool
  silent     : Bool
  wake       : Bool
  deriving DecidableEq, Repr

inductive ImageState where
  | empty | opened | ready
  deriving DecidableEq, Repr

structure Image where
  entries : Table KeyEntry 512
  state   : ImageState
  deriving DecidableEq, Repr

structure LaneMap where
  active      : Option (Fin 8)
  pendingImg  : Option (Fin 8)
  switchTimer : Option Nat       -- ms
  deriving DecidableEq, Repr

/-- The checksum walk that VERIFY-KEYMAP starts (R53). -/
structure VerifyWalk where
  image     : Fin 8
  checkWord : Nat
  deriving DecidableEq, Repr

structure KeymapStore where
  images : Table Image 8
  lanes  : Table LaneMap 16
  verify : Option VerifyWalk
  deriving DecidableEq, Repr

/-! ## Scanner ports (R71) -/

inductive PortState where
  | active | stopping | disabled
  deriving DecidableEq, Repr

inductive BufferState where
  | free | filling | held
  deriving DecidableEq, Repr

inductive BufferId where
  | x | y
  deriving DecidableEq, Repr

/-- One record buffer: its stored characters (at most 48) and its received count (R71). -/
structure Buffer where
  state    : BufferState
  chars    : List Byte
  received : Nat
  deriving DecidableEq, Repr

inductive PortRate where
  | b9600 | b19200 | b38400 | b57600 | b115200
  deriving DecidableEq, Repr

/-- One scanner port (R71). `charRate` is the rate of a character whose start bit is confirmed and which is not
yet taken (R88, first point). READY is `Port.ready`. -/
structure Port where
  state          : PortState
  bufX           : Buffer
  bufY           : Buffer
  current        : Option BufferId
  markDamaged    : Bool
  markOverlength : Bool
  markOverrun    : Bool
  badCount       : Nat
  overrun        : Bool
  idleTimer      : Option Nat    -- ms
  bitRate        : PortRate
  terminator     : Option Byte
  idleGap        : Nat           -- ms
  enable         : Bool
  charRate       : Option PortRate
  cRecords       : Nat
  cDamaged       : Nat
  cOverlength    : Nat
  cOverrun       : Nat
  cDiscarded     : Nat
  deriving DecidableEq, Repr

/-! ## Scan classifier (R90, R91) -/

inductive RuleAction where
  | accept | rejectSilent | rejectReport
  deriving DecidableEq, Repr

inductive RuleCheck where
  | none | mod10
  deriving DecidableEq, Repr

structure ScanRule where
  valid     : Bool
  action    : RuleAction
  check     : RuleCheck
  laneMask  : BitVec 16
  leadLen   : Nat                -- prefix length
  lead      : Table Byte 3       -- prefix characters
  minLen    : Nat
  maxLen    : Nat
  strip     : Nat
  typeCode  : Byte
  deriving DecidableEq, Repr

structure RulePlace where
  rule    : ScanRule
  hits    : Nat                  -- match counter
  deriving DecidableEq, Repr

structure Classifier where
  active : Table RulePlace 32
  shadow : Table RulePlace 32
  deriving DecidableEq, Repr

/-! ## Event pool (R104 to R110) -/

inductive EventClass where
  | key | scan | drawer | lane | device
  deriving DecidableEq, Repr

/-- The kinds of R105. -/
inductive Kind where
  | keyPress | keyRelease | keyRepeat | keyRefused
  | scanGood | scanBadCheck | scanRejected | scanOverlength | scanDamaged
  | drawerOpened | drawerClosed | kickDone | kickRefused | kickFailed | kickAborted | forcedOpen | openTooLong
  | laneState | keylock | activity | keymapSwitched
  | deviceStarted | supplyFault | consumerStalled | consumerRevived
  deriving DecidableEq, Repr

/-- The class each kind belongs to (R105). -/
def Kind.cls : Kind → EventClass
  | .keyPress | .keyRelease | .keyRepeat | .keyRefused => .key
  | .scanGood | .scanBadCheck | .scanRejected | .scanOverlength | .scanDamaged => .scan
  | .drawerOpened | .drawerClosed | .kickDone | .kickRefused | .kickFailed | .kickAborted | .forcedOpen
  | .openTooLong => .drawer
  | .laneState | .keylock | .activity | .keymapSwitched => .lane
  | .deviceStarted | .supplyFault | .consumerStalled | .consumerRevived => .device

/-- An event record without its body (R104). The class is `kind.cls`; `source` is absent for "none". -/
structure Event where
  lane      : Fin 17
  seq       : Word16
  kind      : Kind
  afterLoss : Bool
  overrun   : Bool
  late      : Bool
  forced    : Bool
  time      : Word32
  source    : Option Byte
  detail1   : Byte
  detail2   : Byte
  deriving DecidableEq, Repr

/-- The means of reaching an entry's body (R107). -/
inductive BodyRef where
  | absent
  | bytes (bs : List Byte)
  | buffer (port : Fin 32) (buf : BufferId) (start len : Nat)
  deriving DecidableEq, Repr

structure Entry where
  ev   : Event
  body : BodyRef
  deriving DecidableEq, Repr

inductive Priority where
  | urgent | routine
  deriving DecidableEq, Repr

/-- How one consumer stands in a computed set (R113, R127): not in it (or removed because INACTIVE), refused, or
taking with a priority. -/
inductive Member where
  | out | refused | taking (p : Priority)
  deriving DecidableEq, Repr

abbrev SortedSet := Table Member 8

/-- What the pool holds for one lane 0 to 16 (R107). `waiting` is the head state WAITING. -/
structure PendLane where
  queue     : List Entry
  seq       : Word16
  lossCount : Nat
  gap       : Bool
  waiting   : Bool
  waitTimer : Option Nat         -- ms
  lastSet   : Option SortedSet
  deriving DecidableEq, Repr

/-- A slot that holds an event record (R110). -/
structure Slot where
  ev   : Event
  body : List Byte
  refs : Nat
  deriving DecidableEq, Repr

structure Pool where
  slots      : Table (Option Slot) 512
  freeList   : List (Fin 512)
  lowWater   : Nat
  lanes      : Table PendLane 17
  lastServed : Fin 17
  reserve    : Nat
  limit      : Nat               -- 10 ms
  unwanted   : Nat
  deriving DecidableEq, Repr

/-! ## Delivery unit (R121 to R123) -/

/-- A delivery table entry (R123). `kind` absent is the filter ANY. -/
structure TableEntry where
  valid     : Bool
  laneMask  : BitVec 17
  classMask : BitVec 5
  kind      : Option Kind
  consumers : BitVec 8
  urgent    : Bool
  blocked   : Bool
  deriving DecidableEq, Repr

inductive UnmatchedPolicy where
  | discard | default | all
  deriving DecidableEq, Repr

inductive ConsumerState where
  | inactive | active | stalled
  deriving DecidableEq, Repr

structure Consumer where
  state      : ConsumerState
  credit     : Nat
  depth      : Nat
  urgentQ    : List (Fin 512)
  routineQ   : List (Fin 512)
  lossFlag   : Bool
  drops      : Nat
  stallTimer : Option Nat        -- ms
  deriving DecidableEq, Repr

/-- A table walk in flight (R121, R134, R135): its next index, and what it has found so far. -/
inductive TableWalk where
  | search (lane : Fin 17) (kind : Kind) (next : Nat) (found : Option (Fin 64))
  | clearConsumer (consumer : Fin 8) (next changed deleted : Nat)
  | clearLane (lane : Fin 17) (next changed deleted : Nat)
  deriving DecidableEq, Repr

structure Delivery where
  table          : Table TableEntry 64
  policy         : UnmatchedPolicy
  defaultSet     : BitVec 8
  stallInterval  : Nat           -- 100 ms
  stallRobust    : Nat
  lastServed     : Fin 8
  consumers      : Table Consumer 8
  walk           : Option TableWalk
  deriving DecidableEq, Repr

/-! ## Drawer unit (R147, R148) -/

inductive Position where
  | closed | opened
  deriving DecidableEq, Repr

inductive KickState where
  | idle | waiting | energized | confirming
  deriving DecidableEq, Repr

/-- One drawer (R147). `senseInput` is the level last read, `candidate` the sense candidate. `limitTimer` counts
seconds; `limitSubMs` is how many ms of its running second have passed (notes/assumptions/9.md). -/
structure Drawer where
  present       : Bool
  pulseWidth    : Nat            -- ms
  confirmTime   : Nat            -- 10 ms
  openLimit     : Nat            -- s, 0 off
  senseInput    : Position
  candidate     : Position
  stability     : Option Nat     -- ms
  position      : Position
  settled       : Bool
  kick          : KickState
  openedInPulse : Bool
  unitHeld      : Option (Fin 8)
  kickTimer     : Option Nat     -- ms
  openTime      : Nat            -- ms, saturating
  limitTimer    : Option Nat     -- s
  limitSubMs    : Nat            -- ms
  limitsPassed  : Nat
  openCount     : Nat
  deriving DecidableEq, Repr

inductive UnitState where
  | available | energizing | recovering
  deriving DecidableEq, Repr

structure SupplyUnit where
  state : UnitState
  timer : Option Nat             -- ms
  deriving DecidableEq, Repr

structure DrawerUnit where
  drawers      : Table Drawer 32
  units        : Table SupplyUnit 8
  supplyLimit  : Nat             -- K
  pendingLimit : Option Nat
  supplyGap    : Nat             -- ms
  waitList     : List (Fin 32)
  inhibit      : Bool
  monitor      : Bool
  supplyHigh   : Bool
  deriving DecidableEq, Repr

/-! ## Tone and lamp unit (R169, R171, R179) -/

structure Tone where
  divider : Nat                  -- µs
  onTime  : Nat                  -- 10 ms
  offTime : Nat                  -- 10 ms
  repeats : Nat
  level   : Nat
  deriving DecidableEq, Repr

inductive TonePhase where
  | sounding | silent
  deriving DecidableEq, Repr

structure PlayingCopy where
  entry : Fin 8
  tone  : Tone
  deriving DecidableEq, Repr

/-- A lane's tone generator (R171): PLAYING exactly while `playing` is present. `phaseUs` is how long the phase
has lasted, from which the square wave's level is read (R170). -/
structure Generator where
  playing    : Option PlayingCopy
  phase      : TonePhase
  phaseTimer : Option Nat        -- ms
  cycles     : Nat
  phaseUs    : Nat               -- µs
  deriving DecidableEq, Repr

inductive LampMode where
  | off | on | flashSlow | flashFast
  deriving DecidableEq, Repr

/-- A lane's lamp (R179): `overrideMode` absent is AUTO; a staged request is a mode or AUTO. -/
structure Lamp where
  overrideMode : Option LampMode
  staged       : Option (Option LampMode)
  deriving DecidableEq, Repr

structure ToneUnit where
  tones      : Table Tone 8
  generators : Table Generator 16
  flash      : Nat               -- ms, 0 to 999
  lamps      : Table Lamp 16
  deriving DecidableEq, Repr

/-! ## Trunk port (R182) -/

inductive TrunkRate where
  | k250 | k500 | k1000 | k2000
  deriving DecidableEq, Repr

inductive ReceiverState where
  | waitIdle | idle | receiving
  deriving DecidableEq, Repr

inductive ResetCause where
  | powerOn | pin | trunk
  deriving DecidableEq, Repr

/-- A request: its tag and its payload, the request code first (R183, R187). -/
structure Request where
  tag     : Byte
  payload : List Byte
  deriving DecidableEq, Repr

/-- The reply codes (11.2). -/
inductive ReplyCode where
  | done | doneClamped | donePresent | doneAbsent | doneIgnored
  | refusedBusy | refusedMalformed | refusedUnknown | refusedState | refusedInUse | refusedNotReady
  | refusedCheck | refusedInterlock | refusedInhibited | refusedNoKeymap
  deriving DecidableEq, Repr

/-- A reply: the request's tag and code, the reply code and the reply fields (R189). -/
structure Reply where
  tag     : Byte
  request : Byte
  code    : ReplyCode
  fields  : List Byte
  deriving DecidableEq, Repr

/-- A frame being sent, which keeps its own copy of what it carries (R145, R190). -/
inductive OutFrame where
  | reply (r : Reply)
  | event (consumer : Fin 8) (ev : Event) (body : List Byte) (urgent : Bool)
  deriving DecidableEq, Repr

inductive Transmitter where
  | free
  | sending (f : OutFrame)
  | gap
  deriving DecidableEq, Repr

/-- The trunk port (R182). `waitFresh` says that no character has come since WAIT-IDLE was entered after a
complete frame or at a device reset (R184). A reply place is reserved exactly while a request is in progress
(R188). -/
structure Trunk where
  bitRate        : TrunkRate
  receiver       : ReceiverState
  waitFresh      : Bool
  frame          : List Byte
  requests       : List Request
  replies        : List Reply
  inProgress     : Option Request
  takingClosed   : Bool
  transmitter    : Transmitter
  clock          : Word32
  cause          : ResetCause
  checkErrors    : Nat
  malformed      : Nat
  wrongDirection : Nat
  busyRefusals   : Nat
  dropped        : Nat
  ignoredCredits : Nat
  deriving DecidableEq, Repr

/-! ## The part -/

/-- Everything the TF3240 holds. `inReset` is the reset input held low (R195). `usPhase` is the model's own: how
many µs of the running millisecond have passed (notes/assumptions/5.md). -/
structure Device where
  lanes    : Table LaneRec 16
  scanner  : Scanner
  trans    : Table KeyTrans 16
  keymaps  : KeymapStore
  ports    : Table Port 32
  rules    : Classifier
  pool     : Pool
  delivery : Delivery
  drawers  : DrawerUnit
  tlu      : ToneUnit
  trunk    : Trunk
  inReset  : Bool
  usPhase  : Nat
  deriving DecidableEq, Repr

end Sys2Proof.Machine
end

