-- ==== Sys2Proof/Machine/Flags.lean ====
section
/-! DEFINITION. Counters and flag bytes: saturating and wrapping counts (00_scope, "Counters"), the record's and
the frame's flags (R106, R197), and the tests that the rules make on levels and positions. -/

namespace Sys2Proof.Machine

/-- A 16-bit saturating counter raised by `n`: it stops at 65535. -/
def sat16 (count n : Nat) : Nat := min 65535 (count + n)

/-- An 8-bit saturating count raised by `n`: it stops at 255 (R76, R139). -/
def sat8 (count n : Nat) : Nat := min 255 (count + n)

/-- The open time raised by one ms: it stops at 2^32 − 1 (R147). -/
def satOpenTime (t : Nat) : Nat := min 4294967295 (t + 1)

/-- One count of a running timer, which stays at 0 until its expiry is taken. -/
def countDown (t : Option Nat) (by' : Nat) : Option Nat := t.map (· - by')

/-- A flag or bit as a number, 1 when set. -/
def bit (b : Bool) : Nat := if b then 1 else 0

/-- The rank of a key-lock position in LOCKED < REG < SUPV < MGR (R1). -/
def KeyLock.rank : KeyLock → Nat
  | .locked => 0 | .reg => 1 | .supv => 2 | .mgr => 3

/-- "At least SUPV" (R14, R152). -/
def KeyLock.atLeastSupv (k : KeyLock) : Bool := 2 ≤ k.rank

/-- The position that the two lock lines code (1.3 of Lanes). -/
def KeyLock.ofLines (lineA lineB : Bool) : KeyLock :=
  match lineA, lineB with
  | false, false => .locked
  | true,  false => .reg
  | true,  true  => .supv
  | false, true  => .mgr

/-- OPEN and SUSPENDED are the scanning states. -/
def LaneState.scanning : LaneState → Bool
  | .opened | .suspended => true
  | .closed | .faulted => false

/-- The flags byte of an event record (R106, R197): AFTER-LOSS, OVERRUN, LATE, FORCED. -/
def Event.flagBits (e : Event) : Nat :=
  bit e.afterLoss + 2 * bit e.overrun + 4 * bit e.late + 8 * bit e.forced

/-- The flags byte of an EVENT frame: the record's flags and URGENT in bit 4 (R145, R197). -/
def frameFlagBits (e : Event) (urgent : Bool) : Nat := e.flagBits + 16 * bit urgent

/-- A class needs a free count above the reserve (KEY, SCAN) or above 0 (R114). -/
def EventClass.underReserve : EventClass → Bool
  | .key | .scan => true
  | .drawer | .lane | .device => false

/-- Bit `i` of a flags word. -/
def hasBit {n : Nat} (m : BitVec n) (i : Nat) : Bool := m.getLsbD i

/-- `m` with bit `i` cleared. -/
def clearBit {n : Nat} (m : BitVec n) (i : Nat) : BitVec n := m &&& ~~~(BitVec.ofNat n (2 ^ i))

/-- Smallest multiple count that covers `a` in steps of `b`, and at least 1 (R68). -/
def ceilDivAtLeastOne (a b : Nat) : Nat := max 1 ((a + b - 1) / b)

end Sys2Proof.Machine
end

