-- ==== Sys2Proof/Machine/ResetValues.lean ====
section
/-! DEFINITION. The value of every item after a device reset, block by block (R1, R23, R47, R61, R71, R90, R118,
R121, R122, R147, R148, R169, R171, R179, R182). `Device.blank` is the part with all of them; start-up, which
offers DEVICE-STARTED, is in Machine/Resets.lean. -/

namespace Sys2Proof.Machine

/-- All defaults of 1.6. -/
def defaultSettings : Settings :=
  { scanPeriod := 8, rows := 8, columns := 16, debounce := 3, rollover := 4, ghostCheck := true,
    missPolicy := .hold, typDelay := 50, typPeriod := 10, switchTimeout := 5, tenderWindow := 15,
    autoKick := none, goodTone := none, badTone := none, noMatch := .acceptRaw, wake := true }

/-- R1. -/
def resetLaneRec : LaneRec :=
  { state := .closed, active := defaultSettings, pendingSet := none, keyLock := .locked, settled := false,
    lockCandidate := none, lockCount := 0, windowOpen := false, tenderTimer := 0, watchTimer := some 8,
    wakeMonitor := true, wakeRef := none, wakeHoldOff := 0, wakeDue := false }

/-- R23, per lane. -/
def resetLaneScan : LaneScan :=
  { dueTimer := none, waiting := false, discard := false, missCount := 0,
    integ := Vector.replicate 128 0, keys := Vector.replicate 128 .released }

/-- R23, device-wide. -/
def resetScanner : Scanner :=
  { laneInPass := none, passLeft := 0, passColumns := 0, passDwell := 0, lastServed := 15, dwell := 12,
    lanes := Vector.replicate 16 resetLaneScan }

/-- Nd and Nr of a setting set (R68). -/
def Settings.delayPasses (g : Settings) : Nat :=
  ceilDivAtLeastOne (g.typDelay * 10 * 1000) (g.scanPeriod * 250)

def Settings.periodPasses (g : Settings) : Nat :=
  ceilDivAtLeastOne (g.typPeriod * 10 * 1000) (g.scanPeriod * 250)

/-- R61; Nd and Nr are those of the defaults (R68). -/
def resetKeyTrans : KeyTrans :=
  { held := Vector.replicate 128 none, owner := none, countdown := 0,
    delayPasses := defaultSettings.delayPasses, periodPasses := defaultSettings.periodPasses }

/-- The entry of three zero bytes (R47, R54). -/
def zeroKeyEntry : KeyEntry :=
  { code := 0, role := .none, repeats := false, tender := false, supervisor := false, silent := false,
    wake := false }

/-- R47: an EMPTY image. -/
def emptyImage : Image := { entries := Vector.replicate 512 zeroKeyEntry, state := .empty }

/-- R47. -/
def resetKeymaps : KeymapStore :=
  { images := Vector.replicate 8 emptyImage,
    lanes := Vector.replicate 16 { active := none, pendingImg := none, switchTimer := none }, verify := none }

/-- A FREE buffer holds no record (R75). -/
def freeBuffer : Buffer := { state := .free, chars := [], received := 0 }

/-- R71. -/
def resetPort : Port :=
  { state := .disabled, bufX := freeBuffer, bufY := freeBuffer, current := some .x,
    markDamaged := false, markOverlength := false, markOverrun := false, badCount := 0, overrun := false,
    idleTimer := none, bitRate := .b9600, terminator := some 13, idleGap := 20, enable := false,
    charRate := none, cRecords := 0, cDamaged := 0, cOverlength := 0, cOverrun := 0, cDiscarded := 0 }

/-- R90: an invalid rule with every other field zero. -/
def zeroRule : ScanRule :=
  { valid := false, action := .accept, check := .none, laneMask := 0, leadLen := 0, lead := Vector.replicate 3 0,
    minLen := 0, maxLen := 0, strip := 0, typeCode := 0 }

/-- R90. -/
def resetRules : Classifier :=
  { active := Vector.replicate 32 { rule := zeroRule, hits := 0 },
    shadow := Vector.replicate 32 { rule := zeroRule, hits := 0 } }

/-- An empty pending queue (R107). -/
def emptyPendLane : PendLane :=
  { queue := [], seq := 0, lossCount := 0, gap := false, waiting := false, waitTimer := none, lastSet := none }

/-- R118, before DEVICE-STARTED is offered. -/
def resetPool : Pool :=
  { slots := Vector.replicate 512 none, freeList := List.finRange 512, lowWater := 512,
    lanes := Vector.replicate 17 emptyPendLane, lastServed := 16, reserve := 16, limit := 100, unwanted := 0 }

/-- An invalid entry with every field zero (R121, R132). -/
def zeroTableEntry : TableEntry :=
  { valid := false, laneMask := 0, classMask := 0, kind := none, consumers := 0, urgent := false, blocked := false }

/-- R122. -/
def resetConsumer (st : ConsumerState) : Consumer :=
  { state := st, credit := 0, depth := 64, urgentQ := [], routineQ := [], lossFlag := false, drops := 0,
    stallTimer := none }

/-- R121, R122. -/
def resetDelivery : Delivery :=
  { table := Vector.replicate 64 zeroTableEntry, policy := .default, defaultSet := 1, stallInterval := 20,
    stallRobust := 2, lastServed := 7,
    consumers := Vector.ofFn fun c : Fin 8 => resetConsumer (if c = 0 then .active else .inactive), walk := none }

/-- A sense level as a position. -/
def sensed (isOpen : Bool) : Position := if isOpen then .opened else .closed

/-- R147: drawer 2L PRESENT, drawer 2L + 1 ABSENT; the sense candidate is the input as first read. -/
def resetDrawer (senseOpen : BitVec 32) (n : Fin 32) : Drawer :=
  { present := n.val % 2 == 0, pulseWidth := 60, confirmTime := 50, openLimit := 60,
    senseInput := sensed (hasBit senseOpen n.val), candidate := sensed (hasBit senseOpen n.val),
    stability := if n.val % 2 == 0 then some 10 else none, position := .closed, settled := false, kick := .idle,
    openedInPulse := false, unitHeld := none, kickTimer := none, openTime := 0, limitTimer := none,
    limitSubMs := 0, limitsPassed := 0, openCount := 0 }

/-- R148. -/
def resetDrawers (i : Inputs) : DrawerUnit :=
  { drawers := Vector.ofFn (resetDrawer i.senseOpen),
    units := Vector.replicate 8 { state := .available, timer := none }, supplyLimit := 2, pendingLimit := none,
    supplyGap := 10, waitList := [], inhibit := false, monitor := true, supplyHigh := i.supplyHigh }

/-- The tone table of R169. -/
def resetTone (n : Fin 8) : Tone :=
  if n = 0 then { divider := 200, onTime := 6, offTime := 0, repeats := 1, level := 1 }
  else if n = 1 then { divider := 1000, onTime := 15, offTime := 10, repeats := 3, level := 2 }
  else if n = 7 then { divider := 500, onTime := 20, offTime := 80, repeats := 2, level := 3 }
  else { divider := 200, onTime := 6, offTime := 0, repeats := 1, level := 0 }

/-- R171. -/
def idleGenerator : Generator :=
  { playing := none, phase := .sounding, phaseTimer := none, cycles := 0, phaseUs := 0 }

/-- R169, R171, R179. -/
def resetToneUnit : ToneUnit :=
  { tones := Vector.ofFn resetTone, generators := Vector.replicate 16 idleGenerator, flash := 0,
    lamps := Vector.replicate 16 { overrideMode := none, staged := none } }

/-- The bit rate that the straps select (R183). -/
def rateOfStraps (i : Inputs) : TrunkRate :=
  match i.strapA, i.strapB with
  | false, false => .k250
  | true,  false => .k500
  | false, true  => .k1000
  | true,  true  => .k2000

/-- R182. -/
def resetTrunk (cause : ResetCause) (i : Inputs) : Trunk :=
  { bitRate := rateOfStraps i, receiver := .waitIdle, waitFresh := true, frame := [], requests := [],
    replies := [], inProgress := none, takingClosed := false, transmitter := .free, clock := 0, cause := cause,
    checkErrors := 0, malformed := 0, wrongDirection := 0, busyRefusals := 0, dropped := 0, ignoredCredits := 0 }

/-- Every block at the values its chapter gives for a device reset (R195, step 1). -/
def Device.blank (cause : ResetCause) (i : Inputs) : Device :=
  { lanes := Vector.replicate 16 resetLaneRec, scanner := resetScanner, trans := Vector.replicate 16 resetKeyTrans,
    keymaps := resetKeymaps, ports := Vector.replicate 32 resetPort, rules := resetRules, pool := resetPool,
    delivery := resetDelivery, drawers := resetDrawers i, tlu := resetToneUnit, trunk := resetTrunk cause i,
    inReset := false, usPhase := 0 }

end Sys2Proof.Machine
end

