-- ==== Sys2Proof/Machine/Operands.lean ====
section
/-! DEFINITION. The operands that requests carry and replies return, as bytes (11 of the book): fields of one, two
and four bytes least significant byte first (R196, R198), the codes of every enumerated field, and the layouts of
a lane setting set, a keymap entry, a delivery table entry and a scan rule (11.4). A decoder answers `none` for
what R196 refuses REFUSED-MALFORMED: a code outside its list, a reserved bit that is not 0, a wrong length. -/

namespace Sys2Proof.Machine

/-! ## Numbers in bytes -/

/-- A field of one byte. -/
def out1 (n : Nat) : List Byte := [BitVec.ofNat 8 n]

/-- A field of two bytes, least significant first (R196). -/
def out2 (n : Nat) : List Byte := [BitVec.ofNat 8 n, BitVec.ofNat 8 (n / 256)]

/-- A field of four bytes, least significant first (R196). -/
def out4 (n : Nat) : List Byte :=
  [BitVec.ofNat 8 n, BitVec.ofNat 8 (n / 256), BitVec.ofNat 8 (n / 65536), BitVec.ofNat 8 (n / 16777216)]

/-- A flag takes one byte, 1 when set and 0 when clear (R198). -/
def outFlag (b : Bool) : List Byte := out1 (bit b)

/-- "None", "absent" and "stopped" are all ones (R198). -/
def outOpt1 (o : Option Nat) : List Byte := out1 (o.getD 0xFF)

def outOpt2 (o : Option Nat) : List Byte := out2 (o.getD 0xFFFF)

def outOpt4 (o : Option Nat) : List Byte := out4 (o.getD 0xFFFFFFFF)

/-- The number of a two-byte field. -/
def in2 (lo hi : Byte) : Nat := lo.toNat + 256 * hi.toNat

/-- The number of a four-byte field. -/
def in4 (a b c e : Byte) : Nat := a.toNat + 256 * b.toNat + 65536 * c.toNat + 16777216 * e.toNat

/-- An index below `n`, or nothing (R2, R50, R87, R100, R130, R165, R175). -/
def inIndex (n : Nat) (b : Byte) : Option (Fin n) := if h : b.toNat < n then some ⟨b.toNat, h⟩ else none

/-- A flag or a two-valued enumeration with codes 0 and 1; any other code is not listed. -/
def inBool (b : Byte) : Option Bool :=
  if b.toNat = 0 then some false else if b.toNat = 1 then some true else none

/-- A value brought to its range, and whether that changed it (00_scope, "Settings and clamping"). -/
def clampTo (lo hi v : Nat) : Nat := min hi (max lo v)

/-! ## Codes of enumerated fields (11.3, R198) -/

def LaneState.code : LaneState → Nat
  | .closed => 0 | .opened => 1 | .suspended => 2 | .faulted => 3

def KeyLock.code (k : KeyLock) : Nat := k.rank

def Role.code : Role → Nat
  | .none => 0 | .modA => 1 | .modB => 2

def ImageState.code : ImageState → Nat
  | .empty => 0 | .opened => 1 | .ready => 2

def KeyState.code : KeyState → Nat
  | .released => 0 | .pressed => 1 | .blocked => 2 | .latched => 3

def PortState.code : PortState → Nat
  | .active => 0 | .stopping => 1 | .disabled => 2

def BufferState.code : BufferState → Nat
  | .free => 0 | .filling => 1 | .held => 2

def BufferId.code : BufferId → Nat
  | .x => 0 | .y => 1

def PortRate.code : PortRate → Nat
  | .b9600 => 0 | .b19200 => 1 | .b38400 => 2 | .b57600 => 3 | .b115200 => 4

def PortRate.ofCode : Nat → Option PortRate
  | 0 => some .b9600 | 1 => some .b19200 | 2 => some .b38400 | 3 => some .b57600 | 4 => some .b115200
  | _ => none

def EventClass.code : EventClass → Nat
  | .key => 1 | .scan => 2 | .drawer => 3 | .lane => 4 | .device => 5

def EventClass.ofCode : Nat → Option EventClass
  | 1 => some .key | 2 => some .scan | 3 => some .drawer | 4 => some .lane | 5 => some .device
  | _ => none

/-- The bit of a class in a class mask: bit 0 KEY to bit 4 DEVICE (11.4). -/
def EventClass.maskBit (c : EventClass) : Nat := c.code - 1

/-- The kind codes of 11.3. -/
def Kind.code : Kind → Nat
  | .keyPress => 0x10 | .keyRelease => 0x11 | .keyRepeat => 0x12 | .keyRefused => 0x13
  | .scanGood => 0x20 | .scanBadCheck => 0x21 | .scanRejected => 0x22 | .scanOverlength => 0x23
  | .scanDamaged => 0x24
  | .drawerOpened => 0x30 | .drawerClosed => 0x31 | .kickDone => 0x32 | .kickRefused => 0x33
  | .kickFailed => 0x34 | .kickAborted => 0x35 | .forcedOpen => 0x36 | .openTooLong => 0x37
  | .laneState => 0x40 | .keylock => 0x41 | .activity => 0x42 | .keymapSwitched => 0x43
  | .deviceStarted => 0x50 | .supplyFault => 0x51 | .consumerStalled => 0x52 | .consumerRevived => 0x53

def allKinds : List Kind :=
  [.keyPress, .keyRelease, .keyRepeat, .keyRefused,
   .scanGood, .scanBadCheck, .scanRejected, .scanOverlength, .scanDamaged,
   .drawerOpened, .drawerClosed, .kickDone, .kickRefused, .kickFailed, .kickAborted, .forcedOpen, .openTooLong,
   .laneState, .keylock, .activity, .keymapSwitched,
   .deviceStarted, .supplyFault, .consumerStalled, .consumerRevived]

def Kind.ofCode (n : Nat) : Option Kind := allKinds.find? fun k => k.code == n

def UnmatchedPolicy.ofCode : Nat → Option UnmatchedPolicy
  | 0 => some .discard | 1 => some .default | 2 => some .all | _ => none

def ConsumerState.code : ConsumerState → Nat
  | .inactive => 0 | .active => 1 | .stalled => 2

/-- CLOSED 0, OPEN 1: the order of the item "position" in R147. -/
def Position.code : Position → Nat
  | .closed => 0 | .opened => 1

/-- OPEN 0, CLOSED 1: the order in which R147 first lists the values of a sense input
(notes/assumptions/12.md). -/
def Position.senseCode : Position → Nat
  | .opened => 0 | .closed => 1

def KickState.code : KickState → Nat
  | .idle => 0 | .waiting => 1 | .energized => 2 | .confirming => 3

def UnitState.code : UnitState → Nat
  | .available => 0 | .energizing => 1 | .recovering => 2

/-- A line that R148 lists as "high, low": high 0, low 1 (notes/assumptions/12.md). -/
def lineCode (high : Bool) : Nat := if high then 0 else 1

/-- An output or window that its rule lists as "asserted, off" or "OPEN-WINDOW, CLOSED-WINDOW": the first 0, the
second 1 (notes/assumptions/12.md). -/
def firstListedCode (first : Bool) : Nat := if first then 0 else 1

def LampMode.code : LampMode → Nat
  | .off => 0 | .on => 1 | .flashSlow => 2 | .flashFast => 3

/-- A lamp mode or AUTO (4). -/
def lampCode (m : Option LampMode) : Nat := (m.map LampMode.code).getD 4

def lampOfCode : Nat → Option (Option LampMode)
  | 0 => some (some .off) | 1 => some (some .on) | 2 => some (some .flashSlow) | 3 => some (some .flashFast)
  | 4 => some none
  | _ => none

def TrunkRate.code : TrunkRate → Nat
  | .k250 => 0 | .k500 => 1 | .k1000 => 2 | .k2000 => 3

def ResetCause.code : ResetCause → Nat
  | .powerOn => 1 | .pin => 2 | .trunk => 3

/-- The reply codes of 11.2. -/
def ReplyCode.code : ReplyCode → Nat
  | .done => 0x00 | .doneClamped => 0x01 | .donePresent => 0x02 | .doneAbsent => 0x03 | .doneIgnored => 0x04
  | .refusedBusy => 0x80 | .refusedMalformed => 0x81 | .refusedUnknown => 0x82 | .refusedState => 0x83
  | .refusedInUse => 0x84 | .refusedNotReady => 0x85 | .refusedCheck => 0x86 | .refusedInterlock => 0x87
  | .refusedInhibited => 0x88 | .refusedNoKeymap => 0x89

/-! ## The request codes of 11.2 -/

def rcOpenLane : Nat := 0x01
def rcCloseLane : Nat := 0x02
def rcSuspendLane : Nat := 0x03
def rcResumeLane : Nat := 0x04
def rcResetLane : Nat := 0x05
def rcSetLane : Nat := 0x06
def rcReadLane : Nat := 0x07
def rcSetScan : Nat := 0x10
def rcReadKeys : Nat := 0x11
def rcWriteKeymap : Nat := 0x18
def rcReadKeymap : Nat := 0x19
def rcVerifyKeymap : Nat := 0x1A
def rcEraseKeymap : Nat := 0x1B
def rcAssignKeymap : Nat := 0x1C
def rcSetPort : Nat := 0x20
def rcReadPort : Nat := 0x21
def rcWriteRule : Nat := 0x28
def rcReadRule : Nat := 0x29
def rcCommitRules : Nat := 0x2A
def rcSetAdmission : Nat := 0x30
def rcReadPool : Nat := 0x31
def rcTableRead : Nat := 0x38
def rcTableWrite : Nat := 0x39
def rcTableDelete : Nat := 0x3A
def rcTableSearch : Nat := 0x3B
def rcTableClear : Nat := 0x3C
def rcSetUnmatched : Nat := 0x3D
def rcSetConsumer : Nat := 0x3E
def rcFlushConsumer : Nat := 0x3F
def rcSetStall : Nat := 0x40
def rcReadConsumer : Nat := 0x41
def rcKick : Nat := 0x48
def rcClearInhibit : Nat := 0x49
def rcSetDrawer : Nat := 0x4A
def rcReadDrawer : Nat := 0x4B
def rcClearCounter : Nat := 0x4C
def rcWriteTone : Nat := 0x50
def rcPlayTone : Nat := 0x51
def rcStopTone : Nat := 0x52
def rcSetLamp : Nat := 0x53
def rcStatus : Nat := 0x60
def rcSetTime : Nat := 0x61
def rcDeviceReset : Nat := 0x62

/-- Every request code the TF3240 knows (R188). -/
def knownCodes : List Nat :=
  [rcOpenLane, rcCloseLane, rcSuspendLane, rcResumeLane, rcResetLane, rcSetLane, rcReadLane, rcSetScan,
   rcReadKeys, rcWriteKeymap, rcReadKeymap, rcVerifyKeymap, rcEraseKeymap, rcAssignKeymap, rcSetPort, rcReadPort,
   rcWriteRule, rcReadRule, rcCommitRules, rcSetAdmission, rcReadPool, rcTableRead, rcTableWrite, rcTableDelete,
   rcTableSearch, rcTableClear, rcSetUnmatched, rcSetConsumer, rcFlushConsumer, rcSetStall, rcReadConsumer,
   rcKick, rcClearInhibit, rcSetDrawer, rcReadDrawer, rcClearCounter, rcWriteTone, rcPlayTone, rcStopTone,
   rcSetLamp, rcStatus, rcSetTime, rcDeviceReset]

/-- The block that owns a request (R188). -/
inductive Owner where
  | laneController | matrixScanner | keymapStore | scannerPorts | scanClassifier | eventPool | deliveryUnit
  | drawerUnit | toneAndLampUnit | trunkPort
  deriving DecidableEq, Repr

/-- The owner of a request code; nothing for a code the part does not know. -/
def ownerOf (code : Nat) : Option Owner :=
  if code ∈ knownCodes then
    if code ≤ 0x07 then some .laneController
    else if code ≤ 0x11 then some .matrixScanner
    else if code ≤ 0x1C then some .keymapStore
    else if code ≤ 0x21 then some .scannerPorts
    else if code ≤ 0x2A then some .scanClassifier
    else if code ≤ 0x31 then some .eventPool
    else if code ≤ 0x41 then some .deliveryUnit
    else if code ≤ 0x4C then some .drawerUnit
    else if code ≤ 0x53 then some .toneAndLampUnit
    else some .trunkPort
  else none

/-! ## A request's parts -/

/-- The request code, absent in a request of payload length 0 (R188). -/
def Request.code? (r : Request) : Option Nat := r.payload.head?.map BitVec.toNat

/-- The request code that its reply carries: 0 for a request of payload length 0 (R188, R189). -/
def Request.replyCode (r : Request) : Byte := r.payload.head?.getD 0

/-- The fields after the request code (R198). -/
def Request.fields (r : Request) : List Byte := r.payload.tail

/-- The block that owns the request. -/
def Request.owner (r : Request) : Option Owner := r.code?.bind ownerOf

/-! ## The lane setting set: 16 bytes (11.4) -/

def inAutoKick (b : Byte) : Option (Option (Fin 2)) :=
  if b.toNat = 0xFF then some none else (inIndex 2 b).map some

def inToneSel (b : Byte) : Option (Option (Fin 8)) :=
  if b.toNat = 0xFF then some none else (inIndex 8 b).map some

/-- The set as carried, before clamping; absent if an enumerated setting holds a code outside its list (R20). -/
def rawSettings : List Byte → Option Settings
  | [ts, rw, cl, db, ro, gh, mp, td, tp, sw, tw, ak, gt, bt, nm, wk] => do
    let ghost ← inBool gh
    let miss ← inBool mp
    let auto ← inAutoKick ak
    let good ← inToneSel gt
    let bad ← inToneSel bt
    let noMatch ← inBool nm
    let wake ← inBool wk
    some
      { scanPeriod := ts.toNat, rows := rw.toNat, columns := cl.toNat, debounce := db.toNat,
        rollover := ro.toNat, ghostCheck := ghost, missPolicy := if miss then .fault else .hold,
        typDelay := td.toNat, typPeriod := tp.toNat, switchTimeout := sw.toNat, tenderWindow := tw.toNat,
        autoKick := auto, goodTone := good, badTone := bad,
        noMatch := if noMatch then .rejectReport else .acceptRaw, wake := wake }
  | _ => none

/-- Every numeric setting brought to the nearest limit of its range (R20). -/
def Settings.clamped (g : Settings) : Settings :=
  { g with
    scanPeriod := clampTo 2 40 g.scanPeriod
    rows := clampTo 1 8 g.rows
    columns := clampTo 1 16 g.columns
    debounce := clampTo 1 15 g.debounce
    rollover := clampTo 2 8 g.rollover
    typDelay := clampTo 10 255 g.typDelay
    typPeriod := clampTo 3 255 g.typPeriod
    switchTimeout := clampTo 1 25 g.switchTimeout
    tenderWindow := clampTo 1 60 g.tenderWindow }

def outSettings (g : Settings) : List Byte :=
  out1 g.scanPeriod ++ out1 g.rows ++ out1 g.columns ++ out1 g.debounce ++ out1 g.rollover ++
  outFlag g.ghostCheck ++ outFlag (g.missPolicy = .fault) ++ out1 g.typDelay ++ out1 g.typPeriod ++
  out1 g.switchTimeout ++ out1 g.tenderWindow ++ outOpt1 (g.autoKick.map Fin.val) ++
  outOpt1 (g.goodTone.map Fin.val) ++ outOpt1 (g.badTone.map Fin.val) ++
  outFlag (g.noMatch = .rejectReport) ++ outFlag g.wake

/-! ## The keymap entry: 3 bytes (11.4) -/

def inRole (n : Nat) : Option Role :=
  if n = 0 then some .none else if n = 1 then some .modA else if n = 2 then some .modB else none

def inKeyEntry (b0 b1 b2 : Byte) : Option KeyEntry :=
  if 64 ≤ b1.toNat ∨ 32 ≤ b2.toNat then none
  else (inRole (b1.toNat / 16)).map fun role =>
    { code := BitVec.ofNat 12 (b0.toNat + 256 * (b1.toNat % 16)), role := role,
      repeats := hasBit b2 0, tender := hasBit b2 1, supervisor := hasBit b2 2, silent := hasBit b2 3,
      wake := hasBit b2 4 }

def inKeyEntries : List Byte → Option (List KeyEntry)
  | [] => some []
  | a :: b :: c :: rest => do
    let e ← inKeyEntry a b c
    let es ← inKeyEntries rest
    some (e :: es)
  | _ => none

def outKeyEntry (e : KeyEntry) : List Byte :=
  out1 (e.code.toNat % 256) ++ out1 (e.code.toNat / 256 + 16 * e.role.code) ++
  out1 (bit e.repeats + 2 * bit e.tender + 4 * bit e.supervisor + 8 * bit e.silent + 16 * bit e.wake)

/-! ## The delivery table entry: 7 bytes (11.4) -/

/-- The kind filter: 00h ANY, or a kind code. -/
def inKindFilter (b : Byte) : Option (Option Kind) :=
  if b.toNat = 0 then some none else (Kind.ofCode b.toNat).map some

def inTableEntry : List Byte → Option TableEntry
  | [l0, l1, l2, cm, kf, co, ps] =>
    if 2 ≤ l2.toNat ∨ 32 ≤ cm.toNat ∨ 4 ≤ ps.toNat then none
    else (inKindFilter kf).map fun kind =>
      { valid := true, laneMask := BitVec.ofNat 17 (in2 l0 l1 + 65536 * l2.toNat),
        classMask := BitVec.ofNat 5 cm.toNat, kind := kind, consumers := co, urgent := hasBit ps 0,
        blocked := hasBit ps 1 }
  | _ => none

def outTableEntry (e : TableEntry) : List Byte :=
  out2 e.laneMask.toNat ++ out1 (e.laneMask.toNat / 65536) ++ out1 e.classMask.toNat ++
  out1 ((e.kind.map Kind.code).getD 0) ++ [e.consumers] ++ out1 (bit e.urgent + 2 * bit e.blocked)

/-! ## The scan rule: 11 bytes (11.4) -/

def inAction (n : Nat) : Option RuleAction :=
  if n = 0 then some .accept else if n = 1 then some .rejectSilent else if n = 2 then some .rejectReport else none

def inCheck (n : Nat) : Option RuleCheck :=
  if n = 0 then some .none else if n = 1 then some .mod10 else none

def RuleAction.code : RuleAction → Nat
  | .accept => 0 | .rejectSilent => 1 | .rejectReport => 2

def RuleCheck.code : RuleCheck → Nat
  | .none => 0 | .mod10 => 1

/-- The rule as carried, before clamping. -/
def rawRule : List Byte → Option ScanRule
  | [b0, m0, m1, pl, p0, p1, p2, mn, mx, st, ty] =>
    if 32 ≤ b0.toNat then none
    else do
      let act ← inAction (b0.toNat / 2 % 4)
      let chk ← inCheck (b0.toNat / 8)
      some { valid := hasBit b0 0, action := act, check := chk, laneMask := BitVec.ofNat 16 (in2 m0 m1),
             leadLen := pl.toNat, lead := #v[p0, p1, p2], minLen := mn.toNat, maxLen := mx.toNat,
             strip := st.toNat, typeCode := ty }
  | _ => none

/-- Lengths brought to 1 to 48, prefix length and strip count to at most 3 (R101). -/
def ScanRule.clamped (r : ScanRule) : ScanRule :=
  { r with
    minLen := clampTo 1 48 r.minLen
    maxLen := clampTo 1 48 r.maxLen
    leadLen := min 3 r.leadLen
    strip := min 3 r.strip }

def outRule (r : ScanRule) : List Byte :=
  out1 (bit r.valid + 2 * r.action.code + 8 * r.check.code) ++ out2 r.laneMask.toNat ++ out1 r.leadLen ++
  r.lead.toList ++ out1 r.minLen ++ out1 r.maxLen ++ out1 r.strip ++ [r.typeCode]

end Sys2Proof.Machine
end

