-- ==== Sys2Proof/Machine/Frames.lean ====
section
/-! DEFINITION. Trunk frames (R183 to R186, R196, R197): the check word, what a complete received frame is judged
to be, and the bytes of the frames sent. -/

namespace Sys2Proof.Machine

/-! ## The check word (R185) -/

/-- The register shifted by one place; the polynomial is combined in if the bit shifted out differs from the
bit fed in. -/
def crcBit (reg : Word16) (b : Bool) : Word16 :=
  if reg.getMsbD 0 != b then (reg <<< 1) ^^^ 0x1021 else reg <<< 1

/-- One byte, most significant bit first. -/
def crcByte (reg : Word16) (b : Byte) : Word16 :=
  (List.range 8).foldl (fun r i => crcBit r (b.getMsbD i)) reg

/-- The check word of the bytes from the kind byte to the last payload byte. -/
def checkWord (bs : List Byte) : Word16 := bs.foldl crcByte 0xFFFF

/-- The two check bytes, high byte first. -/
def checkBytes (bs : List Byte) : List Byte :=
  [BitVec.ofNat 8 ((checkWord bs).toNat / 256), BitVec.ofNat 8 (checkWord bs).toNat]

/-! ## Received frames -/

/-- The four kinds of frame (11.2). -/
inductive FrameKind where
  | request | reply | credit | event
  deriving DecidableEq, Repr

def FrameKind.code : FrameKind → Nat
  | .request => 0xA1 | .reply => 0xA2 | .credit => 0xC1 | .event => 0xE1

def FrameKind.ofCode (n : Nat) : Option FrameKind :=
  if n = 0xA1 then some .request else if n = 0xA2 then some .reply
  else if n = 0xC1 then some .credit else if n = 0xE1 then some .event else none

/-- The length byte of a frame under reception, once its third byte is stored. -/
def frameLength (f : List Byte) : Option Nat := f[2]?.map BitVec.toNat

/-- The received count has reached 5 + the payload length (R184). -/
def frameComplete (f : List Byte) : Bool := frameLength f == some (f.length - 5) && decide (5 ≤ f.length)

/-- The third byte stored holds a length above 64 (R184). -/
def lengthTooLong (f : List Byte) : Bool :=
  f.length == 3 && (match frameLength f with | some n => decide (64 < n) | none => false)

/-- Why a complete frame is discarded (R186). -/
inductive Rejection where
  | checkError | unknownKind | wrongDirection | creditLength
  deriving DecidableEq, Repr

/-- What a complete frame is judged to be (R186). -/
inductive Verdict where
  | request (r : Request)
  | credit (consumer count : Nat)
  | rejected (why : Rejection)
  deriving DecidableEq, Repr

/-- R186: the first test that fails settles it. -/
def judge (f : List Byte) : Verdict :=
  let body := f.take (f.length - 2)
  if f.drop (f.length - 2) ≠ checkBytes body then .rejected .checkError
  else match body with
    | k :: a :: _ :: payload =>
      match FrameKind.ofCode k.toNat with
      | none => .rejected .unknownKind
      | some .event | some .reply => .rejected .wrongDirection
      | some .request => .request { tag := a, payload := payload }
      | some .credit =>
        match payload with
        | [n] => .credit a.toNat n.toNat
        | _ => .rejected .creditLength
    | _ => .rejected .checkError

/-! ## Frames sent -/

/-- The event record's header and body (R197). `afterLoss` is already the frame's. -/
def eventPayload (ev : Event) (body : List Byte) (urgent : Bool) : List Byte :=
  out1 ev.lane.val ++ out2 ev.seq.toNat ++ out1 ev.kind.cls.code ++ out1 ev.kind.code ++
  out1 (frameFlagBits ev urgent) ++ out4 ev.time.toNat ++ [ev.source.getD 0xFF] ++ [ev.detail1, ev.detail2] ++
  out1 body.length ++ body

/-- A reply's payload: request code, reply code, reply fields (R189). -/
def replyPayload (r : Reply) : List Byte := [r.request] ++ out1 r.code.code ++ r.fields

def OutFrame.kind : OutFrame → FrameKind
  | .reply _ => .reply
  | .event .. => .event

def OutFrame.address : OutFrame → Byte
  | .reply r => r.tag
  | .event c .. => BitVec.ofNat 8 c.val

def OutFrame.payload : OutFrame → List Byte
  | .reply r => replyPayload r
  | .event _ ev body urgent => eventPayload ev body urgent

/-- Kind, address, length and payload: what the check word covers. -/
def OutFrame.checked (f : OutFrame) : List Byte :=
  out1 f.kind.code ++ [f.address] ++ out1 f.payload.length ++ f.payload

/-- The frame on the line (R183, R185). -/
def OutFrame.bytes (f : OutFrame) : List Byte := f.checked ++ checkBytes f.checked

/-- The DONE reply of DEVICE-RESET, at whose end the part resets (R194). -/
def OutFrame.isResetDone : OutFrame → Bool
  | .reply r => r.request.toNat == rcDeviceReset && r.code == .done
  | .event .. => false

end Sys2Proof.Machine
end

