-- ==== Sys2Proof/Machine/Ops.lean ====
section
/-! DEFINITION. The operations that several commands share: updates of one record of a block, lane and port
numbers, the arbiters' rotation, offering an event to a pending queue and losing one (R107 to R109), giving up and
flushing references (R111, R128, R129), the stall timer (R140), releasing a port buffer (R80), tone requests
(R173), and lamps (R179, R180). -/

namespace Sys2Proof.Machine

/-! ## Tables -/

/-- The table with record `i` changed by `f`. -/
def upd {α : Type} {n : Nat} (v : Table α n) (i : Fin n) (f : α → α) : Table α n := v.set i (f v[i])

/-- The table whose record `i` is `f i`. -/
def tab {α : Type} {n : Nat} (f : Fin n → α) : Table α n := Vector.ofFn f

/-- Every record of the table changed by `f`. -/
def mapTab {α β : Type} {n : Nat} (v : Table α n) (f : α → β) : Table β n := tab fun i => f v[i]

/-- An arbiter's search order: from the one after the last served, wrapping, to the last served itself
(R27, R112, R144). -/
def rotation {n : Nat} [NeZero n] (last : Fin n) : List (Fin n) := (List.finRange n).map fun k => last + 1 + k

/-! ## Numbers -/

/-- The lane of a port or of a drawer (00_scope, "Numbering"). -/
def laneOf (p : Fin 32) : Fin 16 := ⟨p.val / 2, by omega⟩

/-- Which of its lane's two ports or drawers this is: the source byte of its events. -/
def sideOf (p : Fin 32) : Byte := BitVec.ofNat 8 (p.val % 2)

/-- Port or drawer `k` of a lane: number 2L + k. -/
def ofLane (l : Fin 16) (k : Fin 2) : Fin 32 := ⟨2 * l.val + k.val, by omega⟩

/-- The pending queue of a lane. -/
def laneQueue (l : Fin 16) : Fin 17 := ⟨l.val, by omega⟩

/-- Lane 16, the device lane. -/
def deviceQueue : Fin 17 := 16

/-- A small number as a byte of an event. -/
def byteOf (n : Nat) : Byte := BitVec.ofNat 8 n

/-! ## Updates of the device -/

def Device.updLane (d : Device) (l : Fin 16) (f : LaneRec → LaneRec) : Device := { d with lanes := upd d.lanes l f }

def Device.updScanner (d : Device) (f : Scanner → Scanner) : Device := { d with scanner := f d.scanner }

def Device.updScan (d : Device) (l : Fin 16) (f : LaneScan → LaneScan) : Device :=
  d.updScanner fun m => { m with lanes := upd m.lanes l f }

def Device.updTrans (d : Device) (l : Fin 16) (f : KeyTrans → KeyTrans) : Device :=
  { d with trans := upd d.trans l f }

def Device.updKeymaps (d : Device) (f : KeymapStore → KeymapStore) : Device := { d with keymaps := f d.keymaps }

def Device.updMap (d : Device) (l : Fin 16) (f : LaneMap → LaneMap) : Device :=
  d.updKeymaps fun k => { k with lanes := upd k.lanes l f }

def Device.updPort (d : Device) (p : Fin 32) (f : Port → Port) : Device := { d with ports := upd d.ports p f }

def Device.updRules (d : Device) (f : Classifier → Classifier) : Device := { d with rules := f d.rules }

def Device.updPool (d : Device) (f : Pool → Pool) : Device := { d with pool := f d.pool }

def Device.updPend (d : Device) (q : Fin 17) (f : PendLane → PendLane) : Device :=
  d.updPool fun p => { p with lanes := upd p.lanes q f }

def Device.updDelivery (d : Device) (f : Delivery → Delivery) : Device := { d with delivery := f d.delivery }

def Device.updConsumer (d : Device) (c : Fin 8) (f : Consumer → Consumer) : Device :=
  d.updDelivery fun u => { u with consumers := upd u.consumers c f }

def Device.updDrawers (d : Device) (f : DrawerUnit → DrawerUnit) : Device := { d with drawers := f d.drawers }

def Device.updDrawer (d : Device) (n : Fin 32) (f : Drawer → Drawer) : Device :=
  d.updDrawers fun u => { u with drawers := upd u.drawers n f }

def Device.updTlu (d : Device) (f : ToneUnit → ToneUnit) : Device := { d with tlu := f d.tlu }

def Device.updGen (d : Device) (l : Fin 16) (f : Generator → Generator) : Device :=
  d.updTlu fun u => { u with generators := upd u.generators l f }

def Device.updLamp (d : Device) (l : Fin 16) (f : Lamp → Lamp) : Device :=
  d.updTlu fun u => { u with lamps := upd u.lamps l f }

def Device.updTrunk (d : Device) (f : Trunk → Trunk) : Device := { d with trunk := f d.trunk }

/-! ## Port buffers (R75, R80) -/

def Port.buf (p : Port) : BufferId → Buffer
  | .x => p.bufX
  | .y => p.bufY

def Port.setBuf (p : Port) (b : BufferId) (v : Buffer) : Port :=
  match b with
  | .x => { p with bufX := v }
  | .y => { p with bufY := v }

def BufferId.other : BufferId → BufferId
  | .x => .y
  | .y => .x

/-- A HELD buffer becomes FREE with its contents discarded, and is the current buffer if the port had none
(R80, R75). -/
def Port.release (p : Port) (b : BufferId) : Port :=
  if (p.buf b).state = .held then
    let q := p.setBuf b freeBuffer
    { q with current := some (q.current.getD b) }
  else p

/-- READY is asserted exactly while the port is ACTIVE and has a current buffer (R82). -/
def Port.ready (p : Port) : Bool := p.state == .active && p.current.isSome

/-- The scanner buffer an entry refers to is released; an entry with no such body refers to none. -/
def Device.releaseBody (d : Device) (b : BodyRef) : Device :=
  match b with
  | .buffer port buf _ _ => d.updPort port fun p => p.release buf
  | .absent | .bytes _ => d

/-! ## Events: offer and loss (R104 to R109) -/

/-- What a block fills in of an event: all but the lane, the sequence number, the time and AFTER-LOSS. -/
structure Notice where
  kind    : Kind
  overrun : Bool := false
  late    : Bool := false
  forced  : Bool := false
  source  : Option Byte := none
  detail1 : Byte := 0
  detail2 : Byte := 0
  body    : BodyRef := .absent
  deriving DecidableEq, Repr

/-- The event record offered on queue `q` now: the lane's next sequence number and the device clock (R104,
R108). -/
def Device.eventOf (d : Device) (q : Fin 17) (n : Notice) : Event :=
  { lane := q, seq := d.pool.lanes[q].seq, kind := n.kind, afterLoss := false, overrun := n.overrun,
    late := n.late, forced := n.forced, time := d.trunk.clock, source := n.source, detail1 := n.detail1,
    detail2 := n.detail2 }

/-- R109: a lost entry raises the loss counter, sets the gap mark and releases the buffer it refers to. -/
def Device.loseEntry (d : Device) (q : Fin 17) (e : Entry) : Device :=
  (d.updPend q fun p => { p with lossCount := sat16 p.lossCount 1, gap := true }).releaseBody e.body

/-- R108: the event takes the lane's next sequence number, and is appended, or lost when the queue holds 8. -/
def Device.offer (d : Device) (q : Fin 17) (n : Notice) : Device :=
  let e : Entry := { ev := d.eventOf q n, body := n.body }
  let d1 := d.updPend q fun p => { p with seq := p.seq + 1 }
  if d.pool.lanes[q].queue.length < Config.queueDepth then
    d1.updPend q fun p => { p with queue := p.queue ++ [e] }
  else d1.loseEntry q e

/-- The head leaves its queue, and the head state, wait timer and last computed set return to FRESH, stopped and
absent (R107). -/
def PendLane.popHead (p : PendLane) : PendLane :=
  { p with queue := p.queue.tail, waiting := false, waitTimer := none, lastSet := none }

/-! ## References and consumers (R111, R128, R129, R140) -/

/-- The number of free slots (R110). -/
def Pool.freeCount (p : Pool) : Nat := p.freeList.length

/-- R111: one reference to the slot is given up; at 0 the slot is freed and joins the tail of the free list. -/
def Pool.giveUp (p : Pool) (k : Fin 512) : Pool :=
  match p.slots[k] with
  | none => p
  | some s =>
    if s.refs ≤ 1 then { p with slots := p.slots.set k none, freeList := p.freeList ++ [k] }
    else { p with slots := p.slots.set k (some { s with refs := s.refs - 1 }) }

/-- The references queued to a consumer, both queues together (R127). -/
def Consumer.queued (c : Consumer) : Nat := c.urgentQ.length + c.routineQ.length

/-- `n` references missed: the loss flag is set if there was one, and the drop counter rises by `n` (R129). -/
def Consumer.miss (c : Consumer) (n : Nat) : Consumer :=
  { c with lossFlag := c.lossFlag || decide (0 < n), drops := sat16 c.drops n }

/-- The three things that hold together while the stall timer runs (R140). -/
def Consumer.stalling (c : Consumer) : Bool := c.state == .active && c.credit == 0 && decide (0 < c.queued)

/-- Stall interval × stall robustness × 100 ms (R140). -/
def Delivery.stallTime (u : Delivery) : Nat := u.stallInterval * u.stallRobust * 100

/-- The stall timer is loaded when its conditions come to hold, runs on while they hold, and stops when one stops
holding (R140). -/
def Consumer.syncStall (stallTime : Nat) (c : Consumer) : Consumer :=
  { c with stallTimer := if c.stalling then some (c.stallTimer.getD stallTime) else none }

/-- A consumer changed, with its stall timer brought up to date. -/
def Device.changeConsumer (d : Device) (c : Fin 8) (f : Consumer → Consumer) : Device :=
  d.updConsumer c fun k => (f k).syncStall d.delivery.stallTime

/-- References given up one after another (R128). -/
def Device.giveUpAll (d : Device) (refs : List (Fin 512)) : Device := d.updPool fun p => refs.foldl Pool.giveUp p

/-- The references of both queues, in the order a flush gives them up (R128). -/
def Consumer.refs (c : Consumer) : List (Fin 512) := c.urgentQ ++ c.routineQ

/-- R128, R129: both queues are flushed, URGENT first, and the consumer is flagged if anything was flushed. -/
def Device.flush (d : Device) (c : Fin 8) : Device :=
  let refs := d.delivery.consumers[c].refs
  (d.giveUpAll refs).changeConsumer c fun k => { k with urgentQ := [], routineQ := [] }.miss refs.length

/-! ## Tones (R172 to R174) -/

/-- A tone starts: the playing copy is taken and a sounding phase begins (R172). -/
def startTone (e : Fin 8) (t : Tone) : Generator :=
  { playing := some { entry := e, tone := t }, phase := .sounding, phaseTimer := some (t.onTime * 10),
    cycles := 0, phaseUs := 0 }

/-- The level test of R173. -/
def ToneUnit.grants (u : ToneUnit) (l : Fin 16) (e : Fin 8) : Bool :=
  match u.generators[l].playing with
  | none => true
  | some c => decide (c.tone.level ≤ u.tones[e].level)

/-- A request to start a tone on a lane's generator (R173). -/
def Device.requestTone (d : Device) (l : Fin 16) (e : Fin 8) : Device :=
  if d.tlu.grants l e then d.updGen l fun _ => startTone e d.tlu.tones[e] else d

/-- An automatic request that names an entry, or none (R99). -/
def Device.requestToneOpt (d : Device) (l : Fin 16) (e : Option (Fin 8)) : Device :=
  match e with
  | some e => d.requestTone l e
  | none => d

/-- R174: the generator becomes IDLE at once. -/
def Generator.stop (g : Generator) : Generator := { g with playing := none, phaseTimer := none }

/-! ## Lamps (R179, R180) -/

/-- The AUTO mode given by the lane state (R179). -/
def LaneState.autoMode : LaneState → LampMode
  | .closed => .off | .opened => .on | .suspended => .flashSlow | .faulted => .flashFast

/-- OFF and ON have no period boundaries (R180). -/
def LampMode.flashing : LampMode → Bool
  | .flashSlow | .flashFast => true
  | .off | .on => false

/-- The override if one is present, otherwise the AUTO mode (R179). -/
def Device.lampMode (d : Device) (l : Fin 16) : LampMode :=
  d.tlu.lamps[l].overrideMode.getD d.lanes[l].state.autoMode

/-- The staged request, if there is one, is applied and becomes absent (R180). -/
def Lamp.applyStaged (p : Lamp) : Lamp :=
  match p.staged with
  | none => p
  | some m => { overrideMode := m, staged := none }

/-- A staged request is applied at once if the mode in effect has no boundaries (R180). -/
def Device.settleLamp (d : Device) (l : Fin 16) : Device :=
  if (d.lampMode l).flashing then d else d.updLamp l Lamp.applyStaged

/-- The lane state changes; the lamp follows through AUTO (R179, R180). -/
def Device.setLaneState (d : Device) (l : Fin 16) (s : LaneState) : Device :=
  (d.updLane l fun r => { r with state := s }).settleLamp l

end Sys2Proof.Machine
end

