-- ==== Sys2Proof/Machine/DrawerOps.lean ====
section
/-! DEFINITION. What the drawer unit does for more than one command: kick requests and the interlock (R151 to R153,
R17), the supply units and a pending supply limit (R156, R158), the limit timer (R161) and a supply fault
(R162). -/

namespace Sys2Proof.Machine

/-! ## The tender window (R15 to R17) -/

/-- Closing is silent, and the timer becomes 0 (R16). -/
def LaneRec.closeWindow (r : LaneRec) : LaneRec := { r with windowOpen := false, tenderTimer := 0 }

/-- Opening, or reloading an open window: the timer takes the length in the active settings (R15). -/
def LaneRec.openWindow (r : LaneRec) : LaneRec :=
  { r with windowOpen := true, tenderTimer := r.active.tenderWindow * 1000 }

/-- R17: an open window is closed and answered "consumed"; a closed one is answered "not open". -/
def Device.testAndConsume (d : Device) (l : Fin 16) : Device × Bool :=
  if d.lanes[l].windowOpen then (d.updLane l LaneRec.closeWindow, true) else (d, false)

/-! ## Kick requests (R151 to R153) -/

/-- Where a kick request comes from (8.2). -/
inductive Origin where
  | request | auto
  deriving DecidableEq, Repr

def Origin.code : Origin → Nat
  | .request => 0 | .auto => 1

/-- Why a kick is refused (R151). -/
inductive KickRefusal where
  | interlock | inhibited | state
  deriving DecidableEq, Repr

def KickRefusal.code : KickRefusal → Nat
  | .interlock => 1 | .inhibited => 2 | .state => 3

inductive KickResult where
  | accepted | merged | refused (why : KickRefusal)
  deriving DecidableEq, Repr

/-- The interlock of R152, with the test-and-consume step of R17 where it is asked for. -/
def Device.interlock (d : Device) (l : Fin 16) : Device × Bool :=
  match d.lanes[l].state with
  | .opened =>
    match d.lanes[l].keyLock with
    | .supv | .mgr => (d, true)
    | .reg => d.testAndConsume l
    | .locked => (d, false)
  | .closed | .suspended | .faulted => (d, d.lanes[l].keyLock == .mgr)

/-- A refusal queues KICK-REFUSED on the drawer's lane (R151). -/
def Device.refuseKick (d : Device) (n : Fin 32) (o : Origin) (why : KickRefusal) : Device :=
  d.offer (laneQueue (laneOf n))
    { kind := .kickRefused, source := some (sideOf n), detail1 := byteOf why.code, detail2 := byteOf o.code }

/-- The kick becomes WAITING at the tail of the wait list (R151, step 6). -/
def Device.acceptKick (d : Device) (n : Fin 32) : Device :=
  d.updDrawers fun u =>
    { u with drawers := upd u.drawers n fun w => { w with kick := .waiting }, waitList := u.waitList ++ [n] }

/-- The tests of R151, in their order; the first that decides settles the request. -/
def Device.requestKick (d : Device) (n : Fin 32) (o : Origin) : Device × KickResult :=
  let w := d.drawers.drawers[n]
  if !w.present || !w.settled then (d.refuseKick n o .state, .refused .state)
  else if w.kick ≠ .idle then (d, .merged)
  else if w.position = .opened then (d.refuseKick n o .state, .refused .state)
  else if d.drawers.inhibit then (d.refuseKick n o .inhibited, .refused .inhibited)
  else
    let t := d.interlock (laneOf n)
    if t.2 then (t.1.acceptKick n, .accepted)
    else (t.1.refuseKick n o .interlock, .refused .interlock)

/-! ## Supply units (R155, R156, R158) -/

/-- ENERGIZING or RECOVERING. -/
def SupplyUnit.inUse (u : SupplyUnit) : Bool := u.state != .available

/-- How many units are ENERGIZING or RECOVERING (R155). -/
def DrawerUnit.unitsInUse (u : DrawerUnit) : Nat := (List.finRange 8).countP fun i => u.units[i].inUse

/-- The lowest-numbered AVAILABLE unit below K (R155). -/
def DrawerUnit.freeUnit (u : DrawerUnit) : Option (Fin 8) :=
  (List.finRange 8).find? fun i => decide (i.val < u.supplyLimit) && u.units[i].state == .available

/-- A unit becomes AVAILABLE; if it was the last in use, a pending supply limit is applied (R156, R158). -/
def DrawerUnit.freeUp (u : DrawerUnit) (i : Fin 8) : DrawerUnit :=
  let v := { u with units := u.units.set i { state := .available, timer := none } }
  match v.pendingLimit with
  | some k => if v.unitsInUse = 0 then { v with supplyLimit := k, pendingLimit := none } else v
  | none => v

/-- A new supply limit (R158): at once if it is not below the K in force or no unit is in use, otherwise pending. -/
def DrawerUnit.applyLimit (u : DrawerUnit) (k : Nat) : DrawerUnit :=
  if u.supplyLimit ≤ k ∨ u.unitsInUse = 0 then { u with supplyLimit := k, pendingLimit := none }
  else { u with pendingLimit := some k }

/-! ## The limit timer (R161) -/

/-- The timer is loaded with the open limit, provided it is not 0. -/
def Drawer.loadLimit (w : Drawer) : Drawer :=
  { w with limitTimer := if w.openLimit = 0 then none else some w.openLimit, limitSubMs := 0 }

/-! ## A supply fault (R162) -/

/-- An event of a drawer with two detail bytes. -/
def drawerNotice (k : Kind) (n : Fin 32) (d1 d2 : Nat) : Notice :=
  { kind := k, source := some (sideOf n), detail1 := byteOf d1, detail2 := byteOf d2 }

/-- Step 1 for one drawer: its ENERGIZED kick is ended and its unit becomes RECOVERING. -/
def Device.cutPulse (d : Device) (n : Fin 32) : Device :=
  let w := d.drawers.drawers[n]
  let d1 := d.updDrawers fun u =>
    { u with
      drawers := upd u.drawers n fun w => { w with kick := .idle, unitHeld := none, kickTimer := none }
      units := match w.unitHeld with
        | some i => u.units.set i { state := .recovering, timer := some u.supplyGap }
        | none => u.units }
  d1.offer (laneQueue (laneOf n)) (drawerNotice .kickAborted n 2 1)

/-- A WAITING kick is given up with a cause (1 OPENED, 2 SUPPLY, 3 LANE-RESET); its entry leaves the wait list. -/
def Device.abortWaiting (d : Device) (n : Fin 32) (cause : Nat) : Device :=
  (d.updDrawers fun u =>
    { u with drawers := upd u.drawers n fun w => { w with kick := .idle }
             waitList := u.waitList.filter (· ≠ n) }).offer
    (laneQueue (laneOf n)) (drawerNotice .kickAborted n cause 0)

/-- The ENERGIZED drawers, in ascending order (notes/assumptions/11.md). -/
def DrawerUnit.energized (u : DrawerUnit) : List (Fin 32) :=
  (List.finRange 32).filter fun n => u.drawers[n].kick == .energized

/-- R162, steps 1 to 4. -/
def Device.supplyFaultTaken (d : Device) : Device :=
  let hot := d.drawers.energized
  let cold := d.drawers.waitList
  let d1 := hot.foldl Device.cutPulse d
  let d2 := cold.foldl (fun d n => d.abortWaiting n 2) d1
  (d2.updDrawers fun u => { u with inhibit := true }).offer deviceQueue
    { kind := .supplyFault, detail1 := byteOf hot.length, detail2 := byteOf cold.length }

end Sys2Proof.Machine
end

