-- ==== Sys2Proof/Machine/LaneOps.lean ====
section
/-! DEFINITION. What the lane controller, the key translator, the matrix scanner and the keymap store do for more
than one command: LANE-STATE events (R11), the key-lock filter (R13, R14), wake readings (R18, R19), the adoption of
settings (R21, R68), translation of presses and releases (R62 to R67, R69), keymap switches (R58 to R60) and the
wind-down of a departing lane (R7, R43). -/

namespace Sys2Proof.Machine

/-! ## LANE-STATE (R11) -/

inductive LaneCause where
  | request | missFault | reset
  deriving DecidableEq, Repr

def LaneCause.code : LaneCause → Nat
  | .request => 0 | .missFault => 1 | .reset => 2

def Device.offerLaneState (d : Device) (l : Fin 16) (s : LaneState) (c : LaneCause) : Device :=
  d.offer (laneQueue l) { kind := .laneState, detail1 := byteOf s.code, detail2 := byteOf c.code }

/-! ## The key lock (R13, R14) -/

/-- The third equal sample: the position is accepted, LOCKED closes the tender window, and KEYLOCK is queued if a
position had been accepted before. -/
def Device.acceptLock (d : Device) (l : Fin 16) (k : KeyLock) : Device :=
  let old := d.lanes[l]
  let d1 := d.updLane l fun r =>
    let r := { r with keyLock := k, settled := true, lockCandidate := none, lockCount := 0 }
    if k = .locked then r.closeWindow else r
  if old.settled then
    d1.offer (laneQueue l) { kind := .keylock, detail1 := byteOf k.code, detail2 := byteOf old.keyLock.code }
  else d1

/-- R13: one key-lock sample. -/
def Device.sampleLock (d : Device) (l : Fin 16) (k : KeyLock) : Device :=
  let r := d.lanes[l]
  if r.settled ∧ k = r.keyLock then d.updLane l fun r => { r with lockCandidate := none, lockCount := 0 }
  else
    let n := if r.lockCandidate = some k then r.lockCount + 1 else 1
    if n < 3 then d.updLane l fun r => { r with lockCandidate := some k, lockCount := n }
    else d.acceptLock l k

/-! ## The wake monitor (R18, R19) -/

/-- The rows in force of a row reading; rows beyond them are recorded as open (R1). -/
def rowReading (rows : Nat) (raw : Byte) : Byte := raw &&& BitVec.ofNat 8 (2 ^ rows - 1)

/-- R19: a reading is compared with the reference and becomes the new reference. -/
def Device.wakeReading (d : Device) (l : Fin 16) (raw : Byte) : Device :=
  let r := d.lanes[l]
  let new := rowReading r.active.rows raw
  let d1 := d.updLane l fun r => { r with wakeRef := some new, wakeDue := false }
  match r.wakeRef with
  | none => d1
  | some old =>
    if old ≠ new ∧ r.wakeHoldOff = 0 then
      (d1.updLane l fun r => { r with wakeHoldOff := 2000 }).offer (laneQueue l)
        { kind := .activity, detail1 := old, detail2 := new }
    else d1

/-- The monitor starts with an absent reference (R18). -/
def LaneRec.startWake (r : LaneRec) : LaneRec := { r with wakeMonitor := true, wakeRef := none, wakeDue := false }

/-- The monitor stops; the reference becomes absent and the hold-off 0 (R18). -/
def LaneRec.stopWake (r : LaneRec) : LaneRec :=
  { r with wakeMonitor := false, wakeRef := none, wakeHoldOff := 0, wakeDue := false }

/-- A lane that has entered CLOSED: the monitor runs if wake is ON in force (R6 step 3, R9, R10 step 3). -/
def LaneRec.enterClosedWake (r : LaneRec) : LaneRec := if r.active.wake then r.startWake else r.stopWake

/-- An adoption in a CLOSED lane starts a monitor that is not running, or stops it (R18). -/
def LaneRec.adoptWake (r : LaneRec) : LaneRec :=
  if ¬ r.active.wake then r.stopWake
  else if r.state = .closed ∧ ¬ r.wakeMonitor then r.startWake
  else r

/-! ## Adoption of settings (R21) -/

/-- The pending set becomes the active set as a whole, and Nd and Nr are computed from it (R68). -/
def Device.adopt (d : Device) (l : Fin 16) : Device :=
  match d.lanes[l].pendingSet with
  | none => d
  | some g =>
    (d.updLane l fun r => { r with active := g, pendingSet := none }.adoptWake).updTrans l fun t =>
      { t with delayPasses := g.delayPasses, periodPasses := g.periodPasses }

/-! ## The key translator (R61 to R70) -/

/-- A modifier is held while a held record has its role (R62). -/
def KeyTrans.holds (t : KeyTrans) (role : Role) : Bool :=
  (List.finRange 128).any fun p => match t.held[p] with
    | some h => h.role == role
    | none => false

/-- The layer that the modifiers held select (R62). -/
def KeyTrans.layer (t : KeyTrans) : Fin 4 :=
  match t.holds .modA, t.holds .modB with
  | false, false => 0
  | true,  false => 1
  | false, true  => 2
  | true,  true  => 3

/-- The index of a position's entry on a layer (R48). -/
def entryIndex (layer : Fin 4) (p : Fin 128) : Fin 512 := ⟨layer.val * 128 + p.val, by omega⟩

/-- The entry of a layer and position in the lane's active image; a lane with no active image has none, and a
zero entry stands for it. -/
def Device.keyEntry (d : Device) (l : Fin 16) (layer : Fin 4) (p : Fin 128) : KeyEntry :=
  match d.keymaps.lanes[l].active with
  | some i => d.keymaps.images[i].entries[entryIndex layer p]
  | none => zeroKeyEntry

/-- R40: the layer-0 key code is 0. -/
def Device.dead (d : Device) (l : Fin 16) (p : Fin 128) : Bool := (d.keyEntry l 0 p).code == 0

/-- The tests of R63 and R64 on a press. -/
def pressFate (s : LaneState) (lock : KeyLock) (e : KeyEntry) : Fate :=
  if s = .opened ∧ lock = .locked then .suppressed
  else if s = .suspended ∧ ¬ e.wake then .suppressed
  else if e.silent ∨ e.code = 0 then .muted
  else if e.supervisor ∧ ¬ lock.atLeastSupv then .refused
  else .reported

/-- A KEY event (R65): code bits 0 to 7; then code bits 8 to 11, layer and key-lock position (11.3). -/
def keyNotice (k : Kind) (p : Fin 128) (h : Held) (lock : KeyLock) (late : Bool) : Notice :=
  { kind := k, late := late, source := some (byteOf p.val), detail1 := byteOf (h.code.toNat % 256),
    detail2 := byteOf (h.code.toNat / 256 + 16 * h.layer.val + 64 * lock.code) }

/-- R67: a reported TENDER press in OPEN opens the window or reloads it, and then asks for the auto-kick. -/
def Device.tenderPress (d : Device) (l : Fin 16) : Device :=
  let d1 := d.updLane l LaneRec.openWindow
  match d.lanes[l].active.autoKick with
  | some k => (d1.requestKick (ofLane l k) .auto).1
  | none => d1

/-- R69: a reported press with REPEAT becomes the repeat owner. -/
def KeyTrans.takeOwner (t : KeyTrans) (p : Fin 128) : KeyTrans :=
  { t with owner := some p, countdown := t.delayPasses }

/-- A press transition is translated (R62 to R65, R67, R69). -/
def Device.translatePress (d : Device) (l : Fin 16) (p : Fin 128) (late : Bool) : Device :=
  let s := d.lanes[l].state
  let lock := d.lanes[l].keyLock
  let layer := d.trans[l].layer
  let e := d.keyEntry l layer p
  let h : Held :=
    { layer := layer, code := e.code, role := (d.keyEntry l 0 p).role, repeats := e.repeats, wake := e.wake,
      fate := pressFate s lock e }
  let d1 := d.updTrans l fun t => { t with held := t.held.set p (some h) }
  match h.fate with
  | .suppressed | .muted => d1
  | .refused => d1.offer (laneQueue l) (keyNotice .keyRefused p h lock late)
  | .reported =>
    let d2 := d1.offer (laneQueue l) (keyNotice .keyPress p h lock late)
    let d3 := if s = .opened ∧ e.tender then d2.tenderPress l else d2
    if e.repeats then d3.updTrans l fun t => t.takeOwner p else d3

/-- The held record of a released position is deleted, and an owner released is an owner no more (R66). -/
def KeyTrans.letGo (t : KeyTrans) (p : Fin 128) : KeyTrans :=
  let u := { t with held := t.held.set p none }
  if t.owner = some p then { u with owner := none, countdown := 0 } else u

/-- A release transition is translated by the held record of its position (R66). -/
def Device.translateRelease (d : Device) (l : Fin 16) (p : Fin 128) : Device :=
  match d.trans[l].held[p] with
  | none => d
  | some h =>
    let d1 := if h.fate = .reported then
        d.offer (laneQueue l) (keyNotice .keyRelease p h d.lanes[l].keyLock false)
      else d
    d1.updTrans l fun t => t.letGo p

/-! ## Key states -/

/-- The positions of a lane in a key state, in ascending order. -/
def LaneScan.positions (m : LaneScan) (k : KeyState) : List (Fin 128) :=
  (List.finRange 128).filter fun p => m.keys[p] == k

/-- How many of the lane's keys are in a key state (R46). -/
def LaneScan.countKeys (m : LaneScan) (k : KeyState) : Nat := (m.positions k).length

/-- A lane has a pass in progress while it is the lane in pass (R23). -/
def Scanner.inPass (m : Scanner) (l : Fin 16) : Bool := m.laneInPass == some l

/-- The driver runs no pass: every column line is driven (R24). -/
def Scanner.idle (m : Scanner) : Bool := m.laneInPass.isNone

/-- Keys RELEASED and integrators 0 (R42, R43, R44). -/
def LaneScan.clearKeys (m : LaneScan) : LaneScan :=
  { m with integ := Vector.replicate 128 0, keys := Vector.replicate 128 .released }

/-- A running pass gets its discard mark, a waiting pass is withdrawn, and no further due points arise (R7 step 1,
R33, R43). -/
def Device.withdrawPass (d : Device) (l : Fin 16) : Device :=
  let running := d.scanner.inPass l
  d.updScan l fun m => { m with discard := m.discard || running, waiting := false, dueTimer := none }

/-- The repeat owner is cleared (R7 step 3, R44). -/
def KeyTrans.clearOwner (t : KeyTrans) : KeyTrans := { t with owner := none, countdown := 0 }

/-! ## Ports told by the lane controller (R73, R74) -/

/-- R73: what a port does once it knows whether it is permitted (its enable is ON and its lane is OPEN). -/
def Port.follow (p : Port) (permitted : Bool) : Port :=
  match p.state, permitted with
  | .disabled, true => { p with state := .active }
  | .disabled, false => p
  | .active, true => p
  | .active, false =>
    let filling : Bool := match p.current with
      | some b => (p.buf b).state == .filling
      | none => false
    { p with state := if filling then .stopping else .disabled }
  | .stopping, true => { p with state := .active }
  | .stopping, false => p

/-- Both ports of a lane are told that it has become OPEN or has left OPEN (R74). -/
def Device.tellPorts (d : Device) (l : Fin 16) (isOpen : Bool) : Device :=
  (d.updPort (ofLane l 0) fun p => p.follow (p.enable && isOpen)).updPort (ofLane l 1) fun p =>
    p.follow (p.enable && isOpen)

/-! ## Keymap switches (R57 to R60) -/

/-- An image becomes active, the pending image absent and the switch timer stopped; KEYMAP-SWITCHED is queued. -/
def Device.switchKeymap (d : Device) (l : Fin 16) (i : Fin 8) (isForced : Bool) : Device :=
  (d.updMap l fun _ => { active := some i, pendingImg := none, switchTimer := none }).offer (laneQueue l)
    { kind := .keymapSwitched, forced := isForced, detail1 := byteOf i.val, detail2 := byteOf (bit isForced) }

/-- R59: a departing lane makes its pending switch at once. -/
def Device.departKeymap (d : Device) (l : Fin 16) : Device :=
  match d.keymaps.lanes[l].pendingImg with
  | some i => d.switchKeymap l i false
  | none => d

/-! ## The wind-down (R7, R43) -/

/-- The keyboard of a lane that leaves a scanning state by CLOSE-LANE or a missed-pass fault. -/
def Device.windDown (d : Device) (l : Fin 16) : Device :=
  let held := d.scanner.lanes[l].positions .pressed
  let d1 := held.foldl (fun d p => d.translateRelease l p) (d.withdrawPass l)
  let d2 := (d1.updScan l LaneScan.clearKeys).updTrans l KeyTrans.clearOwner
  if d.lanes[l].state = .opened then d2.tellPorts l false else d2

end Sys2Proof.Machine
end

