-- ==== Sys2Proof/Machine/Resets.lean ====
section
/-! DEFINITION. Device resets and start-up (R195). -/

namespace Sys2Proof.Machine

/-- R195, steps 1 to 3: every block takes its values, DEVICE-STARTED is offered on lane 16 with the cause, and a
supply fault line that reads low at its first reading gives a supply fault (R162). -/
def startUp (cause : ResetCause) (i : Inputs) : Device :=
  let d := (Device.blank cause i).offer deviceQueue { kind := .deviceStarted, detail1 := byteOf cause.code }
  if d.drawers.supplyHigh then d else d.supplyFaultTaken

/-- The part while the reset input is low (R195): every block at its reset values, so that every output is released,
off, dark or idle; nothing is offered until start-up. The inputs are read at the rise, so those last read stand. -/
def heldInReset (i : Inputs) : Device := { Device.blank .pin i with inReset := true }

/-- The input levels that the part last read. -/
def Device.lastInputs (d : Device) : Inputs :=
  { strapA := d.trunk.bitRate = .k500 ∨ d.trunk.bitRate = .k2000
    strapB := d.trunk.bitRate = .k1000 ∨ d.trunk.bitRate = .k2000
    supplyHigh := d.drawers.supplyHigh
    senseOpen := BitVec.ofNat 32 (((List.finRange 32).map fun n =>
      if d.drawers.drawers[n].senseInput = .opened then 2 ^ n.val else 0).sum) }

end Sys2Proof.Machine
end

