-- ==== Sys2Proof/Machine/State.lean ====
section
/-! DEFINITION. The state of the model: the part (Machine/Blocks.lean lists all it holds) and the queue of waiting
commands, the reasons a command can stop, and the state after reset. -/

namespace Sys2Proof.Machine

/-- Why a command stops with a fault. Each constructor is raised only by a command that is not well formed
(WellFormed.lean): one that names a thing the part does not have. Safe: no input of the part is one of these. -/
inductive Fault where
  /-- Raised by the rows that name a lane, for a lane above 15 (above 16 for ADMISSION_LIMIT_EXPIRY). Safe. -/
  | noSuchLane
  /-- Raised by SCANNER_CHARACTER, SCANNER_START_BIT and IDLE_GAP_EXPIRY for a port above 31. Safe. -/
  | noSuchPort
  /-- Raised by the rows that name a drawer, for a drawer above 31. Safe. -/
  | noSuchDrawer
  /-- Raised by UNIT_RECOVERED for a supply unit above 7. Safe. -/
  | noSuchUnit
  /-- Raised by STALL_TIMER_EXPIRY for a consumer above 7. Safe. -/
  | noSuchConsumer
  deriving DecidableEq, Repr

/-- Why a command is refused. -/
inductive Refusal where
  /-- Raised by `exec` alone, for a row that has no meaning yet (there is none). Safe: no claim about such a row
  can be proved but that it is refused. -/
  | notModelled (mnemonic : String)
  deriving DecidableEq, Repr

/-- The part, and the commands that wait, first in, first out. -/
structure State where
  dev     : Device
  pending : List Instr
  deriving DecidableEq, Repr

/-- The machine right after reset: started up with cause POWER-ON, DEVICE-STARTED on lane 16 (R118, R195), the
inputs as `Config.inputsAtReset` names them, and no command waiting. -/
def State.reset : State := { dev := startUp .powerOn Config.inputsAtReset, pending := [] }

end Sys2Proof.Machine
end

