-- ==== Sys2Proof/Machine/Requests.lean ====
section
/-! DEFINITION. How a command runs on the state, and how the request-taking part takes a request, hands it to its
owning block and answers it (R187 to R189). -/

namespace Sys2Proof.Machine

/-! ## Running a command -/

/-- The command's effect on the part; while the reset input is low the part stays in reset and takes nothing
(R195). The queue of waiting commands is not touched. -/
def State.run (s : State) (f : Device → Device) : Host.Outcome State Fault Refusal :=
  if s.dev.inReset then .next s else .next { s with dev := f s.dev }

/-- A command on one of `n` like things; a number that names none of them is a fault. -/
def State.runAt (s : State) (n i : Nat) (e : Fault) (f : Fin n → Device → Device) :
    Host.Outcome State Fault Refusal :=
  if h : i < n then s.run (f ⟨i, h⟩) else .fault e

/-! ## Answers -/

/-- What the owning block answers: a reply code and the reply fields. -/
structure Answer where
  code   : ReplyCode
  fields : List Byte
  deriving DecidableEq, Repr

/-- A request carried out: the part after it, and its answer, or none while a walk is in flight (R188). -/
abbrev Carried := Device × Option Answer

def answer (d : Device) (c : ReplyCode) (fields : List Byte := []) : Carried := (d, some { code := c, fields := fields })

/-- A refusal changes nothing. -/
def refuse (d : Device) (c : ReplyCode) : Carried := answer d c

def malformed (d : Device) : Carried := refuse d .refusedMalformed

/-- DONE, or DONE-CLAMPED if a value was brought to a limit. -/
def doneOr (clamped : Bool) : ReplyCode := if clamped then .doneClamped else .done

/-! ## Taking and answering -/

/-- The reply FIFO has room when its replies, plus one for a reserved place, are below 4 (R187). -/
def Trunk.replyRoom (t : Trunk) : Bool := t.replies.length + bit t.inProgress.isSome < Config.fifoDepth

/-- The request that may be taken now: the head of the FIFO, if none is in progress, taking is not closed and the
reply FIFO has room (R188). -/
def Trunk.takeable (t : Trunk) : Option Request :=
  if t.inProgress.isNone && !t.takingClosed && t.replyRoom then t.requests.head? else none

/-- The request leaves the FIFO and is in progress; a reply place is reserved (R188). -/
def Device.begin (d : Device) (r : Request) : Device :=
  d.updTrunk fun t => { t with requests := t.requests.tail, inProgress := some r }

/-- The reply is appended in the reserved place and no request is in progress any more (R188, R189). -/
def Device.reply (d : Device) (a : Answer) : Device :=
  d.updTrunk fun t =>
    match t.inProgress with
    | none => t
    | some r =>
      { t with
        replies := t.replies ++ [{ tag := r.tag, request := r.replyCode, code := a.code, fields := a.fields }]
        inProgress := none }

/-- A carried-out request is answered, unless it is still in progress. -/
def Carried.finish (c : Carried) : Device :=
  match c.2 with
  | some a => c.1.reply a
  | none => c.1

/-- The head of the request FIFO is taken, if it may be and is one of those the row stands for, and carried out by
`carry`, which is given its fields. Otherwise the row is not a step of the part now, and nothing happens
(notes/assumptions/4.md). -/
def Device.take (mine : Request → Bool) (carry : List Byte → Device → Carried) (d : Device) : Device :=
  match d.trunk.takeable with
  | some r => if mine r then (carry r.fields (d.begin r)).finish else d
  | none => d

/-- The request's code is `n`. -/
def Request.is (n : Nat) (r : Request) : Bool := r.code? == some n

/-- A row that stands for all requests of one code. -/
def State.takeCode (s : State) (code : Nat) (carry : List Byte → Device → Carried) :
    Host.Outcome State Fault Refusal :=
  s.run (Device.take (Request.is code) carry)

end Sys2Proof.Machine
end

