-- ==== Sys2Proof/Machine/Delivery.lean ====
section
/-! DEFINITION. The delivery unit (7 of the book): the delivery table and delivery sets (R123 to R127), the table
requests and their walks (R130 to R136), consumers, credit and stall (R137 to R143), and reading a consumer
(R146). The choice and the taking of an event frame (R144, R145) serve the transmitter and stand here too. -/

namespace Sys2Proof.Machine

/-! ## Matching and delivery sets (R124 to R127) -/

/-- R124: a valid entry whose lane mask, class mask and kind filter take the event in. -/
def TableEntry.takesIn (e : TableEntry) (q : Fin 17) (k : Kind) : Bool :=
  e.valid && hasBit e.laneMask q.val && hasBit e.classMask k.cls.maskBit &&
    (match e.kind with
     | none => true
     | some f => f == k)

/-- The matching entries of the table. -/
def Delivery.matching (u : Delivery) (q : Fin 17) (k : Kind) : List TableEntry :=
  u.table.toList.filter fun e => e.takesIn q k

/-- R125 steps 3 and 4, R126: a consumer's place in the delivery set, absent if it is not in it. -/
def Delivery.inSet (u : Delivery) (q : Fin 17) (k : Kind) (c : Fin 8) : Option Priority :=
  let m := u.matching q k
  let forward := m.filter fun e => !e.blocked && hasBit e.consumers c.val
  if m.isEmpty then
    match u.policy with
    | .discard => none
    | .default => if hasBit u.defaultSet c.val then some .routine else none
    | .all => if u.consumers[c].state = .active then some .routine else none
  else if m.any fun e => e.blocked && hasBit e.consumers c.val then none
  else if forward.isEmpty then none
  else if forward.any fun e => e.urgent then some .urgent
  else some .routine

/-- R127: how a member of a delivery set is sorted. -/
def Consumer.sorted (k : Consumer) (p : Option Priority) : Member :=
  match p, k.state with
  | none, _ => .out
  | some _, .inactive => .out
  | some _, .stalled => .refused
  | some p, .active => if k.depth ≤ k.queued then .refused else .taking p

/-- The set of an event, each member sorted, as the table and the consumers stand now (R113, R125). -/
def Delivery.computeSet (u : Delivery) (q : Fin 17) (k : Kind) : SortedSet :=
  tab fun c => u.consumers[c].sorted (u.inSet q k c)

/-! ## Frames for the transmitter (R144, R145) -/

/-- The first consumer of the rotation with credit and something in the queue that `f` picks. -/
def Delivery.firstWith (u : Delivery) (f : Consumer → List (Fin 512)) : Option (Fin 8 × Fin 512) :=
  (rotation u.lastServed).findSome? fun c =>
    if 0 < u.consumers[c].credit then (f u.consumers[c]).head?.map fun r => (c, r) else none

/-- R144: the URGENT search, then the ROUTINE search; the flag says which queue the reference heads. -/
def Delivery.chooseFrame (u : Delivery) : Option (Fin 8 × Fin 512 × Bool) :=
  match u.firstWith Consumer.urgentQ with
  | some (c, r) => some (c, r, true)
  | none =>
    match u.firstWith Consumer.routineQ with
    | some (c, r) => some (c, r, false)
    | none => none

/-- A frame is ready: some consumer has credit and a queue that is not empty (R144). -/
def Delivery.frameReady (u : Delivery) : Bool :=
  (List.finRange 8).any fun c => decide (0 < u.consumers[c].credit) && decide (0 < u.consumers[c].queued)

/-- The reference leaves the head of its queue, the loss flag is cleared and the credit falls by one (R145). -/
def Consumer.takeHead (k : Consumer) (urgent : Bool) : Consumer :=
  if urgent then { k with urgentQ := k.urgentQ.tail, lossFlag := false, credit := k.credit - 1 }
  else { k with routineQ := k.routineQ.tail, lossFlag := false, credit := k.credit - 1 }

/-- The frame that a reference makes: a copy of the slot's record, with AFTER-LOSS added if the consumer's loss
flag is set (R145). -/
def Device.eventFrame (d : Device) (c : Fin 8) (r : Fin 512) (urgent : Bool) : Option OutFrame :=
  d.pool.slots[r].map fun s =>
    .event c { s.ev with afterLoss := s.ev.afterLoss || d.delivery.consumers[c].lossFlag } s.body urgent

/-- R145: the chosen reference is taken and given up to the pool; the consumer is the last served. -/
def Device.takeFrame (d : Device) (c : Fin 8) (r : Fin 512) (urgent : Bool) : Device :=
  ((d.updDelivery fun u => { u with lastServed := c }).changeConsumer c fun k => k.takeHead urgent).updPool
    fun p => p.giveUp r

/-! ## Table requests (R130 to R136) -/

/-- R133. -/
def tableRead (fs : List Byte) (d : Device) : Carried :=
  match fs with
  | [i] =>
    match inIndex 64 i with
    | some i =>
      let e := d.delivery.table[i]
      if e.valid then answer d .donePresent (outTableEntry e) else answer d .doneAbsent
    | none => malformed d
  | _ => malformed d

/-- R131. -/
def tableWrite (fs : List Byte) (d : Device) : Carried :=
  match fs with
  | i :: rest =>
    match inIndex 64 i, inTableEntry rest with
    | some i, some e =>
      answer (d.updDelivery fun u => { u with table := u.table.set i e })
        (if d.delivery.table[i].valid then .donePresent else .doneAbsent)
    | _, _ => malformed d
  | _ => malformed d

/-- R132. -/
def tableDelete (fs : List Byte) (d : Device) : Carried :=
  match fs with
  | [i] =>
    match inIndex 64 i with
    | some i =>
      if d.delivery.table[i].valid then
        answer (d.updDelivery fun u => { u with table := u.table.set i zeroTableEntry }) .donePresent
      else answer d .doneAbsent
    | none => malformed d
  | _ => malformed d

/-- R134: a kind that does not belong to the named class is refused; otherwise the walk starts at index 0. -/
def tableSearch (fs : List Byte) (d : Device) : Carried :=
  match fs with
  | [l, c, k] =>
    match inIndex 17 l, EventClass.ofCode c.toNat, Kind.ofCode k.toNat with
    | some q, some cls, some kind =>
      if kind.cls = cls then (d.updDelivery fun u => { u with walk := some (.search q kind 0 none) }, none)
      else malformed d
    | _, _, _ => malformed d
  | _ => malformed d

/-- R135: mode CONSUMER with a consumer, or LANE with a lane 0 to 16; the walk starts at index 0. -/
def tableClear (fs : List Byte) (d : Device) : Carried :=
  match fs with
  | [mode, v] =>
    if mode.toNat = 0 then
      match inIndex 8 v with
      | some c => (d.updDelivery fun u => { u with walk := some (.clearConsumer c 0 0 0) }, none)
      | none => malformed d
    else if mode.toNat = 1 then
      match inIndex 17 v with
      | some q => (d.updDelivery fun u => { u with walk := some (.clearLane q 0 0 0) }, none)
      | none => malformed d
    else malformed d
  | _ => malformed d

/-- The walk has tested or treated its last entry. -/
def TableWalk.ended : TableWalk → Bool
  | .search _ _ next found => found.isSome || decide (64 ≤ next)
  | .clearConsumer _ next _ _ => decide (64 ≤ next)
  | .clearLane _ next _ _ => decide (64 ≤ next)

/-- The consumer is removed from a valid entry's mask that names it; an emptied entry is deleted (R135). -/
def TableEntry.withoutConsumer (e : TableEntry) (c : Fin 8) : TableEntry :=
  if e.valid && hasBit e.consumers c.val then
    if clearBit e.consumers c.val = 0 then zeroTableEntry
    else { e with consumers := clearBit e.consumers c.val }
  else e

/-- The lane is removed from a valid entry's mask that includes it; an emptied entry is deleted (R135). -/
def TableEntry.withoutLane (e : TableEntry) (q : Fin 17) : TableEntry :=
  if e.valid && hasBit e.laneMask q.val then
    if clearBit e.laneMask q.val = 0 then zeroTableEntry
    else { e with laneMask := clearBit e.laneMask q.val }
  else e

/-- One step of the walk in flight: one entry tested, or changed or deleted (R134 to R136). -/
def Delivery.walkStep (u : Delivery) : Delivery :=
  match u.walk with
  | none => u
  | some w =>
    match w with
    | .search q k next none =>
      if h : next < 64 then
        { u with walk := some (.search q k (next + 1) (if u.table[next].takesIn q k then some ⟨next, h⟩ else none)) }
      else u
    | .search _ _ _ (some _) => u
    | .clearConsumer c next ch dl =>
      if h : next < 64 then
        let e := u.table[next]
        let e' := e.withoutConsumer c
        let gone := e.valid && !e'.valid
        { u with table := u.table.set next e'
                 walk := some (.clearConsumer c (next + 1) (ch + bit (decide (e' ≠ e) && !gone)) (dl + bit gone)) }
      else u
    | .clearLane q next ch dl =>
      if h : next < 64 then
        let e := u.table[next]
        let e' := e.withoutLane q
        let gone := e.valid && !e'.valid
        { u with table := u.table.set next e'
                 walk := some (.clearLane q (next + 1) (ch + bit (decide (e' ≠ e) && !gone)) (dl + bit gone)) }
      else u

/-- The answer of a walk that has ended (R134, R135). -/
def Delivery.walkAnswer (u : Delivery) : TableWalk → Answer
  | .search _ _ _ (some i) => { code := .donePresent, fields := out1 i.val ++ outTableEntry u.table[i] }
  | .search _ _ _ none => { code := .doneAbsent, fields := [] }
  | .clearConsumer _ _ ch dl => { code := .done, fields := out1 ch ++ out1 dl }
  | .clearLane _ _ ch dl => { code := .done, fields := out1 ch ++ out1 dl }

/-- The walk ends and its reply is formed (R134, R135, R188). -/
def Device.walkEnd (d : Device) : Device :=
  match d.delivery.walk with
  | none => d
  | some w =>
    if w.ended then (d.updDelivery fun u => { u with walk := none }).reply (d.delivery.walkAnswer w) else d

/-- R137. -/
def setUnmatched (fs : List Byte) (d : Device) : Carried :=
  match fs with
  | [p, m] =>
    match UnmatchedPolicy.ofCode p.toNat with
    | some p => answer (d.updDelivery fun u => { u with policy := p, defaultSet := m }) .done
    | none => malformed d
  | _ => malformed d

/-! ## Consumers (R138 to R143, R146) -/

/-- The references that a lowered depth limit flushes, in order: the ROUTINE queue from its tail, then the URGENT
queue from its tail (R138). -/
def Consumer.excess (k : Consumer) (depth : Nat) : List (Fin 512) :=
  (k.routineQ.reverse ++ k.urgentQ.reverse).take (k.queued - depth)

/-- The queues without that excess. -/
def Consumer.trimmed (k : Consumer) (depth : Nat) : Consumer :=
  let drop := k.queued - depth
  { k with
    routineQ := k.routineQ.take (k.routineQ.length - drop)
    urgentQ := k.urgentQ.take (k.urgentQ.length - (drop - k.routineQ.length)) }

/-- R138, first point: the depth limit is written, and the excess flushed and counted. -/
def Device.setDepth (d : Device) (c : Fin 8) (depth : Nat) : Device :=
  let refs := d.delivery.consumers[c].excess depth
  (d.giveUpAll refs).changeConsumer c fun k => { (k.trimmed depth).miss refs.length with depth := depth }

/-- R138, third point: the queues are flushed, the credit becomes 0 and the consumer INACTIVE. -/
def Device.deactivate (d : Device) (c : Fin 8) : Device :=
  (d.flush c).changeConsumer c fun k => { k with state := .inactive, credit := 0 }

/-- R138, second point: an INACTIVE consumer becomes ACTIVE with credit 0; the others stay as they are. -/
def Device.activate (d : Device) (c : Fin 8) : Device :=
  d.changeConsumer c fun k => if k.state = .inactive then { k with state := .active, credit := 0 } else k

/-- R138. -/
def setConsumer (fs : List Byte) (d : Device) : Carried :=
  match fs with
  | [c, dep, st] =>
    match inIndex 8 c, inBool st with
    | some c, some on =>
      let depth := clampTo 4 255 dep.toNat
      let d1 := d.setDepth c depth
      answer (if on then d1.activate c else d1.deactivate c) (doneOr (depth ≠ dep.toNat))
    | _, _ => malformed d
  | _ => malformed d

/-- R139: a CREDIT frame on a consumer 0 to 7 that is not INACTIVE. -/
def Device.credit (d : Device) (c : Fin 8) (n : Nat) : Device :=
  match d.delivery.consumers[c].state with
  | .inactive => d.updTrunk fun t => { t with ignoredCredits := sat16 t.ignoredCredits 1 }
  | .active => d.changeConsumer c fun k => { k with credit := sat8 k.credit n }
  | .stalled =>
    (d.changeConsumer c fun k => { k with state := .active, credit := n }).offer deviceQueue
      { kind := .consumerRevived, detail1 := byteOf c.val, detail2 := byteOf n }

/-- R139: the consumer number is the frame's address; one above 7 is ignored and counted. -/
def Device.creditTo (d : Device) (consumer n : Nat) : Device :=
  if h : consumer < 8 then d.credit ⟨consumer, h⟩ n
  else d.updTrunk fun t => { t with ignoredCredits := sat16 t.ignoredCredits 1 }

/-- R141. -/
def stallExpiry (c : Fin 8) (d : Device) : Device :=
  match d.delivery.consumers[c].stallTimer with
  | none => d
  | some _ =>
    let n := d.delivery.consumers[c].refs.length
    let d1 := d.giveUpAll d.delivery.consumers[c].refs
    let d2 := d1.changeConsumer c fun k =>
      { { k with state := .stalled, urgentQ := [], routineQ := [] }.miss n with lossFlag := true }
    d2.offer deviceQueue { kind := .consumerStalled, detail1 := byteOf c.val }

/-- R142. -/
def flushConsumer (fs : List Byte) (d : Device) : Carried :=
  match fs with
  | [c] =>
    match inIndex 8 c with
    | some c => answer (d.flush c) .done (out1 d.delivery.consumers[c].queued)
    | none => malformed d
  | _ => malformed d

/-- R143. -/
def setStall (fs : List Byte) (d : Device) : Carried :=
  match fs with
  | [i, r] =>
    let interval := clampTo 1 255 i.toNat
    let robust := clampTo 1 4 r.toNat
    answer (d.updDelivery fun u => { u with stallInterval := interval, stallRobust := robust })
      (doneOr (interval ≠ i.toNat || robust ≠ r.toNat))
  | _ => malformed d

/-- R146, in the order in which that rule lists the fields. -/
def consumerReport (u : Delivery) (c : Fin 8) : List Byte :=
  let k := u.consumers[c]
  out1 k.state.code ++ out1 k.credit ++ out1 k.depth ++ out1 k.urgentQ.length ++ out1 k.routineQ.length ++
  outFlag k.lossFlag ++ out2 k.drops ++ outOpt4 k.stallTimer ++ out1 u.lastServed.val ++ outFlag u.frameReady

/-- R146. -/
def readConsumer (fs : List Byte) (d : Device) : Carried :=
  match fs with
  | [c, clr] =>
    match inIndex 8 c, inBool clr with
    | some c, some clr =>
      answer (if clr then d.updConsumer c fun k => { k with drops := 0 } else d) .done (consumerReport d.delivery c)
    | _, _ => malformed d
  | _ => malformed d

/-! ## The commands -/

def execTableRead (s : State) : Host.Outcome State Fault Refusal := s.takeCode rcTableRead tableRead

def execTableWrite (s : State) : Host.Outcome State Fault Refusal := s.takeCode rcTableWrite tableWrite

def execTableDelete (s : State) : Host.Outcome State Fault Refusal := s.takeCode rcTableDelete tableDelete

def execTableSearch (s : State) : Host.Outcome State Fault Refusal := s.takeCode rcTableSearch tableSearch

def execTableClear (s : State) : Host.Outcome State Fault Refusal := s.takeCode rcTableClear tableClear

/-- One entry of the walk in flight (R134, R135). -/
def execTableWalkStep (s : State) : Host.Outcome State Fault Refusal :=
  s.run fun d => d.updDelivery Delivery.walkStep

/-- The walk in flight ends, once it has stopped or treated all 64 entries. -/
def execTableWalkEnd (s : State) : Host.Outcome State Fault Refusal := s.run Device.walkEnd

def execSetUnmatched (s : State) : Host.Outcome State Fault Refusal := s.takeCode rcSetUnmatched setUnmatched

def execSetConsumer (s : State) : Host.Outcome State Fault Refusal := s.takeCode rcSetConsumer setConsumer

def execFlushConsumer (s : State) : Host.Outcome State Fault Refusal := s.takeCode rcFlushConsumer flushConsumer

def execSetStall (s : State) : Host.Outcome State Fault Refusal := s.takeCode rcSetStall setStall

def execReadConsumer (s : State) : Host.Outcome State Fault Refusal := s.takeCode rcReadConsumer readConsumer

/-- R141, for a consumer whose stall timer runs. -/
def execStallTimerExpiry (consumer : Nat) (s : State) : Host.Outcome State Fault Refusal :=
  s.runAt 8 consumer .noSuchConsumer stallExpiry

end Sys2Proof.Machine
end

