-- ==== Sys2Proof/Machine/Pool.lean ====
section
/-! DEFINITION. The event pool (6 of the book): the admitter (R112 to R115), the admission limit (R116), what
RESET-LANE does to a pending queue (R117), and the pool's requests (R119, R120). -/

namespace Sys2Proof.Machine

/-! ## Candidates (R112, R114) -/

/-- The free count meets the need of a class (R114). -/
def Pool.meets (p : Pool) (c : EventClass) : Bool :=
  if c.underReserve then decide (p.reserve < p.freeCount) else decide (0 < p.freeCount)

/-- A head is a candidate when it is FRESH, or WAITING with its need met (R112). -/
def Pool.candidate (p : Pool) (q : Fin 17) : Bool :=
  match p.lanes[q].queue with
  | [] => false
  | e :: _ => !p.lanes[q].waiting || p.meets e.ev.kind.cls

/-- The lane the admitter takes next (R112). -/
def Pool.nextLane (p : Pool) : Option (Fin 17) := (rotation p.lastServed).find? p.candidate

/-! ## Settling a head (R113 to R115) -/

/-- The set has a taking member. -/
def SortedSet.taken (s : SortedSet) : Nat :=
  (List.finRange 8).countP fun c => match s[c] with
    | .taking _ => true
    | _ => false

/-- Each refused member has its loss flag set and its drop counter raised (R129). -/
def Device.flagRefused (d : Device) (s : SortedSet) : Device :=
  d.updDelivery fun u =>
    { u with consumers := tab fun c => if s[c] = .refused then u.consumers[c].miss 1 else u.consumers[c] }

/-- R116: every member, taking and refused alike, that is not INACTIVE by now is flagged and counted. -/
def Device.flagMembers (d : Device) (s : SortedSet) : Device :=
  d.updDelivery fun u =>
    { u with consumers := tab fun c =>
        if s[c] ≠ .out ∧ u.consumers[c].state ≠ .inactive then u.consumers[c].miss 1 else u.consumers[c] }

/-- One reference appended at the tail of the queue of its priority (R128). -/
def Consumer.append (k : Consumer) (r : Fin 512) : Priority → Consumer
  | .urgent => { k with urgentQ := k.urgentQ ++ [r] }
  | .routine => { k with routineQ := k.routineQ ++ [r] }

/-- R114, step 4: a reference for each taking member, and each refused member flagged. -/
def Delivery.deliver (u : Delivery) (s : SortedSet) (r : Fin 512) : Delivery :=
  { u with consumers := tab fun c =>
      match s[c] with
      | .taking p => (u.consumers[c].append r p).syncStall u.stallTime
      | .refused => u.consumers[c].miss 1
      | .out => u.consumers[c] }

/-- The body bytes of an entry: from the HELD buffer, or held in the entry itself (R107, R114). -/
def Device.bodyBytes (d : Device) (b : BodyRef) : List Byte :=
  match b with
  | .absent => []
  | .bytes bs => bs
  | .buffer port buf start len => ((d.ports[port].buf buf).chars.drop start).take len

/-- R113: the head is discarded because nobody takes it. -/
def Device.discardHead (d : Device) (q : Fin 17) (e : Entry) (s : SortedSet) : Device :=
  ((((d.updPend q PendLane.popHead).releaseBody e.body).updPool fun p =>
    { p with unwanted := sat16 p.unwanted 1 })).flagRefused s

/-- R114: the head is admitted into the slot at the head of the free list. -/
def Device.admitHead (d : Device) (q : Fin 17) (e : Entry) (s : SortedSet) (k : Fin 512) (rest : List (Fin 512)) :
    Device :=
  let slot : Slot :=
    { ev := { e.ev with afterLoss := d.pool.lanes[q].gap }, body := d.bodyBytes e.body, refs := s.taken }
  let d1 := d.updPool fun p =>
    { p with freeList := rest, lowWater := min p.lowWater rest.length, slots := p.slots.set k (some slot)
             lanes := upd p.lanes q fun n => { n with gap := false }.popHead }
  (d1.releaseBody e.body).updDelivery fun u => u.deliver s k

/-- R115: the head becomes WAITING; the wait timer is loaded at its first wait. -/
def Device.waitHead (d : Device) (q : Fin 17) (s : SortedSet) : Device :=
  d.updPend q fun n =>
    { n with waiting := true, waitTimer := some (n.waitTimer.getD (d.pool.limit * 10)), lastSet := some s }

/-- An attempt on the head of a lane (R113 to R115): the set is computed afresh, and the head is discarded,
admitted or made to wait. -/
def Device.attempt (d : Device) (q : Fin 17) : Device :=
  match d.pool.lanes[q].queue with
  | [] => d
  | e :: _ =>
    let s := d.delivery.computeSet q e.ev.kind
    let d1 := d.updPool fun p => { p with lastServed := q }
    if s.taken = 0 then d1.discardHead q e s
    else
      match d.pool.freeList with
      | [] => d1.waitHead q s
      | k :: rest => if d.pool.meets e.ev.kind.cls then d1.admitHead q e s k rest else d1.waitHead q s

/-- R112: the admitter takes the first candidate head of the rotation. -/
def admission (d : Device) : Device :=
  match d.pool.nextLane with
  | some q => d.attempt q
  | none => d

/-! ## The admission limit and lane reset (R116, R117) -/

/-- R116: the WAITING head is lost and the consumers of its last computed set are flagged. -/
def limitExpiry (q : Fin 17) (d : Device) : Device :=
  let n := d.pool.lanes[q]
  match n.waiting, n.waitTimer, n.queue with
  | true, some _, e :: _ =>
    let d1 := (d.updPend q PendLane.popHead).loseEntry q e
    match n.lastSet with
    | some s => d1.flagMembers s
    | none => d1
  | _, _, _ => d

/-- R117: the entries are taken from head to tail and each is lost; a WAITING head's consumers are treated as R116
states. -/
def Device.emptyQueue (d : Device) (q : Fin 17) : Device :=
  let n := d.pool.lanes[q]
  let d1 := d.updPend q fun n => { n with queue := [], waiting := false, waitTimer := none, lastSet := none }
  let d2 := n.queue.foldl (fun d e => d.loseEntry q e) d1
  match n.waiting, n.lastSet with
  | true, some s => d2.flagMembers s
  | _, _ => d2

/-! ## Requests (R119, R120) -/

/-- R119. -/
def setAdmission (fs : List Byte) (d : Device) : Carried :=
  match fs with
  | [r, m] =>
    let reserve := clampTo 0 64 r.toNat
    let limit := clampTo 1 255 m.toNat
    answer (d.updPool fun p => { p with reserve := reserve, limit := limit })
      (doneOr (reserve ≠ r.toNat || limit ≠ m.toNat))
  | _ => malformed d

/-- The READ-POOL reply (11.4). -/
def poolReport (p : Pool) : List Byte :=
  out2 p.freeCount ++ out2 p.lowWater ++ out1 p.reserve ++ out1 p.limit ++ out2 p.unwanted ++
  (List.finRange 17).flatMap fun q =>
    out2 p.lanes[q].lossCount ++ out1 (p.lanes[q].queue.length + 128 * bit p.lanes[q].waiting)

/-- The loss counters and the unwanted counter set to 0, the low-water mark to the free count (R120). -/
def Pool.cleared (p : Pool) : Pool :=
  { p with lanes := mapTab p.lanes fun n => { n with lossCount := 0 }
           unwanted := 0, lowWater := p.freeCount }

/-- R120. -/
def readPool (fs : List Byte) (d : Device) : Carried :=
  match fs with
  | [clr] =>
    match inBool clr with
    | some clr => answer (if clr then d.updPool Pool.cleared else d) .done (poolReport d.pool)
    | none => malformed d
  | _ => malformed d

/-! ## The commands -/

def execSetAdmission (s : State) : Host.Outcome State Fault Refusal := s.takeCode rcSetAdmission setAdmission

def execReadPool (s : State) : Host.Outcome State Fault Refusal := s.takeCode rcReadPool readPool

/-- R112 to R115, once. -/
def execAdmissionAttempt (s : State) : Host.Outcome State Fault Refusal := s.run admission

/-- R116, for a lane whose head is WAITING. -/
def execAdmissionLimitExpiry (lane : Nat) (s : State) : Host.Outcome State Fault Refusal :=
  s.runAt 17 lane .noSuchLane limitExpiry

end Sys2Proof.Machine
end

