-- ==== Sys2Proof/Machine/Lanes.lean ====
section
/-! DEFINITION. The lane controller's commands (1 of the book): the lane state machine (R2 to R11), settings (R20 to
R22), watch points, the wake hold-off and the tender timer (R12, R16, R18, R19). -/

namespace Sys2Proof.Machine

/-! ## Opening, suspending, resuming (R3 to R5, R42) -/

/-- R42: integrators 0, keys RELEASED, and the due timer started with a due point taken at once. -/
def LaneScan.enter (m : LaneScan) (scanPeriod : Nat) : LaneScan :=
  { m.clearKeys with waiting := true, dueTimer := some (scanPeriod * 250) }

/-- R3, steps 1 to 5. -/
def Device.openLane (d : Device) (l : Fin 16) : Device :=
  let d1 := d.setLaneState l .opened
  let d2 := d1.updScan l fun m => m.enter d.lanes[l].active.scanPeriod
  let d3 := d2.updLane l fun r => { r.stopWake with watchTimer := none }
  (d3.tellPorts l true).offerLaneState l .opened .request

/-- A request that names one lane and nothing more (R2). -/
def onLane (carry : Fin 16 → Device → Carried) (fs : List Byte) (d : Device) : Carried :=
  match fs with
  | [b] =>
    match inIndex 16 b with
    | some l => carry l d
    | none => malformed d
  | _ => malformed d

/-- OPEN-LANE (R2, R3). -/
def openLaneReq (l : Fin 16) (d : Device) : Carried :=
  match d.lanes[l].state with
  | .opened => answer d .done
  | .closed =>
    if d.keymaps.lanes[l].active.isNone then refuse d .refusedNoKeymap else answer (d.openLane l) .done
  | .suspended | .faulted => refuse d .refusedState

/-- SUSPEND-LANE (R4). -/
def suspendLaneReq (l : Fin 16) (d : Device) : Carried :=
  if d.lanes[l].state = .opened then
    let d1 := (d.setLaneState l .suspended).updLane l LaneRec.closeWindow
    answer ((d1.tellPorts l false).offerLaneState l .suspended .request) .done
  else refuse d .refusedState

/-- RESUME-LANE (R5). -/
def resumeLaneReq (l : Fin 16) (d : Device) : Carried :=
  if d.lanes[l].state = .suspended then
    answer (((d.setLaneState l .opened).tellPorts l true).offerLaneState l .opened .request) .done
  else refuse d .refusedState

/-! ## Leaving the scanning states (R6 to R9) -/

/-- R6 and R8 after the wind-down of R7: state, tender window, watch timer, LANE-STATE, pending settings, wake
monitor (in CLOSED alone), pending keymap. -/
def Device.depart (d : Device) (l : Fin 16) (dest : LaneState) (c : LaneCause) : Device :=
  let d1 := ((d.windDown l).setLaneState l dest).updLane l fun r => { r.closeWindow with watchTimer := some 8 }
  let d2 := (d1.offerLaneState l dest c).adopt l
  let d3 := if dest = .closed then d2.updLane l LaneRec.enterClosedWake else d2
  d3.departKeymap l

/-- A present drawer of the lane stands OPEN; an unsettled drawer is reported CLOSED (R6, R164). -/
def Device.drawerOpen (d : Device) (l : Fin 16) : Bool :=
  [ofLane l 0, ofLane l 1].any fun n =>
    d.drawers.drawers[n].present && d.drawers.drawers[n].settled && d.drawers.drawers[n].position == .opened

/-- R9: a FAULT lane becomes CLOSED; the watch timer keeps running. -/
def Device.closeFaulted (d : Device) (l : Fin 16) : Device :=
  ((d.setLaneState l .closed).updLane l LaneRec.enterClosedWake).offerLaneState l .closed .request

/-- CLOSE-LANE (R2, R6, R9). -/
def closeLane (fs : List Byte) (d : Device) : Carried :=
  match fs with
  | [b, force] =>
    match inIndex 16 b, inBool force with
    | some l, some isForced =>
      match d.lanes[l].state with
      | .opened | .suspended =>
        if d.drawerOpen l && !isForced then refuse d .refusedState
        else answer (d.depart l .closed .request) .done
      | .faulted => answer (d.closeFaulted l) .done
      | .closed => refuse d .refusedState
    | _, _ => malformed d
  | _ => malformed d

/-! ## RESET-LANE (R10, R44, R61, R86, R117, R164, R174, R181) -/

/-- R86 for one port: the settings, enable included, and the counters are kept. -/
def Port.laneReset (p : Port) : Port :=
  { p with state := .disabled, bufX := freeBuffer, bufY := freeBuffer, current := some .x, markDamaged := false,
           markOverlength := false, markOverrun := false, badCount := 0, overrun := false, idleTimer := none }

/-- R10, step 2, in the matrix scanner, the key translator and the ports (R44, R61, R86). -/
def Device.clearRuntime (d : Device) (l : Fin 16) : Device :=
  let d1 := (d.withdrawPass l).updScan l LaneScan.clearKeys
  let d2 := d1.updTrans l fun t => { t.clearOwner with held := Vector.replicate 128 none }
  (d2.updPort (ofLane l 0) Port.laneReset).updPort (ofLane l 1) Port.laneReset

/-- R10, step 2, in the lane record. -/
def LaneRec.laneReset (r : LaneRec) : LaneRec :=
  { r.closeWindow with lockCandidate := none, lockCount := 0, wakeHoldOff := 0, wakeRef := none, wakeDue := false
                       watchTimer := some 8 }

/-- R164: the lane's WAITING kicks, in wait-list order. -/
def DrawerUnit.waitingOf (u : DrawerUnit) (l : Fin 16) : List (Fin 32) := u.waitList.filter fun n => laneOf n == l

/-- R10, steps 1 to 8. -/
def Device.resetLane (d : Device) (l : Fin 16) : Device :=
  let d1 := (d.emptyQueue (laneQueue l)).clearRuntime l
  let d2 := (d1.updLane l LaneRec.laneReset).setLaneState l .closed
  let d3 := (d2.adopt l).updLane l LaneRec.enterClosedWake
  let d4 := d3.offerLaneState l .closed .reset
  let d5 := (d4.drawers.waitingOf l).foldl (fun d n => d.abortWaiting n 3) d4
  let d6 := (d5.updGen l Generator.stop).updLamp l fun _ => { overrideMode := none, staged := none }
  d6.departKeymap l

/-! ## Settings (R20, R22) -/

/-- SET-LANE (R20): a complete set, checked and clamped, into the pending copy; adopted at once in CLOSED and
FAULT. -/
def setLane (fs : List Byte) (d : Device) : Carried :=
  match fs with
  | b :: rest =>
    match inIndex 16 b, rawSettings rest with
    | some l, some g =>
      let d1 := d.updLane l fun r => { r with pendingSet := some g.clamped }
      answer (if d.lanes[l].state.scanning then d1 else d1.adopt l) (doneOr (g.clamped ≠ g))
    | _, _ => malformed d
  | _ => malformed d

/-- READ-LANE's record (R22), in the order in which that rule lists the fields. -/
def laneReport (r : LaneRec) (pendingCopy : Bool) : List Byte :=
  out1 r.state.code ++ out1 r.keyLock.code ++ outFlag r.settled ++ out1 (firstListedCode r.windowOpen) ++
  out2 r.tenderTimer ++ out2 r.wakeHoldOff ++ outFlag r.pendingSet.isSome ++
  outSettings (if pendingCopy then r.pendingSet.getD r.active else r.active)

/-- READ-LANE (R22). -/
def readLane (fs : List Byte) (d : Device) : Carried :=
  match fs with
  | [b, sel] =>
    match inIndex 16 b, inBool sel with
    | some l, some pendingCopy => answer d .done (laneReport d.lanes[l] pendingCopy)
    | _, _ => malformed d
  | _ => malformed d

/-! ## Timers -/

/-- A watch point (R12, R18): the timer starts again, a key-lock sample is taken, and in CLOSED with the monitor
running a wake reading, at once if the driver is idle and otherwise at the end of the pass in progress. -/
def watchPoint (lineA lineB : Bool) (rows : Byte) (l : Fin 16) (d : Device) : Device :=
  match d.lanes[l].watchTimer with
  | none => d
  | some _ =>
    let d1 := (d.updLane l fun r => { r with watchTimer := some 8 }).sampleLock l (KeyLock.ofLines lineA lineB)
    if d.lanes[l].state = .closed ∧ d.lanes[l].wakeMonitor then
      if d.scanner.idle then d1.wakeReading l rows else d1.updLane l fun r => { r with wakeDue := true }
    else d1

/-- R16: the tender timer reaches 0. -/
def tenderExpiry (l : Fin 16) (d : Device) : Device :=
  if d.lanes[l].windowOpen then d.updLane l LaneRec.closeWindow else d

/-- R19: the hold-off counts down to 0. -/
def holdOffExpiry (l : Fin 16) (d : Device) : Device := d.updLane l fun r => { r with wakeHoldOff := 0 }

/-! ## The commands -/

def execOpenLane (s : State) : Host.Outcome State Fault Refusal := s.takeCode rcOpenLane (onLane openLaneReq)

def execCloseLane (s : State) : Host.Outcome State Fault Refusal := s.takeCode rcCloseLane closeLane

def execSuspendLane (s : State) : Host.Outcome State Fault Refusal :=
  s.takeCode rcSuspendLane (onLane suspendLaneReq)

def execResumeLane (s : State) : Host.Outcome State Fault Refusal := s.takeCode rcResumeLane (onLane resumeLaneReq)

/-- RESET-LANE is accepted in every state (R2, R10). -/
def execResetLane (s : State) : Host.Outcome State Fault Refusal :=
  s.takeCode rcResetLane (onLane fun l d => answer (d.resetLane l) .done)

def execSetLane (s : State) : Host.Outcome State Fault Refusal := s.takeCode rcSetLane setLane

def execReadLane (s : State) : Host.Outcome State Fault Refusal := s.takeCode rcReadLane readLane

def execWatchPoint (lane : Nat) (lineA lineB : Bool) (rows : Byte) (s : State) : Host.Outcome State Fault Refusal :=
  s.runAt 16 lane .noSuchLane (watchPoint lineA lineB rows)

def execWakeHoldOffExpiry (lane : Nat) (s : State) : Host.Outcome State Fault Refusal :=
  s.runAt 16 lane .noSuchLane holdOffExpiry

def execTenderTimerExpiry (lane : Nat) (s : State) : Host.Outcome State Fault Refusal :=
  s.runAt 16 lane .noSuchLane tenderExpiry

end Sys2Proof.Machine
end

