-- ==== Sys2Proof/Machine/Matrix.lean ====
section
/-! DEFINITION. The matrix scanner's commands (2 of the book) and what a pass end hands to the key translator and
the keymap store: due points and misses (R25, R26, R28, R8), the arbiter and pass start (R27, R29 to R31), the
sample, the ghost check and the integrators (R34 to R36), key states (R38 to R41), the pass-end notice with the
typematic repeat (R70) and the quiet keymap switch (R57), SET-SCAN and READ-KEYS (R45, R46). -/

namespace Sys2Proof.Machine

/-! ## Due points (R25, R26, R28) -/

/-- A due point: the waiting flag is set, or the pass is missed; the timer is loaded again with the period in
force. A miss under policy FAULT takes the lane to FAULT (R8). -/
def duePoint (l : Fin 16) (d : Device) : Device :=
  let m := d.scanner.lanes[l]
  let period := d.lanes[l].active.scanPeriod * 250
  match m.dueTimer with
  | none => d
  | some _ =>
    if m.waiting then
      let d1 := d.updScan l fun m => { m with missCount := sat16 m.missCount 1, dueTimer := some period }
      match d.lanes[l].active.missPolicy with
      | .hold => d1
      | .fault => d1.depart l .faulted .missFault
    else d.updScan l fun m => { m with waiting := true, dueTimer := some period }

/-! ## Pass start (R27, R29 to R31) -/

/-- The lane whose waiting pass the arbiter starts next (R27). -/
def Scanner.nextLane (m : Scanner) : Option (Fin 16) :=
  if m.idle then (rotation m.lastServed).find? fun l => m.lanes[l].waiting else none

/-- A PRESSED key is released and LATCHED with its integrator unchanged (R31, R58). -/
def Device.latchKey (d : Device) (l : Fin 16) (p : Fin 128) : Device :=
  (d.translateRelease l p).updScan l fun m => { m with keys := m.keys.set p .latched }

/-- The PRESSED keys above the rollover limit, highest position first (R31). -/
def LaneScan.overLimit (m : LaneScan) (limit : Nat) : List (Fin 128) :=
  (m.positions .pressed).reverse.take (m.countKeys .pressed - limit)

/-- What the matrix scanner does with settings adopted at a pass start (R30, R31). -/
def Device.applyAdopted (d : Device) (l : Fin 16) : Device :=
  let g := d.lanes[l].active
  let d1 := d.updScan l fun m => { m with integ := mapTab m.integ (min g.debounce) }
  (d1.scanner.lanes[l].overLimit g.rollover).foldl (fun d p => d.latchKey l p) d1

/-- R29: the pass of a lane starts, with the column count and dwell in force after the adoption. -/
def Device.startPass (d : Device) (l : Fin 16) : Device :=
  let d1 := (d.updScan l fun m => { m with waiting := false, discard := false }).updScanner fun m =>
    { m with laneInPass := some l, lastServed := l }
  let d2 := if d.lanes[l].pendingSet.isSome then (d1.adopt l).applyAdopted l else d1
  d2.updScanner fun m =>
    { m with passLeft := d2.lanes[l].active.columns * m.dwell, passColumns := d2.lanes[l].active.columns
             passDwell := m.dwell }

/-- R27: the arbiter starts a waiting pass, if the driver is idle and there is one. -/
def passStart (d : Device) : Device :=
  match d.scanner.nextLane with
  | some l => d.startPass l
  | none => d

/-! ## The sample and the ghost check (R34, R35) -/

/-- A position of row `r` and column `c` is in the sample S (R34). -/
def inSample (g : Settings) (raw : BitVec 128) (r c : Nat) : Bool :=
  decide (r < g.rows) && decide (c < g.columns) && hasBit raw (r * 16 + c)

/-- A position of S is ambiguous when three others of S stand at the other corners of a rectangle (R35). -/
def ambiguous (g : Settings) (raw : BitVec 128) (r c : Nat) : Bool :=
  g.ghostCheck && inSample g raw r c && (List.range 8).any fun r' =>
    r' != r && inSample g raw r' c && (List.range 16).any fun c' =>
      c' != c && inSample g raw r c' && inSample g raw r' c'

/-! ## Integrators and key states (R36 to R39) -/

/-- One integrator over one pass (R36). -/
def integrate (g : Settings) (raw : BitVec 128) (p : Nat) (i : Nat) : Nat :=
  if ambiguous g raw (p / 16) (p % 16) then i
  else if inSample g raw (p / 16) (p % 16) then min g.debounce (i + 1)
  else i - 1

/-- The release step on one key (R38). -/
def releaseStep (debounce : Nat) (k : KeyState) (i : Nat) : KeyState :=
  match k with
  | .pressed | .latched => if i = 0 then .released else k
  | .blocked => if i < debounce then .released else .blocked
  | .released => .released

/-- The integrators and the release step over a whole lane. -/
def LaneScan.sampled (m : LaneScan) (g : Settings) (raw : BitVec 128) : LaneScan :=
  let integ := tab fun p : Fin 128 => integrate g raw p.val m.integ[p]
  { m with integ := integ, keys := tab fun p => releaseStep g.debounce m.keys[p] integ[p] }

/-- The candidates of the press step, in order, each with whether its press is LATE (R39, R40). -/
def LaneScan.candidates (m : LaneScan) (debounce : Nat) (dead : Fin 128 → Bool) : List (Fin 128 × Bool) :=
  (((List.finRange 128).filter fun p => m.keys[p] == .blocked && m.integ[p] == debounce).map fun p => (p, true)) ++
  (((List.finRange 128).filter fun p => m.keys[p] == .released && m.integ[p] == debounce && !dead p).map
    fun p => (p, false))

/-- The press step as far as it has come: the keys, how many are PRESSED, and the presses made, in order. -/
structure PressStep where
  keys    : Table KeyState 128
  count   : Nat
  presses : List (Fin 128 × Bool)
  deriving DecidableEq, Repr

/-- One candidate of the press step: PRESSED below the rollover limit, otherwise BLOCKED (R39). -/
def PressStep.next (limit : Nat) (a : PressStep) (c : Fin 128 × Bool) : PressStep :=
  if a.count < limit then
    { keys := a.keys.set c.1 .pressed, count := a.count + 1, presses := a.presses ++ [c] }
  else { a with keys := a.keys.set c.1 .blocked }

/-- The press step over a lane whose release step is done (R39). -/
def LaneScan.pressStep (m : LaneScan) (g : Settings) (dead : Fin 128 → Bool) : PressStep :=
  (m.candidates g.debounce dead).foldl (PressStep.next g.rollover)
    { keys := m.keys, count := m.countKeys .pressed, presses := [] }

/-! ## The pass-end notice (R41, R70) and the keymap notice (R57) -/

/-- R70: the repeat countdown advances, unless the owner was pressed in this notice; at 0 it gives one repeat
(no event for a SUSPENDED lane's owner without WAKE) and is loaded with Nr. -/
def Device.advanceRepeat (d : Device) (l : Fin 16) (presses : List (Fin 128 × Bool)) : Device :=
  let t := d.trans[l]
  match t.owner with
  | none => d
  | some p =>
    if presses.any fun c => c.1 == p then d
    else if 1 < t.countdown then d.updTrans l fun t => { t with countdown := t.countdown - 1 }
    else
      let d1 := d.updTrans l fun t => { t with countdown := t.periodPasses }
      match t.held[p] with
      | none => d1
      | some h =>
        if d.lanes[l].state = .suspended ∧ ¬ h.wake then d1
        else d1.offer (laneQueue l) (keyNotice .keyRepeat p h d.lanes[l].keyLock false)

/-- The pass-end notice: releases, then presses, then the repeat (R32 step 5, R41, R70). -/
def Device.passNotice (d : Device) (l : Fin 16) (releases : List (Fin 128)) (presses : List (Fin 128 × Bool)) :
    Device :=
  let d1 := releases.foldl (fun d p => d.translateRelease l p) d
  let d2 := presses.foldl (fun d c => d.translatePress l c.1 c.2) d1
  d2.advanceRepeat l presses

/-- R57: with a pending image and no PRESSED or BLOCKED key, the switch is quiet. -/
def Device.quietSwitch (d : Device) (l : Fin 16) : Device :=
  let m := d.scanner.lanes[l]
  match d.keymaps.lanes[l].pendingImg with
  | some i => if m.countKeys .pressed + m.countKeys .blocked = 0 then d.switchKeymap l i false else d
  | none => d

/-- R32, steps 1 to 6: a pass whose discard mark is clear. -/
def Device.completePass (d : Device) (l : Fin 16) (raw : BitVec 128) (lock : KeyLock) : Device :=
  let g := d.lanes[l].active
  let before := d.scanner.lanes[l]
  let m := before.sampled g raw
  let pressed := m.pressStep g (d.dead l)
  let releases := (before.positions .pressed).filter fun p => m.keys[p] == .released
  let d1 := d.updScan l fun _ => { m with keys := pressed.keys }
  ((d1.sampleLock l lock).passNotice l releases pressed.presses).quietSwitch l

/-- What the rows of a lane read with all columns driven, out of the readings of all lanes. -/
def wakeRows (wake : BitVec 128) (l : Fin 16) : Byte := BitVec.ofNat 8 (wake.toNat / 2 ^ (8 * l.val))

/-- R18: the readings that became due during the pass are taken before the driver starts another. -/
def Device.takeDueReadings (d : Device) (wake : BitVec 128) : Device :=
  ((List.finRange 16).filter fun l => d.lanes[l].wakeDue).foldl (fun d l => d.wakeReading l (wakeRows wake l)) d

/-- The end of the pass in progress (R32, R33): completed or discarded, and the driver is free. -/
def passEnd (raw : BitVec 128) (lock : KeyLock) (wake : BitVec 128) (d : Device) : Device :=
  match d.scanner.laneInPass with
  | none => d
  | some l =>
    let d1 := if d.scanner.lanes[l].discard then d.updScan l fun m => { m with discard := false }
      else d.completePass l raw lock
    (d1.updScanner fun m =>
      { m with laneInPass := none, passLeft := 0, passColumns := 0, passDwell := 0 }).takeDueReadings wake

/-! ## Requests (R45, R46) -/

/-- SET-SCAN (R45). -/
def setScan (fs : List Byte) (d : Device) : Carried :=
  match fs with
  | [w] =>
    let dwell := clampTo 4 63 w.toNat
    answer (d.updScanner fun m => { m with dwell := dwell }) (doneOr (dwell ≠ w.toNat))
  | _ => malformed d

/-- NONE, WAITING, RUNNING, RUNNING-WAITING (R23). -/
def Scanner.passStatus (m : Scanner) (l : Fin 16) : Nat := 2 * bit (m.inPass l) + bit m.lanes[l].waiting

/-- READ-KEYS's reply fields (R46). -/
def keysReport (m : Scanner) (l : Fin 16) (row : Fin 8) : List Byte :=
  let n := m.lanes[l]
  out1 (m.passStatus l) ++ out2 n.missCount ++ out1 (n.countKeys .pressed) ++ out1 (n.countKeys .blocked) ++
  out1 (n.countKeys .latched) ++ out1 m.dwell ++
  (List.finRange 16).flatMap fun c =>
    let p : Fin 128 := ⟨row.val * 16 + c.val, by omega⟩
    out1 n.keys[p].code ++ out1 n.integ[p]

/-- READ-KEYS (R46). -/
def readKeys (fs : List Byte) (d : Device) : Carried :=
  match fs with
  | [b, r, clr] =>
    match inIndex 16 b, inIndex 8 r, inBool clr with
    | some l, some row, some clr =>
      answer (if clr then d.updScan l fun m => { m with missCount := 0 } else d) .done (keysReport d.scanner l row)
    | _, _, _ => malformed d
  | _ => malformed d

/-! ## The commands -/

def execSetScan (s : State) : Host.Outcome State Fault Refusal := s.takeCode rcSetScan setScan

def execReadKeys (s : State) : Host.Outcome State Fault Refusal := s.takeCode rcReadKeys readKeys

def execDuePoint (lane : Nat) (s : State) : Host.Outcome State Fault Refusal := s.runAt 16 lane .noSuchLane duePoint

def execPassStart (s : State) : Host.Outcome State Fault Refusal := s.run passStart

def execPassEnd (sample : BitVec 128) (lineA lineB : Bool) (wake : BitVec 128) (s : State) :
    Host.Outcome State Fault Refusal :=
  s.run (passEnd sample (KeyLock.ofLines lineA lineB) wake)

end Sys2Proof.Machine
end

