-- ==== Sys2Proof/Machine/Keymaps.lean ====
section
/-! DEFINITION. The keymap store's commands (3.1 to 3.3 of the book): the image requests (R49 to R54), assignment
(R55, R56) and the forced switch (R58). -/

namespace Sys2Proof.Machine

/-! ## Images in use (R49, R52) -/

/-- The lanes for which an image is active, as a mask. -/
def KeymapStore.activeMask (k : KeymapStore) (i : Fin 8) : Nat :=
  ((List.finRange 16).map fun l => if k.lanes[l].active = some i then 2 ^ l.val else 0).sum

/-- The lanes for which an image is pending, as a mask. -/
def KeymapStore.pendingMask (k : KeymapStore) (i : Fin 8) : Nat :=
  ((List.finRange 16).map fun l => if k.lanes[l].pendingImg = some i then 2 ^ l.val else 0).sum

/-- The image is active or pending for some lane (R49). -/
def KeymapStore.inUse (k : KeymapStore) (i : Fin 8) : Bool :=
  (List.finRange 16).any fun l => k.lanes[l].active == some i || k.lanes[l].pendingImg == some i

def Device.updImage (d : Device) (i : Fin 8) (f : Image → Image) : Device :=
  d.updKeymaps fun k => { k with images := upd k.images i f }

/-! ## Image requests (R50 to R54) -/

/-- R50: the count is 1 to 16 and the last index addressed at most 511. -/
def runOk (first count : Nat) : Bool := decide (1 ≤ count) && decide (count ≤ 16) && decide (first + count ≤ 512)

/-- Entries stored in order from an index on (R51). -/
def storeEntries (t : Table KeyEntry 512) (first : Nat) (es : List KeyEntry) : Table KeyEntry 512 :=
  tab fun i => if first ≤ i.val then (es[i.val - first]?).getD t[i] else t[i]

/-- WRITE-KEYMAP (R51). -/
def writeKeymap (fs : List Byte) (d : Device) : Carried :=
  match fs with
  | b :: lo :: hi :: n :: rest =>
    match inIndex 8 b, inKeyEntries rest with
    | some i, some es =>
      if ¬ runOk (in2 lo hi) n.toNat ∨ es.length ≠ n.toNat then malformed d
      else if d.keymaps.inUse i then refuse d .refusedInUse
      else answer (d.updImage i fun m =>
        { entries := storeEntries m.entries (in2 lo hi) es, state := .opened }) .done
    | _, _ => malformed d
  | _ => malformed d

/-- The entries of an image from an index on, as bytes. -/
def outEntries (t : Table KeyEntry 512) (first count : Nat) : List Byte :=
  ((t.toList.drop first).take count).flatMap outKeyEntry

/-- READ-KEYMAP (R52). -/
def readKeymap (fs : List Byte) (d : Device) : Carried :=
  match fs with
  | [b, lo, hi, n] =>
    match inIndex 8 b with
    | some i =>
      if runOk (in2 lo hi) n.toNat then
        answer d .done (out1 d.keymaps.images[i].state.code ++ out2 (d.keymaps.activeMask i) ++
          out2 (d.keymaps.pendingMask i) ++ outEntries d.keymaps.images[i].entries (in2 lo hi) n.toNat)
      else malformed d
    | none => malformed d
  | _ => malformed d

/-- VERIFY-KEYMAP (R53): refused on an EMPTY image; otherwise the walk starts and the request stays in progress. -/
def verifyKeymap (fs : List Byte) (d : Device) : Carried :=
  match fs with
  | [b, lo, hi] =>
    match inIndex 8 b with
    | some i =>
      if d.keymaps.images[i].state = .empty then refuse d .refusedState
      else (d.updKeymaps fun k => { k with verify := some { image := i, checkWord := in2 lo hi } }, none)
    | none => malformed d
  | _ => malformed d

/-- All 1536 bytes of the image added together modulo 65536 (R53). -/
def Image.sum (m : Image) : Nat := ((m.entries.toList.flatMap outKeyEntry).map BitVec.toNat).sum % 65536

/-- The end of the checksum walk (R53): the reply carries the computed sum in both cases. -/
def verifyWalkEnd (d : Device) : Device :=
  match d.keymaps.verify with
  | none => d
  | some w =>
    let sum := d.keymaps.images[w.image].sum
    let d1 := d.updKeymaps fun k => { k with verify := none }
    if sum = w.checkWord then
      (d1.updImage w.image fun m => { m with state := if m.state = .opened then .ready else m.state }).reply
        { code := .done, fields := out2 sum }
    else d1.reply { code := .refusedCheck, fields := out2 sum }

/-- ERASE-KEYMAP (R54). -/
def eraseKeymap (fs : List Byte) (d : Device) : Carried :=
  match fs with
  | [b] =>
    match inIndex 8 b with
    | some i =>
      if d.keymaps.inUse i then refuse d .refusedInUse else answer (d.updImage i fun _ => emptyImage) .done
    | none => malformed d
  | _ => malformed d

/-! ## Assignment (R55, R56) -/

/-- R55 on a READY image. -/
def Device.assignKeymap (d : Device) (l : Fin 16) (i : Fin 8) : Device :=
  if d.keymaps.lanes[l].active = some i then
    d.updMap l fun m => { m with pendingImg := none, switchTimer := none }
  else if d.keymaps.lanes[l].active = none ∨ ¬ d.lanes[l].state.scanning then d.switchKeymap l i false
  else d.updMap l fun m =>
    { m with pendingImg := some i, switchTimer := some (d.lanes[l].active.switchTimeout * 1000) }

/-- ASSIGN-KEYMAP (R55). -/
def assignKeymap (fs : List Byte) (d : Device) : Carried :=
  match fs with
  | [b, m] =>
    match inIndex 16 b, inIndex 8 m with
    | some l, some i =>
      if d.keymaps.images[i].state = .ready then answer (d.assignKeymap l i) .done else refuse d .refusedNotReady
    | _, _ => malformed d
  | _ => malformed d

/-! ## The forced switch (R58) -/

/-- Every BLOCKED key LATCHED, with no transition (R58 step 2). -/
def LaneScan.latchBlocked (m : LaneScan) : LaneScan :=
  { m with keys := mapTab m.keys fun k => if k = .blocked then .latched else k }

/-- R58: the switch timer of a lane reaches 0. -/
def forcedSwitch (l : Fin 16) (d : Device) : Device :=
  match d.keymaps.lanes[l].switchTimer, d.keymaps.lanes[l].pendingImg with
  | some _, some i =>
    let d1 := (d.scanner.lanes[l].positions .pressed).foldl (fun d p => d.latchKey l p) d
    (d1.updScan l LaneScan.latchBlocked).switchKeymap l i true
  | _, _ => d

/-! ## The commands -/

def execWriteKeymap (s : State) : Host.Outcome State Fault Refusal := s.takeCode rcWriteKeymap writeKeymap

def execReadKeymap (s : State) : Host.Outcome State Fault Refusal := s.takeCode rcReadKeymap readKeymap

def execVerifyKeymap (s : State) : Host.Outcome State Fault Refusal := s.takeCode rcVerifyKeymap verifyKeymap

/-- The walk that VERIFY-KEYMAP started ends (R53). -/
def execVerifyWalkEnd (s : State) : Host.Outcome State Fault Refusal := s.run verifyWalkEnd

def execEraseKeymap (s : State) : Host.Outcome State Fault Refusal := s.takeCode rcEraseKeymap eraseKeymap

def execAssignKeymap (s : State) : Host.Outcome State Fault Refusal := s.takeCode rcAssignKeymap assignKeymap

def execForcedKeymapSwitch (lane : Nat) (s : State) : Host.Outcome State Fault Refusal :=
  s.runAt 16 lane .noSuchLane forcedSwitch

end Sys2Proof.Machine
end

