-- ==== Sys2Proof/Machine/Classifier.lean ====
section
/-! DEFINITION. The scan classifier (5 of the book): the first matching rule (R93), the modulo-10 check (R95), the
outcome and its SCAN event (R92, R94, R96 to R98), the read tones (R99), and the rule requests (R100 to R103). -/

namespace Sys2Proof.Machine

/-! ## Matching (R93) -/

/-- The first prefix-length characters of the record equal the rule's prefix characters, in order. -/
def ScanRule.leadFits (r : ScanRule) (chars : List Byte) : Bool :=
  decide (r.leadLen ≤ chars.length) && decide (chars.take r.leadLen = r.lead.toList.take r.leadLen)

/-- R93. -/
def ScanRule.fits (r : ScanRule) (l : Fin 16) (chars : List Byte) : Bool :=
  r.valid && hasBit r.laneMask l.val && r.leadFits chars && decide (r.minLen ≤ chars.length) &&
    decide (chars.length ≤ r.maxLen)

/-- The first rule of the ACTIVE bank, in index order, that matches. -/
def Classifier.firstMatch (k : Classifier) (l : Fin 16) (chars : List Byte) : Option (Fin 32) :=
  (List.finRange 32).find? fun i => k.active[i].rule.fits l chars

/-! ## The modulo-10 check (R95) -/

/-- The outcomes of the check, with NONE for no check (R94). -/
inductive CheckOutcome where
  | none | passed | notNumeric | badLength | mismatch
  deriving DecidableEq, Repr

def CheckOutcome.code : CheckOutcome → Nat
  | .none => 0 | .passed => 1 | .notNumeric => 2 | .badLength => 3 | .mismatch => 4

/-- The character codes of the digits 0 to 9. -/
def isDigit (c : Byte) : Bool := decide (48 ≤ c.toNat) && decide (c.toNat ≤ 57)

/-- The weighted sum of digits given from right to left, the first with weight `w` (3, then 1, alternately). -/
def weightedSum : Nat → List Byte → Nat
  | _, [] => 0
  | w, c :: cs => w * (c.toNat - 48) + weightedSum (4 - w) cs

/-- R95: the tests in their order. -/
def mod10 (data : List Byte) : CheckOutcome :=
  if ¬ data.all isDigit then .notNumeric
  else
    match data.reverse with
    | [] => .badLength
    | check :: digits =>
      if data.length = 8 ∨ data.length = 12 ∨ data.length = 13 ∨ data.length = 14 then
        if (10 - weightedSum 3 digits % 10) % 10 = check.toNat - 48 then .passed else .mismatch
      else .badLength

/-! ## The outcome of a record (R94, R96, R97) -/

/-- What a record becomes: a SCAN event with its detail and the start and length of its body, or a silent drop. -/
inductive ScanOutcome where
  | event (k : Kind) (d1 d2 start len : Nat)
  | drop
  deriving DecidableEq, Repr

/-- R94 on a record matched by an ACCEPT rule. -/
def acceptOutcome (r : ScanRule) (chars : List Byte) : ScanOutcome :=
  let data := chars.drop r.strip
  let c := match r.check with
    | .none => CheckOutcome.none
    | .mod10 => mod10 data
  let k := match c with
    | .none | .passed => Kind.scanGood
    | .notNumeric | .badLength | .mismatch => Kind.scanBadCheck
  .event k r.typeCode.toNat c.code r.strip data.length

/-- R94, R96, R97. -/
def outcomeOf (rule : Option (Fin 32 × ScanRule)) (policy : NoMatchPolicy) (chars : List Byte) : ScanOutcome :=
  match rule with
  | some (i, r) =>
    match r.action with
    | .accept => acceptOutcome r chars
    | .rejectSilent => .drop
    | .rejectReport => .event .scanRejected i.val chars.length 0 chars.length
  | none =>
    match policy with
    | .acceptRaw => .event .scanGood 0 CheckOutcome.none.code 0 chars.length
    | .rejectReport => .event .scanRejected 0xFF chars.length 0 chars.length

/-- The tone selection that a kind of SCAN event reads (R99). -/
def readTone (g : Settings) (k : Kind) : Option (Fin 8) :=
  if k = .scanGood then g.goodTone else if k = .scanBadCheck then g.badTone else none

/-- The first matching rule's counter rises by one (R90, R92 step 1). -/
def Device.countMatch (d : Device) (m : Option (Fin 32)) : Device :=
  match m with
  | some i => d.updRules fun k => { k with active := upd k.active i fun p => { p with hits := sat16 p.hits 1 } }
  | none => d

/-- R92, steps 1 to 4, on the record in a HELD buffer of a port. -/
def Device.classify (d : Device) (n : Fin 32) (b : BufferId) : Device :=
  let l := laneOf n
  let chars := (d.ports[n].buf b).chars
  let isOverrun := d.ports[n].markOverrun
  let g := d.lanes[l].active
  let m := d.rules.firstMatch l chars
  let d1 := d.countMatch m
  match outcomeOf (m.map fun i => (i, d.rules.active[i].rule)) g.noMatch chars with
  | .drop => (d1.updPort n fun p => { p with overrun := p.overrun || isOverrun }).updPort n fun p => p.release b
  | .event k x y start len =>
    (d1.offer (laneQueue l)
      { kind := k, overrun := isOverrun, source := some (sideOf n), detail1 := byteOf x, detail2 := byteOf y,
        body := .buffer n b start len }).requestToneOpt l (readTone g k)

/-! ## Requests (R100 to R103) -/

/-- WRITE-RULE (R101): the whole request is checked before anything is written into the SHADOW bank. -/
def writeRule (fs : List Byte) (d : Device) : Carried :=
  match fs with
  | b :: rest =>
    match inIndex 32 b, rawRule rest with
    | some i, some r =>
      if r.clamped.maxLen < r.clamped.minLen then malformed d
      else answer (d.updRules fun k => { k with shadow := k.shadow.set i { rule := r.clamped, hits := 0 } })
        (doneOr (r.clamped ≠ r))
    | _, _ => malformed d
  | _ => malformed d

/-- The match counter of a place set to 0. -/
def zeroHits (t : Table RulePlace 32) (i : Fin 32) : Table RulePlace 32 := upd t i fun p => { p with hits := 0 }

/-- READ-RULE (R102). -/
def readRule (fs : List Byte) (d : Device) : Carried :=
  match fs with
  | [bank, b, clr] =>
    match inBool bank, inIndex 32 b, inBool clr with
    | some isShadow, some i, some clr =>
      let p := if isShadow then d.rules.shadow[i] else d.rules.active[i]
      let d1 := if ¬ clr then d
        else if isShadow then d.updRules fun k => { k with shadow := zeroHits k.shadow i }
        else d.updRules fun k => { k with active := zeroHits k.active i }
      answer d1 .done (outRule p.rule ++ out2 p.hits)
    | _, _, _ => malformed d
  | _ => malformed d

/-- The number of valid rules of a bank. -/
def validRules (t : Table RulePlace 32) : Nat := (List.finRange 32).countP fun i => t[i].rule.valid

/-- COMMIT-RULES (R103): the banks exchange their roles. -/
def commitRules (fs : List Byte) (d : Device) : Carried :=
  match fs with
  | [] =>
    answer (d.updRules fun k => { active := k.shadow, shadow := k.active }) .done
      (out1 (validRules d.rules.shadow) ++ out1 (validRules d.rules.active))
  | _ => malformed d

/-! ## The commands -/

def execWriteRule (s : State) : Host.Outcome State Fault Refusal := s.takeCode rcWriteRule writeRule

def execReadRule (s : State) : Host.Outcome State Fault Refusal := s.takeCode rcReadRule readRule

def execCommitRules (s : State) : Host.Outcome State Fault Refusal := s.takeCode rcCommitRules commitRules

end Sys2Proof.Machine
end

