-- ==== Sys2Proof/Machine/Ports.lean ====
section
/-! DEFINITION. The scanner ports' commands (4 of the book): characters (R76, R77, R81, R83), start bits and the idle
gap (R78), record ends (R79, R84, R85), SET-PORT and READ-PORT (R87 to R89). -/

namespace Sys2Proof.Machine

/-! ## Record ends (R79, R84) -/

/-- A number as the two bytes of a detail given as one value (R197). -/
def detailLow (n : Nat) : Byte := byteOf (n % 256)

def detailHigh (n : Nat) : Byte := byteOf (n / 256)

/-- The event of a faulted record (R84). A record with both marks gives SCAN-DAMAGED. -/
def faultNotice (n : Fin 32) (p : Port) (received : Nat) : Notice :=
  if p.markDamaged then
    { kind := .scanDamaged, overrun := p.markOverrun, source := some (sideOf n), detail1 := byteOf p.badCount,
      detail2 := byteOf (min 255 received) }
  else
    { kind := .scanOverlength, overrun := p.markOverrun, source := some (sideOf n), detail1 := detailLow received,
      detail2 := detailHigh received }

/-- R79, steps 1 and 2: the idle timer stops and the counters rise. -/
def Port.countRecord (p : Port) : Port :=
  { p with
    idleTimer := none
    cRecords := sat16 p.cRecords 1
    cDamaged := sat16 p.cDamaged (bit p.markDamaged)
    cOverlength := sat16 p.cOverlength (bit (p.markOverlength && !p.markDamaged)) }

/-- R79, step 5: if the record's buffer is still HELD, the other buffer is current if it is FREE. -/
def Port.nextBuffer (p : Port) (b : BufferId) : Port :=
  if (p.buf b).state = .held then
    { p with current := if (p.buf b.other).state = .free then some b.other else none }
  else p

/-- R79, step 6. -/
def Port.endStopping (p : Port) : Port := if p.state = .stopping then { p with state := .disabled } else p

/-- R79: the record in the current buffer `b` ends. -/
def Device.recordEnd (d : Device) (n : Fin 32) (b : BufferId) : Device :=
  let p := d.ports[n]
  let d1 := d.updPort n Port.countRecord
  let d2 :=
    if p.markDamaged || p.markOverlength then
      (d1.offer (laneQueue (laneOf n)) (faultNotice n p (p.buf b).received)).updPort n fun p =>
        p.setBuf b freeBuffer
    else
      (d1.updPort n fun p => p.setBuf b { p.buf b with state := .held }).classify n b
  d2.updPort n fun p => (p.nextBuffer b).endStopping

/-! ## Characters (R76, R77, R81, R83) -/

/-- R76, step 2: a record begins in a FREE buffer; the port's overrun mark passes to it. -/
def Port.beginRecord (p : Port) (b : BufferId) : Port :=
  if (p.buf b).state = .free then
    { p.setBuf b { state := .filling, chars := [], received := 0 } with
      markDamaged := false, markOverlength := false, markOverrun := p.overrun, badCount := 0, overrun := false }
  else p

/-- R76, steps 3 to 5: the character is counted, stored within the first 48, marked if damaged, and the idle timer
is loaded. -/
def Port.storeChar (p : Port) (b : BufferId) (c : Byte) (good : Bool) : Port :=
  let v := p.buf b
  let n := sat16 v.received 1
  { p.setBuf b { v with received := n, chars := if n ≤ Config.recordLength then v.chars ++ [c] else v.chars } with
    markOverlength := p.markOverlength || n == Config.recordLength + 1
    markDamaged := p.markDamaged || !good
    badCount := if good then p.badCount else sat8 p.badCount 1
    idleTimer := some p.idleGap }

/-- The character is taken as the terminator (R76 step 1). -/
def Port.isTerminator (p : Port) (c : Byte) (good : Bool) : Bool := good && p.terminator == some c

/-- The character is taken into the record of current buffer `b`, or ends it (R76, R77). -/
def Device.recordChar (d : Device) (n : Fin 32) (b : BufferId) (c : Byte) (good : Bool) : Device :=
  let p := d.ports[n]
  if p.isTerminator c good then
    if (p.buf b).state = .filling then d.recordEnd n b else d
  else d.updPort n fun p => (p.beginRecord b).storeChar b c good

/-- A character taken by a port: into a record (R76), lost for want of a buffer (R81), or discarded (R83). -/
def scannerCharacter (c : Byte) (good : Bool) (n : Fin 32) (d : Device) : Device :=
  let d1 := d.updPort n fun p => { p with charRate := none }
  let p := d1.ports[n]
  let discarded := d1.updPort n fun p => { p with cDiscarded := sat16 p.cDiscarded 1 }
  match p.state, p.current with
  | .active, some b => d1.recordChar n b c good
  | .active, none => d1.updPort n fun p => { p with cOverrun := sat16 p.cOverrun 1, overrun := true }
  | .stopping, some b => if (p.buf b).state = .filling then d1.recordChar n b c good else discarded
  | .stopping, none => discarded
  | .disabled, _ => discarded

/-- R78: the start bit is confirmed and stops the idle timer; the character is received at the rate in force
(R88, first point). -/
def startBit (n : Fin 32) (d : Device) : Device :=
  d.updPort n fun p => { p with idleTimer := none, charRate := some p.bitRate }

/-- R78: the idle timer reaches 0 and the record in the FILLING buffer ends. -/
def idleExpiry (n : Fin 32) (d : Device) : Device :=
  let p := d.ports[n]
  match p.idleTimer, p.current with
  | some _, some b => if (p.buf b).state = .filling then d.recordEnd n b else d
  | _, _ => d

/-! ## Requests (R87 to R89) -/

/-- A terminator as carried: FFh none, otherwise a code brought to 1 to 127; and whether that changed it. -/
def inTerminator (b : Byte) : Option Byte × Bool :=
  if b.toNat = 0xFF then (none, false) else (some (byteOf (clampTo 1 127 b.toNat)), clampTo 1 127 b.toNat ≠ b.toNat)

/-- SET-PORT (R88). -/
def setPort (fs : List Byte) (d : Device) : Carried :=
  match fs with
  | [b, r, t, g, e] =>
    match inIndex 32 b, PortRate.ofCode r.toNat, inBool e with
    | some n, some rate, some on =>
      let term := inTerminator t
      let gap := clampTo 1 255 g.toNat
      let isOpen := d.lanes[laneOf n].state == .opened
      answer (d.updPort n fun p =>
          { p with bitRate := rate, terminator := term.1, idleGap := gap, enable := on }.follow (on && isOpen))
        (doneOr (term.2 || gap ≠ g.toNat))
    | _, _, _ => malformed d
  | _ => malformed d

/-- A buffer's state and, if FILLING or HELD, its received count (R89, R198). -/
def bufferReport (v : Buffer) : List Byte :=
  out1 v.state.code ++ outOpt4 (if v.state = .free then none else some v.received)

/-- READ-PORT's reply fields (R89). The character format, fixed, is the one value 0 of its list
(notes/assumptions/12.md).

DESIGN CHOICE (notes/assumptions/25.md): R89 names the marks of the record in progress and no value for a port with none;
the marks are then sent as R71 keeps them, as the last record left them until the next begins. -/
def portReport (p : Port) : List Byte :=
  out1 p.state.code ++ out1 (firstListedCode p.ready) ++ outOpt1 (p.current.map BufferId.code) ++
  bufferReport p.bufX ++ bufferReport p.bufY ++ outFlag p.markDamaged ++ outFlag p.markOverlength ++
  outFlag p.markOverrun ++ outFlag p.overrun ++
  out1 p.bitRate.code ++ out1 0 ++ outOpt1 (p.terminator.map BitVec.toNat) ++ out1 p.idleGap ++ outFlag p.enable ++
  out2 p.cRecords ++ out2 p.cDamaged ++ out2 p.cOverlength ++ out2 p.cOverrun ++ out2 p.cDiscarded

/-- The five counters set to 0. -/
def Port.zeroCounters (p : Port) : Port :=
  { p with cRecords := 0, cDamaged := 0, cOverlength := 0, cOverrun := 0, cDiscarded := 0 }

/-- READ-PORT (R89). -/
def readPort (fs : List Byte) (d : Device) : Carried :=
  match fs with
  | [b, clr] =>
    match inIndex 32 b, inBool clr with
    | some n, some clr =>
      answer (if clr then d.updPort n Port.zeroCounters else d) .done (portReport d.ports[n])
    | _, _ => malformed d
  | _ => malformed d

/-! ## The commands -/

def execSetPort (s : State) : Host.Outcome State Fault Refusal := s.takeCode rcSetPort setPort

def execReadPort (s : State) : Host.Outcome State Fault Refusal := s.takeCode rcReadPort readPort

def execScannerCharacter (port : Nat) (char : Byte) (good : Bool) (s : State) : Host.Outcome State Fault Refusal :=
  s.runAt 32 port .noSuchPort (scannerCharacter char good)

def execIdleGapExpiry (port : Nat) (s : State) : Host.Outcome State Fault Refusal :=
  s.runAt 32 port .noSuchPort idleExpiry

def execScannerStartBit (port : Nat) (s : State) : Host.Outcome State Fault Refusal :=
  s.runAt 32 port .noSuchPort startBit

end Sys2Proof.Machine
end

