-- ==== Sys2Proof/Machine/Drawers.lean ====
section
/-! DEFINITION. The drawer unit's commands (8 of the book): KICK and CLEAR-INHIBIT (R151, R163), the sense filter
with openings and closings (R149, R159, R160), grants, pulse ends and confirmations (R155 to R157), the limit timer
(R161), the supply line (R162, R163), and the requests (R166 to R168). -/

namespace Sys2Proof.Machine

/-! ## Requests on a drawer (R165) -/

/-- A request that names one drawer and nothing more (R165). -/
def onDrawer (carry : Fin 32 → Device → Carried) (fs : List Byte) (d : Device) : Carried :=
  match fs with
  | [b] =>
    match inIndex 32 b with
    | some n => carry n d
    | none => malformed d
  | _ => malformed d

/-- The reply code of a refused trunk KICK (R151). -/
def KickRefusal.reply : KickRefusal → ReplyCode
  | .interlock => .refusedInterlock | .inhibited => .refusedInhibited | .state => .refusedState

/-- The reply code of a trunk KICK (R151, R153). -/
def KickResult.reply : KickResult → ReplyCode
  | .accepted | .merged => .done
  | .refused why => why.reply

/-- KICK (R151, R153). -/
def kickReq (n : Fin 32) (d : Device) : Carried :=
  let t := d.requestKick n .request
  answer t.1 t.2.reply

/-- CLEAR-INHIBIT (R163). -/
def clearInhibit (fs : List Byte) (d : Device) : Carried :=
  match fs with
  | [] =>
    if d.drawers.monitor ∧ ¬ d.drawers.supplyHigh then refuse d .refusedState
    else answer (d.updDrawers fun u => { u with inhibit := false }) .done
  | _ => malformed d

/-- CLEAR-COUNTER (R168). -/
def clearCounter (n : Fin 32) (d : Device) : Carried :=
  answer (d.updDrawer n fun w => { w with openCount := 0 }) .done (out2 d.drawers.drawers[n].openCount)

/-! ## SET-DRAWER (R166) -/

/-- The open limit brought to its range: 0, or 5 to 255. -/
def clampOpenLimit (v : Nat) : Nat := if v = 0 then 0 else clampTo 5 255 v

/-- R161, on a change of the open limit written while the drawer is open. -/
def Drawer.setOpenLimit (w : Drawer) (limit : Nat) : Drawer :=
  let v := { w with openLimit := limit }
  if w.position = .closed then v
  else if limit = 0 then { v with limitTimer := none, limitSubMs := 0 }
  else if w.limitTimer.isNone then v.loadLimit
  else v

/-- R150: the condition of an ABSENT drawer; its counter and settings are kept. -/
def Drawer.makeAbsent (w : Drawer) : Drawer :=
  { w with present := false, stability := none, kickTimer := none, limitTimer := none, limitSubMs := 0,
           position := .closed, settled := false, kick := .idle }

/-- R166: from ABSENT to PRESENT the position is CLOSED and unsettled, and the stability timer starts from the
sense input as it stands. -/
def Drawer.makePresent (w : Drawer) : Drawer :=
  { w with present := true, position := .closed, settled := false, candidate := w.senseInput, stability := some 10 }

/-- Writing the presence a drawer already has changes nothing (R166). -/
def Drawer.setPresence (w : Drawer) (on : Bool) : Drawer :=
  match w.present, on with
  | true, false => w.makeAbsent
  | false, true => w.makePresent
  | true, true | false, false => w

/-- ABSENT is refused while the drawer is PRESENT and its kick is not IDLE or its position is OPEN (R166). -/
def Drawer.busy (w : Drawer) : Bool := w.present && (w.kick != .idle || w.position == .opened)

/-- The DRAWER form, after its scope code (R166). -/
def setDrawerForm (fs : List Byte) (d : Device) : Carried :=
  match fs with
  | [b, pr, pw, ct, ol] =>
    match inIndex 32 b, inBool pr with
    | some n, some on =>
      if !on && d.drawers.drawers[n].busy then refuse d .refusedState
      else
        let pulse := clampTo 10 255 pw.toNat
        let confirm := clampTo 5 255 ct.toNat
        let limit := clampOpenLimit ol.toNat
        answer (d.updDrawer n fun w =>
            ({ w with pulseWidth := pulse, confirmTime := confirm }.setOpenLimit limit).setPresence on)
          (doneOr (pulse ≠ pw.toNat || confirm ≠ ct.toNat || limit ≠ ol.toNat))
    | _, _ => malformed d
  | _ => malformed d

/-- The SUPPLY form, after its scope code (R166). ENABLED while the line is low is a supply fault (R162). DESIGN CHOICE
(notes/assumptions/26.md): R166 gives no order among the settings of one request; limit, gap and monitor are written
before the fault is taken, so the units that the fault cuts recover with the new gap. -/
def setSupplyForm (fs : List Byte) (d : Device) : Carried :=
  match fs with
  | [k, g, m] =>
    match inBool m with
    | some on =>
      let limit := clampTo 1 8 k.toNat
      let gap := clampTo 0 50 g.toNat
      let d1 := d.updDrawers fun u => { u with supplyGap := gap, monitor := on }.applyLimit limit
      answer (if on && !d1.drawers.supplyHigh then d1.supplyFaultTaken else d1)
        (doneOr (limit ≠ k.toNat || gap ≠ g.toNat))
    | none => malformed d
  | _ => malformed d

/-- SET-DRAWER: the scope code tells the two forms apart (R166); another scope code, or none, is malformed. -/
def setDrawer (fs : List Byte) (d : Device) : Carried :=
  match fs with
  | sc :: rest =>
    match inBool sc with
    | some false => setDrawerForm rest d
    | some true => setSupplyForm rest d
    | none => malformed d
  | [] => malformed d

/-- The scope code of a SET-DRAWER request is SUPPLY. -/
def Request.scopeSupply (r : Request) : Bool := r.fields.head?.map BitVec.toNat == some 1

/-- The requests that SET_DRAWER_SUPPLY takes. -/
def Request.isSetSupply (r : Request) : Bool := r.is rcSetDrawer && r.scopeSupply

/-- The requests that SET_DRAWER_DRAWER takes: every other SET-DRAWER, also one whose scope code is not listed or
missing, which is refused REFUSED-MALFORMED (notes/assumptions/8.md). -/
def Request.isSetDrawer (r : Request) : Bool := r.is rcSetDrawer && !r.scopeSupply

/-! ## READ-DRAWER (R167) -/

/-- A drawer's place in the wait list, 1 to 32 (R167). -/
def DrawerUnit.place (u : DrawerUnit) (n : Fin 32) : Option Nat := (u.waitList.idxOf? n).map (· + 1)

/-- The supply part of READ-DRAWER's reply. -/
def supplyReport (u : DrawerUnit) : List Byte :=
  ((List.finRange 8).flatMap fun i => out1 u.units[i].state.code) ++ out1 u.supplyLimit ++ outOpt1 u.pendingLimit ++
  out1 u.supplyGap ++ out1 u.waitList.length ++ outFlag u.inhibit ++ outFlag u.monitor ++ out1 (lineCode u.supplyHigh)

/-- READ-DRAWER's reply fields, in the order in which R167 lists them. -/
def drawerReport (u : DrawerUnit) (n : Fin 32) : List Byte :=
  let w := u.drawers[n]
  outFlag w.present ++ out1 w.position.code ++ outFlag w.settled ++ out1 w.senseInput.senseCode ++
  out1 w.kick.code ++ outOpt1 (w.unitHeld.map Fin.val) ++ outOpt2 w.kickTimer ++ outFlag w.openedInPulse ++
  outOpt1 (u.place n) ++ out4 w.openTime ++ outOpt2 w.limitTimer ++ out2 w.limitsPassed ++ out2 w.openCount ++
  out1 w.pulseWidth ++ out1 w.confirmTime ++ out1 w.openLimit ++ supplyReport u

/-- READ-DRAWER (R167). -/
def readDrawer (n : Fin 32) (d : Device) : Carried := answer d .done (drawerReport d.drawers n)

/-! ## The sense filter (R149, R159, R160) -/

/-- A detail given as one 16-bit value on a drawer's event (R197). -/
def countNotice (k : Kind) (n : Fin 32) (count : Nat) (body : BodyRef := .absent) : Notice :=
  { kind := k, source := some (sideOf n), detail1 := detailLow count, detail2 := detailHigh count, body := body }

/-- An event of drawer `n` is offered on its lane. -/
def Device.offerDrawer (d : Device) (n : Fin 32) (v : Notice) : Device := d.offer (laneQueue (laneOf n)) v

/-- R149: a change of the sense input. An ABSENT drawer's input is read but not filtered (R150). -/
def senseChange (isOpen : Bool) (n : Fin 32) (d : Device) : Device :=
  d.updDrawer n fun w =>
    if w.senseInput = sensed isOpen then w
    else if w.present then { w with senseInput := sensed isOpen, candidate := sensed isOpen, stability := some 10 }
    else { w with senseInput := sensed isOpen }

/-- The first position, taken silently (R149). -/
def Drawer.settle (w : Drawer) : Drawer :=
  let v := { w with position := w.candidate, settled := true }
  if w.candidate = .opened then { v with openTime := 0 }.loadLimit else v

/-- The position becomes OPEN and is counted (R159). -/
def Drawer.becomeOpen (w : Drawer) : Drawer :=
  { w with position := .opened, openCount := sat16 w.openCount 1, openTime := 0, limitsPassed := 0 }.loadLimit

/-- R159: an accepted opening, by the kick state at that moment. -/
def Device.opening (d : Device) (n : Fin 32) : Device :=
  let d1 := d.updDrawer n Drawer.becomeOpen
  let count := d1.drawers.drawers[n].openCount
  match d.drawers.drawers[n].kick with
  | .energized =>
    (d1.updDrawer n fun w => { w with openedInPulse := true }).offerDrawer n (countNotice .drawerOpened n count)
  | .confirming =>
    ((d1.updDrawer n fun w => { w with kick := .idle, kickTimer := none }).offerDrawer n
      (countNotice .drawerOpened n count)).offerDrawer n (drawerNotice .kickDone n 1 0)
  | .idle => d1.offerDrawer n (countNotice .forcedOpen n count)
  | .waiting => (d1.offerDrawer n (countNotice .forcedOpen n count)).abortWaiting n 1

/-- R160: an accepted closing. -/
def Device.closing (d : Device) (n : Fin 32) : Device :=
  let w := d.drawers.drawers[n]
  (d.updDrawer n fun w =>
    { w with position := .closed, limitTimer := none, limitSubMs := 0, limitsPassed := 0 }).offerDrawer n
    (countNotice .drawerClosed n w.openCount (.bytes (out4 w.openTime)))

/-- R149: the stability timer reaches 0. -/
def stabilityExpiry (n : Fin 32) (d : Device) : Device :=
  let w := d.drawers.drawers[n]
  match w.stability with
  | none => d
  | some _ =>
    let d1 := d.updDrawer n fun w => { w with stability := none }
    if ¬ w.settled then d1.updDrawer n Drawer.settle
    else if w.candidate = w.position then d1
    else if w.candidate = .opened then d1.opening n
    else d1.closing n

/-! ## Grants, pulses and confirmations (R155 to R157) -/

/-- The drawer and the unit of the next grant, if the conditions of R155 hold. -/
def DrawerUnit.nextGrant (u : DrawerUnit) : Option (Fin 32 × Fin 8) :=
  if u.inhibit || u.pendingLimit.isSome then none
  else
    match u.waitList.head?, u.freeUnit with
    | some n, some i => some (n, i)
    | _, _ => none

/-- R155, steps 1 to 3. -/
def DrawerUnit.grant (u : DrawerUnit) (n : Fin 32) (i : Fin 8) : DrawerUnit :=
  let pulse := u.drawers[n].pulseWidth
  { u with
    waitList := u.waitList.tail
    units := u.units.set i { state := .energizing, timer := some pulse }
    drawers := upd u.drawers n fun w =>
      { w with kick := .energized, unitHeld := some i, openedInPulse := false, kickTimer := some pulse } }

/-- One grant of R155; a grant test whose conditions do not all hold grants nothing. -/
def kickGrant (d : Device) : Device :=
  match d.drawers.nextGrant with
  | some (n, i) => d.updDrawers fun u => u.grant n i
  | none => d

/-- A unit begins to recover; a supply gap of 0 ms makes it AVAILABLE at once (R156). -/
def DrawerUnit.recover (u : DrawerUnit) (i : Fin 8) : DrawerUnit :=
  if u.supplyGap = 0 then u.freeUp i
  else { u with units := u.units.set i { state := .recovering, timer := some u.supplyGap } }

/-- R156, step 1. -/
def DrawerUnit.releaseUnit (u : DrawerUnit) (n : Fin 32) : DrawerUnit :=
  let v := match u.drawers[n].unitHeld with
    | some i => u.recover i
    | none => u
  { v with drawers := upd v.drawers n fun w => { w with unitHeld := none } }

/-- R156: the kick timer of an ENERGIZED drawer reaches 0. -/
def pulseEnd (n : Fin 32) (d : Device) : Device :=
  let w := d.drawers.drawers[n]
  if w.kick = .energized then
    let d1 := d.updDrawers fun u => u.releaseUnit n
    if w.openedInPulse then
      (d1.updDrawer n fun w => { w with kick := .idle, kickTimer := none }).offerDrawer n (drawerNotice .kickDone n 0 0)
    else d1.updDrawer n fun w => { w with kick := .confirming, kickTimer := some (w.confirmTime * 10) }
  else d

/-- R157: the kick timer of a CONFIRMING drawer reaches 0. -/
def confirmTimeout (n : Fin 32) (d : Device) : Device :=
  if d.drawers.drawers[n].kick = .confirming then
    (d.updDrawer n fun w => { w with kick := .idle, kickTimer := none }).offerDrawer n (drawerNotice .kickFailed n 0 0)
  else d

/-- R156, R158: the timer of a RECOVERING unit reaches 0. -/
def unitRecovered (i : Fin 8) (d : Device) : Device :=
  if d.drawers.units[i].state = .recovering then d.updDrawers fun u => u.freeUp i else d

/-! ## Open too long (R161) -/

/-- R161: the limit timer reaches 0. -/
def openTooLong (n : Fin 32) (d : Device) : Device :=
  let w := d.drawers.drawers[n]
  match w.limitTimer with
  | none => d
  | some _ =>
    let count := sat16 w.limitsPassed 1
    let d1 := (d.updDrawer n fun w => { w with limitsPassed := count }).offerDrawer n
      (countNotice .openTooLong n count)
    (d1.requestTone (laneOf n) 7).updDrawer n Drawer.loadLimit

/-! ## The supply line (R162, R163) -/

/-- R162: the line falls; with the monitor ENABLED that is a supply fault. A line already low does not fall. -/
def supplyFall (d : Device) : Device :=
  if d.drawers.supplyHigh then
    let d1 := d.updDrawers fun u => { u with supplyHigh := false }
    if d.drawers.monitor then d1.supplyFaultTaken else d1
  else d

/-- R163: a rise of the line is read and does not clear the inhibit. -/
def supplyRise (d : Device) : Device := d.updDrawers fun u => { u with supplyHigh := true }

/-! ## The commands -/

def execKick (s : State) : Host.Outcome State Fault Refusal := s.takeCode rcKick (onDrawer kickReq)

def execClearInhibit (s : State) : Host.Outcome State Fault Refusal := s.takeCode rcClearInhibit clearInhibit

def execSetDrawerDrawer (s : State) : Host.Outcome State Fault Refusal :=
  s.run (Device.take Request.isSetDrawer setDrawer)

def execSetDrawerSupply (s : State) : Host.Outcome State Fault Refusal :=
  s.run (Device.take Request.isSetSupply setDrawer)

def execReadDrawer (s : State) : Host.Outcome State Fault Refusal := s.takeCode rcReadDrawer (onDrawer readDrawer)

def execClearCounter (s : State) : Host.Outcome State Fault Refusal :=
  s.takeCode rcClearCounter (onDrawer clearCounter)

def execSenseChange (drawer : Nat) (isOpen : Bool) (s : State) : Host.Outcome State Fault Refusal :=
  s.runAt 32 drawer .noSuchDrawer (senseChange isOpen)

def execStabilityTimerExpiry (drawer : Nat) (s : State) : Host.Outcome State Fault Refusal :=
  s.runAt 32 drawer .noSuchDrawer stabilityExpiry

def execKickGrant (s : State) : Host.Outcome State Fault Refusal := s.run kickGrant

def execPulseEnd (drawer : Nat) (s : State) : Host.Outcome State Fault Refusal :=
  s.runAt 32 drawer .noSuchDrawer pulseEnd

def execConfirmTimeout (drawer : Nat) (s : State) : Host.Outcome State Fault Refusal :=
  s.runAt 32 drawer .noSuchDrawer confirmTimeout

def execUnitRecovered (unit : Nat) (s : State) : Host.Outcome State Fault Refusal :=
  s.runAt 8 unit .noSuchUnit unitRecovered

def execOpenTooLong (drawer : Nat) (s : State) : Host.Outcome State Fault Refusal :=
  s.runAt 32 drawer .noSuchDrawer openTooLong

def execSupplyFault (s : State) : Host.Outcome State Fault Refusal := s.run supplyFall

def execSupplyLineRise (s : State) : Host.Outcome State Fault Refusal := s.run supplyRise

end Sys2Proof.Machine
end

