-- ==== Sys2Proof/Machine/Tones.lean ====
section
/-! DEFINITION. The tone and lamp unit's commands (9 of the book): WRITE-TONE, PLAY-TONE and STOP-TONE (R176 to R178),
the end of a tone phase (R172), SET-LAMP and the period boundaries (R180). -/

namespace Sys2Proof.Machine

/-! ## Tones -/

/-- A tone entry's frequency in Hz, rounded down (R170, R176). -/
def Tone.frequency (t : Tone) : Nat := 1000000 / (2 * t.divider)

/-- A tone brought to the ranges of R169. -/
def Tone.clamped (t : Tone) : Tone :=
  { divider := clampTo 125 5000 t.divider, onTime := clampTo 1 255 t.onTime, offTime := clampTo 0 255 t.offTime,
    repeats := clampTo 0 15 t.repeats, level := clampTo 0 3 t.level }

/-- WRITE-TONE (R176). -/
def writeTone (fs : List Byte) (d : Device) : Carried :=
  match fs with
  | [e, lo, hi, on, off, rep, lev] =>
    match inIndex 8 e with
    | some e =>
      let t : Tone :=
        { divider := in2 lo hi, onTime := on.toNat, offTime := off.toNat, repeats := rep.toNat, level := lev.toNat }
      answer (d.updTlu fun u => { u with tones := u.tones.set e t.clamped }) (doneOr (t.clamped ≠ t))
        (out2 t.clamped.frequency)
    | none => malformed d
  | _ => malformed d

/-- Entry and level of the tone playing (R177). -/
def playingReport (g : Generator) : List Byte :=
  outOpt1 (g.playing.map fun c => c.entry.val) ++ outOpt1 (g.playing.map fun c => c.tone.level)

/-- PLAY-TONE (R177). -/
def playTone (fs : List Byte) (d : Device) : Carried :=
  match fs with
  | [b, e] =>
    match inIndex 16 b, inIndex 8 e with
    | some l, some e =>
      let d1 := d.requestTone l e
      answer d1 (if d.tlu.grants l e then .done else .doneIgnored) (playingReport d1.tlu.generators[l])
    | _, _ => malformed d
  | _ => malformed d

/-- STOP-TONE (R174, R178). -/
def stopTone (l : Fin 16) (d : Device) : Carried :=
  answer (d.updGen l Generator.stop) .done
    (outOpt1 (d.tlu.generators[l].playing.map fun c => c.entry.val))

/-- A phase begins, with its timer loaded. -/
def Generator.begin (g : Generator) (p : TonePhase) (ms : Nat) : Generator :=
  { g with phase := p, phaseTimer := some ms, phaseUs := 0 }

/-- R172: the phase timer of a PLAYING generator reaches 0. -/
def Generator.phaseEnd (g : Generator) : Generator :=
  match g.playing with
  | none => g
  | some c =>
    match g.phase with
    | .silent => g.begin .sounding (c.tone.onTime * 10)
    | .sounding =>
      let v := { g with cycles := min 15 (g.cycles + 1) }
      if c.tone.repeats ≠ 0 ∧ v.cycles = c.tone.repeats then v.stop
      else if 0 < c.tone.offTime then v.begin .silent (c.tone.offTime * 10)
      else v.begin .sounding (c.tone.onTime * 10)

/-- R172. -/
def phaseEnd (l : Fin 16) (d : Device) : Device := d.updGen l Generator.phaseEnd

/-! ## Lamps -/

/-- A lamp request applied at once: any staged request becomes absent (R180). -/
def Lamp.apply (m : Option LampMode) (_ : Lamp) : Lamp := { overrideMode := m, staged := none }

/-- R180: with sync OFF at once, with sync ON staged for the next boundary of the mode in effect. -/
def Device.setLamp (d : Device) (l : Fin 16) (m : Option LampMode) (isSync : Bool) : Device :=
  if isSync && (d.lampMode l).flashing then d.updLamp l fun p => { p with staged := some m }
  else d.updLamp l (Lamp.apply m)

/-- The override, the mode in effect and whether a request is staged (R180). -/
def lampReport (d : Device) (l : Fin 16) : List Byte :=
  out1 (lampCode d.tlu.lamps[l].overrideMode) ++ out1 (lampCode (some (d.lampMode l))) ++
  outFlag d.tlu.lamps[l].staged.isSome

/-- SET-LAMP (R180). -/
def setLamp (fs : List Byte) (d : Device) : Carried :=
  match fs with
  | [b, m, y] =>
    match inIndex 16 b, lampOfCode m.toNat, inBool y with
    | some l, some mode, some isSync =>
      let d1 := d.setLamp l mode isSync
      answer d1 .done (lampReport d1 l)
    | _, _, _ => malformed d
  | _ => malformed d

/-- R180: a period boundary of the mode in effect applies the staged request. OFF and ON have no boundaries. -/
def lampBoundary (l : Fin 16) (d : Device) : Device :=
  if (d.lampMode l).flashing then d.updLamp l Lamp.applyStaged else d

/-! ## The commands -/

def execWriteTone (s : State) : Host.Outcome State Fault Refusal := s.takeCode rcWriteTone writeTone

def execPlayTone (s : State) : Host.Outcome State Fault Refusal := s.takeCode rcPlayTone playTone

def execStopTone (s : State) : Host.Outcome State Fault Refusal := s.takeCode rcStopTone (onLane stopTone)

def execSetLamp (s : State) : Host.Outcome State Fault Refusal := s.takeCode rcSetLamp setLamp

def execTonePhaseEnd (lane : Nat) (s : State) : Host.Outcome State Fault Refusal :=
  s.runAt 16 lane .noSuchLane phaseEnd

def execLampBoundary (lane : Nat) (s : State) : Host.Outcome State Fault Refusal :=
  s.runAt 16 lane .noSuchLane lampBoundary

end Sys2Proof.Machine
end

