-- ==== Sys2Proof/Machine/Trunk.lean ====
section
/-! DEFINITION. The trunk port's commands (10 of the book): STATUS, SET-TIME and DEVICE-RESET (R192 to R194), requests
with an unknown code or none (R188), the receiver (R184 to R187), the transmitter (R190) and the resets (R195). -/

namespace Sys2Proof.Machine

/-! ## Requests (R188, R192 to R194) -/

/-- The six counters of R186, in its order. -/
def countersReport (t : Trunk) : List Byte :=
  out2 t.checkErrors ++ out2 t.malformed ++ out2 t.wrongDirection ++ out2 t.busyRefusals ++ out2 t.dropped ++
  out2 t.ignoredCredits

/-- STATUS's reply fields, in the order in which R193 lists them. -/
def statusReport (d : Device) : List Byte :=
  out1 d.trunk.cause.code ++ out4 d.trunk.clock.toNat ++ out1 d.trunk.bitRate.code ++ countersReport d.trunk ++
  out1 d.trunk.requests.length ++ out1 d.trunk.replies.length ++ out2 d.pool.freeCount ++ outFlag d.drawers.inhibit ++
  out1 (lineCode d.drawers.supplyHigh)

def Trunk.zeroCounters (t : Trunk) : Trunk :=
  { t with checkErrors := 0, malformed := 0, wrongDirection := 0, busyRefusals := 0, dropped := 0,
           ignoredCredits := 0 }

/-- STATUS (R193). -/
def status (fs : List Byte) (d : Device) : Carried :=
  match fs with
  | [clr] =>
    match inBool clr with
    | some clr => answer (if clr then d.updTrunk Trunk.zeroCounters else d) .done (statusReport d)
    | none => malformed d
  | _ => malformed d

/-- SET-TIME (R192). -/
def setTime (fs : List Byte) (d : Device) : Carried :=
  match fs with
  | [a, b, c, e] =>
    answer (d.updTrunk fun t => { t with clock := BitVec.ofNat 32 (in4 a b c e) }) .done (out4 d.trunk.clock.toNat)
  | _ => malformed d

/-- DEVICE-RESET (R194): answered DONE, and taking is closed. -/
def deviceReset (fs : List Byte) (d : Device) : Carried :=
  match fs with
  | [] => answer (d.updTrunk fun t => { t with takingClosed := true }) .done
  | _ => malformed d

/-- The request code is present and not one the TF3240 knows (R188, step 2). -/
def Request.isUnknown (r : Request) : Bool :=
  match r.code? with
  | some n => !knownCodes.contains n
  | none => false

/-- The request has payload length 0 (R188, step 1). -/
def Request.isEmpty (r : Request) : Bool := r.payload.isEmpty

/-! ## The receiver (R184, R186, R187) -/

/-- The receiver enters WAIT-IDLE; `fresh` after a complete frame (R184). -/
def Trunk.waitIdle (t : Trunk) (fresh : Bool) : Trunk :=
  { t with receiver := .waitIdle, waitFresh := fresh, frame := [] }

/-- A character with a good stop bit is taken into the frame under reception (R184). -/
def Trunk.store (t : Trunk) (c : Byte) : Trunk := { t with receiver := .receiving, frame := t.frame ++ [c] }

/-- The frame that the character `c` completes, if it completes one in RECEIVING (R184). -/
def Trunk.completes (t : Trunk) (c : Byte) : Option (List Byte) :=
  if t.receiver = .receiving ∧ frameComplete (t.frame ++ [c]) then some (t.frame ++ [c]) else none

/-- R184: a frame is abandoned. -/
def Trunk.abandon (t : Trunk) : Trunk := { t.waitIdle false with malformed := sat16 t.malformed 1 }

/-- The abandonment can happen as the receiver stands (R184): a bad stop bit in IDLE or RECEIVING, a third byte
above 64, or an idle gap in RECEIVING. -/
def Trunk.mayAbandon (t : Trunk) : AbandonCause → Bool
  | .badStopBit => t.receiver != .waitIdle
  | .lengthAbove64 b => t.receiver == .receiving && lengthTooLong (t.frame ++ [b])
  | .idleGap => t.receiver == .receiving

/-- R187: a request that passes its checks arrives at the request FIFO. -/
def Trunk.arrive (t : Trunk) (r : Request) : Trunk :=
  if t.requests.length < Config.fifoDepth then { t with requests := t.requests ++ [r] }
  else if t.replyRoom then
    { t with
      replies := t.replies ++ [{ tag := r.tag, request := r.replyCode, code := .refusedBusy, fields := [] }]
      busyRefusals := sat16 t.busyRefusals 1 }
  else { t with dropped := sat16 t.dropped 1 }

/-- R186: the counter that a discarded frame raises. -/
def Trunk.discard (t : Trunk) : Rejection → Trunk
  | .checkError => { t with checkErrors := sat16 t.checkErrors 1 }
  | .unknownKind | .creditLength => { t with malformed := sat16 t.malformed 1 }
  | .wrongDirection => { t with wrongDirection := sat16 t.wrongDirection 1 }

/-- A REQUEST frame that passes R186 is complete. -/
def requestFrame (last : Byte) (d : Device) : Device :=
  match (d.trunk.completes last).map judge with
  | some (.request r) => d.updTrunk fun t => (t.waitIdle true).arrive r
  | _ => d

/-- A CREDIT frame that passes R186 is complete; the delivery unit acts on it (R139, R186). -/
def creditFrame (last : Byte) (d : Device) : Device :=
  match (d.trunk.completes last).map judge with
  | some (.credit c n) => (d.updTrunk fun t => t.waitIdle true).creditTo c n
  | _ => d

/-- A complete frame fails a test of R186. -/
def frameRejected (last : Byte) (d : Device) : Device :=
  match (d.trunk.completes last).map judge with
  | some (.rejected why) => d.updTrunk fun t => (t.waitIdle true).discard why
  | _ => d

/-- R184, the rows "frame abandoned". -/
def frameAbandoned (cause : AbandonCause) (d : Device) : Device :=
  if d.trunk.mayAbandon cause then d.updTrunk Trunk.abandon else d

/-- A character in WAIT-IDLE is discarded; the first since a complete frame or a device reset is counted (R184). -/
def Trunk.waitCharacter (t : Trunk) : Trunk :=
  if t.receiver = .waitIdle ∧ t.waitFresh then { t with waitFresh := false, malformed := sat16 t.malformed 1 } else t

/-- The line has been idle for 2 character times in WAIT-IDLE (R184). -/
def Trunk.idleSeen (t : Trunk) : Trunk :=
  if t.receiver = .waitIdle then { t with receiver := .idle, waitFresh := false } else t

/-- A character that begins a frame in IDLE, or is stored in RECEIVING without completing the frame (R184). -/
def Trunk.mayStore (t : Trunk) (c : Byte) : Bool :=
  match t.receiver with
  | .waitIdle => false
  | .idle => true
  | .receiving => !frameComplete (t.frame ++ [c]) && !lengthTooLong (t.frame ++ [c])

def Trunk.storeCharacter (t : Trunk) (c : Byte) : Trunk := if t.mayStore c then t.store c else t

/-! ## The transmitter (R190) -/

/-- R190, at FREE: the oldest reply, else the next event frame (R144), else it stays FREE. -/
def transmitChoice (d : Device) : Device :=
  match d.trunk.transmitter with
  | .sending _ | .gap => d
  | .free =>
    match d.trunk.replies with
    | r :: rest => d.updTrunk fun t => { t with replies := rest, transmitter := .sending (.reply r) }
    | [] =>
      match d.delivery.chooseFrame with
      | none => d
      | some (c, r, urgent) =>
        match d.eventFrame c r urgent with
        | none => d
        | some f => (d.takeFrame c r urgent).updTrunk fun t => { t with transmitter := .sending f }

/-- R190, R194: the last check byte has left the line. The DONE reply of DEVICE-RESET resets the part. -/
def transmitFrameEnd (i : Inputs) (d : Device) : Device :=
  match d.trunk.transmitter with
  | .sending f => if f.isResetDone then startUp .trunk i else d.updTrunk fun t => { t with transmitter := .gap }
  | .free | .gap => d

/-- R190: the gap of 2 character times is over. -/
def Trunk.gapEnd (t : Trunk) : Trunk := if t.transmitter = .gap then { t with transmitter := .free } else t

/-! ## Resets (R195) -/

/-- The supply comes up. A reset input that holds the part past it keeps it in reset, with cause PIN (R195). -/
def powerOn (i : Inputs) (d : Device) : Device := if d.inReset then heldInReset i else startUp .powerOn i

/-- The reset input rises and start-up begins (R195). A rise of an input that was not low cannot occur. -/
def resetPinRise (i : Inputs) (d : Device) : Device := if d.inReset then startUp .pin i else d

/-! ## The commands -/

def execStatus (s : State) : Host.Outcome State Fault Refusal := s.takeCode rcStatus status

def execSetTime (s : State) : Host.Outcome State Fault Refusal := s.takeCode rcSetTime setTime

def execDeviceReset (s : State) : Host.Outcome State Fault Refusal := s.takeCode rcDeviceReset deviceReset

/-- R188, step 2. -/
def execUnknownRequest (s : State) : Host.Outcome State Fault Refusal :=
  s.run (Device.take Request.isUnknown fun _ d => refuse d .refusedUnknown)

/-- R188, step 1. -/
def execEmptyRequest (s : State) : Host.Outcome State Fault Refusal :=
  s.run (Device.take Request.isEmpty fun _ d => malformed d)

def execRequestFrame (last : Byte) (s : State) : Host.Outcome State Fault Refusal := s.run (requestFrame last)

def execCreditFrame (last : Byte) (s : State) : Host.Outcome State Fault Refusal := s.run (creditFrame last)

def execFrameRejected (last : Byte) (s : State) : Host.Outcome State Fault Refusal := s.run (frameRejected last)

def execFrameAbandoned (cause : AbandonCause) (s : State) : Host.Outcome State Fault Refusal :=
  s.run (frameAbandoned cause)

def execWaitIdleCharacter (s : State) : Host.Outcome State Fault Refusal :=
  s.run fun d => d.updTrunk Trunk.waitCharacter

def execReceiverIdle (s : State) : Host.Outcome State Fault Refusal := s.run fun d => d.updTrunk Trunk.idleSeen

def execTransmitChoice (s : State) : Host.Outcome State Fault Refusal := s.run transmitChoice

def execTransmitFrameEnd (inputs : Inputs) (s : State) : Host.Outcome State Fault Refusal :=
  s.run (transmitFrameEnd inputs)

def execTransmitGapEnd (s : State) : Host.Outcome State Fault Refusal := s.run fun d => d.updTrunk Trunk.gapEnd

def execTrunkCharacterStored (char : Byte) (s : State) : Host.Outcome State Fault Refusal :=
  s.run fun d => d.updTrunk fun t => t.storeCharacter char

/-- POWER_ON is taken whatever the part held before. -/
def execPowerOn (inputs : Inputs) (s : State) : Host.Outcome State Fault Refusal :=
  .next { s with dev := powerOn inputs s.dev }

/-- A reset input that goes low, or stays low (R195). -/
def execResetPinLow (s : State) : Host.Outcome State Fault Refusal :=
  s.run fun d => heldInReset d.lastInputs

/-- RESET_PIN_RISE is taken in reset alone. -/
def execResetPinRise (inputs : Inputs) (s : State) : Host.Outcome State Fault Refusal :=
  .next { s with dev := resetPinRise inputs s.dev }

end Sys2Proof.Machine
end

