-- ==== Sys2Proof/Machine/Outputs.lean ====
section
/-! DEFINITION. The part's output lines, read off the state: the matrix columns (R24), READY (R82), the kick outputs
(R147), the buzzers (R170), the lamps (R179), and the frame on the trunk transmit line (R190). While the reset input
is low, `heldInReset` gives each of them the level that R195 names. -/

namespace Sys2Proof.Machine

/-- The column that the pass in progress drives now (R24). -/
def Scanner.column (m : Scanner) : Nat :=
  min (m.passColumns - 1) ((m.passColumns * m.passDwell - m.passLeft) / m.passDwell)

/-- A column line is driven: all sixteen while the driver is IDLE, one at a time in a pass (R24). -/
def Device.columnDriven (d : Device) (c : Fin 16) : Bool := d.scanner.idle || c.val == d.scanner.column

/-- A port's READY line is asserted (R82). -/
def Device.readyLine (d : Device) (n : Fin 32) : Bool := d.ports[n].ready

/-- A drawer's kick output is driven exactly while its kick is ENERGIZED (R147). -/
def Device.kickOutput (d : Device) (n : Fin 32) : Bool := d.drawers.drawers[n].kick == .energized

/-- The square wave is high at the start of a sounding phase and changes level every divider µs; the output is low
in a silent phase and in IDLE (R170). -/
def Generator.high (g : Generator) : Bool :=
  match g.playing with
  | none => false
  | some c => g.phase == .sounding && g.phaseUs / c.tone.divider % 2 == 0

/-- A lane's buzzer output. -/
def Device.buzzer (d : Device) (l : Fin 16) : Bool := d.tlu.generators[l].high

/-- A lamp in a mode is lit at flash phase `p` (R179). -/
def LampMode.lit (m : LampMode) (p : Nat) : Bool :=
  match m with
  | .off => false
  | .on => true
  | .flashSlow => p < 500
  | .flashFast => p % 250 < 125

/-- The flash phase is a period boundary of the mode (R179). -/
def LampMode.boundary (m : LampMode) (p : Nat) : Bool :=
  match m with
  | .off | .on => false
  | .flashSlow => p == 0
  | .flashFast => p % 250 == 0

/-- A lane's lamp output. -/
def Device.lamp (d : Device) (l : Fin 16) : Bool := (d.lampMode l).lit d.tlu.flash

/-- The bytes that the frame being sent puts on the trunk transmit line; nothing while the line is idle (R190). -/
def Device.trunkLine (d : Device) : List Byte :=
  match d.trunk.transmitter with
  | .sending f => f.bytes
  | .free | .gap => []

end Sys2Proof.Machine
end

