-- ==== Sys2Proof/Machine/Tick.lean ====
section
/-! DEFINITION. One microsecond of the part's time base (R191), which is what a step does on an empty queue
(notes/assumptions/5.md). Every running timer counts; what happens when a timer reaches 0 is a command of its own, and
a timer that has reached 0 stays there until that command is taken. -/

namespace Sys2Proof.Machine

/-! ## Microseconds: due timers, the pass in progress, the square wave (R24, R25, R170) -/

def LaneScan.us (m : LaneScan) : LaneScan := { m with dueTimer := countDown m.dueTimer 1 }

def Scanner.us (m : Scanner) : Scanner := { m with passLeft := m.passLeft - 1, lanes := mapTab m.lanes LaneScan.us }

def Generator.us (g : Generator) : Generator :=
  { g with phaseUs := if g.playing.isSome then g.phaseUs + 1 else g.phaseUs }

/-! ## Milliseconds -/

/-- Tender timer, watch timer and wake hold-off (R12, R16, R19). -/
def LaneRec.ms (r : LaneRec) : LaneRec :=
  { r with tenderTimer := r.tenderTimer - 1, watchTimer := countDown r.watchTimer 1, wakeHoldOff := r.wakeHoldOff - 1 }

/-- The switch timer (R56). -/
def LaneMap.ms (m : LaneMap) : LaneMap := { m with switchTimer := countDown m.switchTimer 1 }

/-- The idle timer (R78). -/
def Port.ms (p : Port) : Port := { p with idleTimer := countDown p.idleTimer 1 }

/-- The wait timer (R115). -/
def PendLane.ms (n : PendLane) : PendLane := { n with waitTimer := countDown n.waitTimer 1 }

/-- The stall timer (R140). -/
def Consumer.ms (k : Consumer) : Consumer := { k with stallTimer := countDown k.stallTimer 1 }

/-- The limit timer counts seconds (R161, notes/assumptions/9.md). -/
def Drawer.limitMs (w : Drawer) : Drawer :=
  match w.limitTimer with
  | none => w
  | some t =>
    if w.limitSubMs + 1 < 1000 then { w with limitSubMs := w.limitSubMs + 1 }
    else { w with limitSubMs := 0, limitTimer := some (t - 1) }

/-- Stability and kick timers down, the open time up while the position is OPEN (R147, R149, R161). -/
def Drawer.ms (w : Drawer) : Drawer :=
  Drawer.limitMs
    { w with
      stability := countDown w.stability 1
      kickTimer := countDown w.kickTimer 1
      openTime := if w.position = .opened then satOpenTime w.openTime else w.openTime }

/-- A unit's pulse or supply gap (R148). -/
def SupplyUnit.ms (u : SupplyUnit) : SupplyUnit := { u with timer := countDown u.timer 1 }

/-- The phase timer (R172). -/
def Generator.ms (g : Generator) : Generator := { g with phaseTimer := countDown g.phaseTimer 1 }

/-- The flash phase rises and wraps from 999 to 0 (R179). -/
def ToneUnit.ms (u : ToneUnit) : ToneUnit :=
  { u with generators := mapTab u.generators Generator.ms, flash := (u.flash + 1) % 1000 }

/-- One millisecond of every block; the device clock rises and wraps (R191). -/
def Device.ms (d : Device) : Device :=
  { d with
    lanes := mapTab d.lanes LaneRec.ms
    keymaps := { d.keymaps with lanes := mapTab d.keymaps.lanes LaneMap.ms }
    ports := mapTab d.ports Port.ms
    pool := { d.pool with lanes := mapTab d.pool.lanes PendLane.ms }
    delivery := { d.delivery with consumers := mapTab d.delivery.consumers Consumer.ms }
    drawers := { d.drawers with drawers := mapTab d.drawers.drawers Drawer.ms
                                units := mapTab d.drawers.units SupplyUnit.ms }
    tlu := d.tlu.ms
    trunk := { d.trunk with clock := d.trunk.clock + 1 } }

/-! ## The tick -/

/-- One microsecond, and every thousandth of them a millisecond. -/
def Device.tick (d : Device) : Device :=
  let d1 := { d with scanner := d.scanner.us, tlu := { d.tlu with generators := mapTab d.tlu.generators Generator.us } }
  if d.usPhase + 1 < 1000 then { d1 with usPhase := d.usPhase + 1 } else { d1.ms with usPhase := 0 }

/-- What the part does when no command waits: time passes, but not in reset (R195). -/
def idle (s : State) : Host.Outcome State Fault Refusal := s.run Device.tick

end Sys2Proof.Machine
end

