-- ==== Sys2Proof/Machine/Dispatch.lean ====
section
/-! DEFINITION. One arm per command: each is a direct call of its meaning. -/

namespace Sys2Proof.Machine

def exec (i : Instr) (s : State) : Host.Outcome State Fault Refusal :=
  match i with
  | .openLane => Sys2Proof.Machine.execOpenLane s
  | .closeLane => Sys2Proof.Machine.execCloseLane s
  | .suspendLane => Sys2Proof.Machine.execSuspendLane s
  | .resumeLane => Sys2Proof.Machine.execResumeLane s
  | .resetLane => Sys2Proof.Machine.execResetLane s
  | .setLane => Sys2Proof.Machine.execSetLane s
  | .readLane => Sys2Proof.Machine.execReadLane s
  | .setScan => Sys2Proof.Machine.execSetScan s
  | .readKeys => Sys2Proof.Machine.execReadKeys s
  | .writeKeymap => Sys2Proof.Machine.execWriteKeymap s
  | .readKeymap => Sys2Proof.Machine.execReadKeymap s
  | .verifyKeymap => Sys2Proof.Machine.execVerifyKeymap s
  | .verifyWalkEnd => Sys2Proof.Machine.execVerifyWalkEnd s
  | .eraseKeymap => Sys2Proof.Machine.execEraseKeymap s
  | .assignKeymap => Sys2Proof.Machine.execAssignKeymap s
  | .setPort => Sys2Proof.Machine.execSetPort s
  | .readPort => Sys2Proof.Machine.execReadPort s
  | .writeRule => Sys2Proof.Machine.execWriteRule s
  | .readRule => Sys2Proof.Machine.execReadRule s
  | .commitRules => Sys2Proof.Machine.execCommitRules s
  | .setAdmission => Sys2Proof.Machine.execSetAdmission s
  | .readPool => Sys2Proof.Machine.execReadPool s
  | .tableRead => Sys2Proof.Machine.execTableRead s
  | .tableWrite => Sys2Proof.Machine.execTableWrite s
  | .tableDelete => Sys2Proof.Machine.execTableDelete s
  | .tableSearch => Sys2Proof.Machine.execTableSearch s
  | .tableClear => Sys2Proof.Machine.execTableClear s
  | .tableWalkStep => Sys2Proof.Machine.execTableWalkStep s
  | .tableWalkEnd => Sys2Proof.Machine.execTableWalkEnd s
  | .setUnmatched => Sys2Proof.Machine.execSetUnmatched s
  | .setConsumer => Sys2Proof.Machine.execSetConsumer s
  | .flushConsumer => Sys2Proof.Machine.execFlushConsumer s
  | .setStall => Sys2Proof.Machine.execSetStall s
  | .readConsumer => Sys2Proof.Machine.execReadConsumer s
  | .kick => Sys2Proof.Machine.execKick s
  | .clearInhibit => Sys2Proof.Machine.execClearInhibit s
  | .setDrawerDrawer => Sys2Proof.Machine.execSetDrawerDrawer s
  | .setDrawerSupply => Sys2Proof.Machine.execSetDrawerSupply s
  | .readDrawer => Sys2Proof.Machine.execReadDrawer s
  | .clearCounter => Sys2Proof.Machine.execClearCounter s
  | .writeTone => Sys2Proof.Machine.execWriteTone s
  | .playTone => Sys2Proof.Machine.execPlayTone s
  | .stopTone => Sys2Proof.Machine.execStopTone s
  | .setLamp => Sys2Proof.Machine.execSetLamp s
  | .status => Sys2Proof.Machine.execStatus s
  | .setTime => Sys2Proof.Machine.execSetTime s
  | .deviceReset => Sys2Proof.Machine.execDeviceReset s
  | .unknownRequest => Sys2Proof.Machine.execUnknownRequest s
  | .emptyRequest => Sys2Proof.Machine.execEmptyRequest s
  | .requestFrame last => Sys2Proof.Machine.execRequestFrame last s
  | .creditFrame last => Sys2Proof.Machine.execCreditFrame last s
  | .frameRejected last => Sys2Proof.Machine.execFrameRejected last s
  | .frameAbandoned cause => Sys2Proof.Machine.execFrameAbandoned cause s
  | .waitIdleCharacter => Sys2Proof.Machine.execWaitIdleCharacter s
  | .receiverIdle => Sys2Proof.Machine.execReceiverIdle s
  | .transmitChoice => Sys2Proof.Machine.execTransmitChoice s
  | .transmitFrameEnd inputs => Sys2Proof.Machine.execTransmitFrameEnd inputs s
  | .transmitGapEnd => Sys2Proof.Machine.execTransmitGapEnd s
  | .powerOn inputs => Sys2Proof.Machine.execPowerOn inputs s
  | .resetPinLow => Sys2Proof.Machine.execResetPinLow s
  | .resetPinRise inputs => Sys2Proof.Machine.execResetPinRise inputs s
  | .duePoint lane => Sys2Proof.Machine.execDuePoint lane s
  | .passStart => Sys2Proof.Machine.execPassStart s
  | .passEnd sample lineA lineB wake => Sys2Proof.Machine.execPassEnd sample lineA lineB wake s
  | .forcedKeymapSwitch lane => Sys2Proof.Machine.execForcedKeymapSwitch lane s
  | .watchPoint lane lineA lineB rows => Sys2Proof.Machine.execWatchPoint lane lineA lineB rows s
  | .wakeHoldOffExpiry lane => Sys2Proof.Machine.execWakeHoldOffExpiry lane s
  | .tenderTimerExpiry lane => Sys2Proof.Machine.execTenderTimerExpiry lane s
  | .scannerCharacter port char good => Sys2Proof.Machine.execScannerCharacter port char good s
  | .idleGapExpiry port => Sys2Proof.Machine.execIdleGapExpiry port s
  | .admissionAttempt => Sys2Proof.Machine.execAdmissionAttempt s
  | .admissionLimitExpiry lane => Sys2Proof.Machine.execAdmissionLimitExpiry lane s
  | .stallTimerExpiry consumer => Sys2Proof.Machine.execStallTimerExpiry consumer s
  | .senseChange drawer isOpen => Sys2Proof.Machine.execSenseChange drawer isOpen s
  | .stabilityTimerExpiry drawer => Sys2Proof.Machine.execStabilityTimerExpiry drawer s
  | .kickGrant => Sys2Proof.Machine.execKickGrant s
  | .pulseEnd drawer => Sys2Proof.Machine.execPulseEnd drawer s
  | .confirmTimeout drawer => Sys2Proof.Machine.execConfirmTimeout drawer s
  | .unitRecovered unit => Sys2Proof.Machine.execUnitRecovered unit s
  | .openTooLong drawer => Sys2Proof.Machine.execOpenTooLong drawer s
  | .supplyFault => Sys2Proof.Machine.execSupplyFault s
  | .supplyLineRise => Sys2Proof.Machine.execSupplyLineRise s
  | .tonePhaseEnd lane => Sys2Proof.Machine.execTonePhaseEnd lane s
  | .lampBoundary lane => Sys2Proof.Machine.execLampBoundary lane s
  | .scannerStartBit port => Sys2Proof.Machine.execScannerStartBit port s
  | .trunkCharacterStored char => Sys2Proof.Machine.execTrunkCharacterStored char s

end Sys2Proof.Machine
end

