-- ==== Sys2Proof/Safety.lean ====
section
/-! DEFINITION. What a sound state of the part is: the bounds and the standing relations between its items that the
rules state, block by block. Each is a proposition about the part alone. That every step keeps them is stated in
Certificates/Slice0/Obligations.lean. -/

namespace Sys2Proof.Safety

open Sys2Proof.Machine

/-- The queues hold no more than the book gives them: 8 entries (R107), 4 requests (R182, R187), 4 replies with a
reserved place counted (R187). -/
def QueuesBounded (d : Device) : Prop :=
  (∀ q : Fin 17, d.pool.lanes[q].queue.length ≤ 8) ∧
  d.trunk.requests.length ≤ 4 ∧
  d.trunk.replies.length + (if d.trunk.inProgress.isSome then 1 else 0) ≤ 4

/-- A frame under reception is held in RECEIVING alone, and is short of 5 + its length byte, which is at most 64
(R182, R184). -/
def ReceiverSound (d : Device) : Prop :=
  (d.trunk.receiver ≠ .receiving → d.trunk.frame = []) ∧
  (∀ n, frameLength d.trunk.frame = some n → n ≤ 64 ∧ d.trunk.frame.length < n + 5)

/-- The supply (R148, R154, R155, R158): K is 1 to 8 and a pending limit is below it; a unit in use is numbered below K; an ENERGIZED drawer, and no
other, holds a unit, which is ENERGIZING, and no two drawers hold one unit; no drawer is ENERGIZED while the inhibit
is set; the wait list holds exactly the WAITING drawers, each once. -/
def SupplySound (d : Device) : Prop :=
  (1 ≤ d.drawers.supplyLimit ∧ d.drawers.supplyLimit ≤ 8) ∧
  (∀ k, d.drawers.pendingLimit = some k → 1 ≤ k ∧ k < d.drawers.supplyLimit) ∧
  (∀ i : Fin 8, d.drawers.units[i].state ≠ .available → i.val < d.drawers.supplyLimit) ∧
  (∀ n : Fin 32, d.drawers.drawers[n].unitHeld.isSome ↔ d.drawers.drawers[n].kick = .energized) ∧
  (∀ (n : Fin 32) (i : Fin 8), d.drawers.drawers[n].unitHeld = some i → d.drawers.units[i].state = .energizing) ∧
  (∀ (n m : Fin 32), d.drawers.drawers[n].unitHeld.isSome →
    d.drawers.drawers[n].unitHeld = d.drawers.drawers[m].unitHeld → n = m) ∧
  (d.drawers.inhibit = true → ∀ n : Fin 32, d.drawers.drawers[n].kick ≠ .energized) ∧
  d.drawers.waitList.Nodup ∧
  (∀ n : Fin 32, n ∈ d.drawers.waitList ↔ d.drawers.drawers[n].kick = .waiting)

/-- How many references to a slot stand in a consumer's queues. -/
def refsTo (k : Consumer) (r : Fin 512) : Nat := k.urgentQ.count r + k.routineQ.count r

/-- How many references to a slot stand in all consumers' queues (R110). -/
def allRefsTo (d : Device) (r : Fin 512) : Nat :=
  ((List.finRange 8).map fun c => refsTo d.delivery.consumers[c] r).sum

/-- R110: every slot is free and on the free list once, with no reference, or holds a record whose reference count is
the number of references to it, at least 1; a consumer has at most one reference to a slot; the low-water mark is not
above the free count. -/
def SlotsSound (d : Device) : Prop :=
  d.pool.freeList.Nodup ∧
  (∀ r : Fin 512, r ∈ d.pool.freeList ↔ d.pool.slots[r] = none) ∧
  (∀ r : Fin 512, ((d.pool.slots[r].map Slot.refs).getD 0) = allRefsTo d r) ∧
  (∀ r : Fin 512, d.pool.slots[r].isSome → 0 < allRefsTo d r) ∧
  (∀ (c : Fin 8) (r : Fin 512), refsTo d.delivery.consumers[c] r ≤ 1) ∧
  d.pool.lowWater ≤ d.pool.freeCount

/-- R122, R128, R140: a consumer holds no more references than its depth limit, none unless it is ACTIVE, and its
stall timer runs exactly while it is ACTIVE with credit 0 and a reference queued; credit is at most 255. -/
def ConsumersSound (d : Device) : Prop :=
  ∀ c : Fin 8,
    d.delivery.consumers[c].queued ≤ d.delivery.consumers[c].depth ∧
    (d.delivery.consumers[c].state ≠ .active → d.delivery.consumers[c].queued = 0) ∧
    (d.delivery.consumers[c].stallTimer.isSome ↔ d.delivery.consumers[c].state = .active ∧
      d.delivery.consumers[c].credit = 0 ∧ 0 < d.delivery.consumers[c].queued) ∧
    d.delivery.consumers[c].credit ≤ 255

/-- R31, R36, R39, R43, R61, R69 for one lane: at most N keys PRESSED and no integrator above D; a lane that is not
scanning has every key RELEASED, every integrator 0 and no pass waiting or due; a held record stands exactly at the
PRESSED keys, and the repeat owner is one of them; a pass that runs for a lane that is not scanning is discarded, and
a discard mark belongs to a pass that runs. -/
def KeyboardSound (d : Device) : Prop :=
  ∀ l : Fin 16,
    d.scanner.lanes[l].countKeys .pressed ≤ d.lanes[l].active.rollover ∧
    (∀ p : Fin 128, d.scanner.lanes[l].integ[p] ≤ d.lanes[l].active.debounce) ∧
    (d.lanes[l].state.scanning = false → d.scanner.lanes[l].waiting = false ∧
      ∀ p : Fin 128, d.scanner.lanes[l].keys[p] = .released ∧ d.scanner.lanes[l].integ[p] = 0) ∧
    (d.scanner.lanes[l].dueTimer.isSome ↔ d.lanes[l].state.scanning = true) ∧
    (∀ p : Fin 128, d.trans[l].held[p].isSome ↔ d.scanner.lanes[l].keys[p] = .pressed) ∧
    (∀ p : Fin 128, d.trans[l].owner = some p → d.scanner.lanes[l].keys[p] = .pressed) ∧
    (d.scanner.laneInPass = some l → d.lanes[l].state.scanning = false → d.scanner.lanes[l].discard = true) ∧
    (d.scanner.lanes[l].discard = true → d.scanner.laneInPass = some l)

/-- R12, R15, R16, R18 for one lane: the watch timer runs exactly outside the scanning states; the tender window is
open in OPEN alone and never with the lock LOCKED; the wake monitor runs exactly in CLOSED with wake ON; a monitor
that does not run has no reference, no hold-off and no reading due. -/
def LaneSound (d : Device) : Prop :=
  ∀ l : Fin 16,
    (d.lanes[l].watchTimer.isSome ↔ d.lanes[l].state.scanning = false) ∧
    (d.lanes[l].windowOpen = true → d.lanes[l].state = .opened ∧ d.lanes[l].keyLock ≠ .locked) ∧
    (d.lanes[l].wakeMonitor = true ↔ d.lanes[l].state = .closed ∧ d.lanes[l].active.wake = true) ∧
    (d.lanes[l].wakeMonitor = false → d.lanes[l].wakeRef = none ∧ d.lanes[l].wakeHoldOff = 0) ∧
    (d.lanes[l].wakeDue = true → d.lanes[l].wakeMonitor = true)

/-- R20, R21 for one lane: the active settings and a pending set are within the ranges of 1.6. -/
def SettingsInRange (d : Device) : Prop :=
  ∀ l : Fin 16, d.lanes[l].active.clamped = d.lanes[l].active ∧
    ∀ g, d.lanes[l].pendingSet = some g → g.clamped = g

/-- R49, R55, R56: an image that is active or pending for a lane is READY; a scanning lane has an active image; an
image is pending exactly while the switch timer runs, in a scanning lane alone, and is not the active one. -/
def KeymapsSound (d : Device) : Prop :=
  ∀ l : Fin 16,
    (∀ i : Fin 8, d.keymaps.lanes[l].active = some i ∨ d.keymaps.lanes[l].pendingImg = some i →
      d.keymaps.images[i].state = .ready) ∧
    (d.lanes[l].state.scanning = true → d.keymaps.lanes[l].active.isSome) ∧
    (d.keymaps.lanes[l].pendingImg.isSome ↔ d.keymaps.lanes[l].switchTimer.isSome) ∧
    (d.keymaps.lanes[l].pendingImg.isSome → d.lanes[l].state.scanning = true ∧
      d.keymaps.lanes[l].pendingImg ≠ d.keymaps.lanes[l].active)

/-- R71, R73, R75, R76 for one port: a port is ACTIVE exactly while it is enabled and its lane is OPEN; a port has no
current buffer exactly while both are HELD, and the buffer that is not current is not FILLING; a STOPPING port has a
FILLING buffer and a DISABLED one has none; a buffer stores the first 48 of the characters received. -/
def PortsSound (d : Device) : Prop :=
  ∀ n : Fin 32,
    (d.ports[n].state = .active ↔ d.ports[n].enable = true ∧ d.lanes[laneOf n].state = .opened) ∧
    (match d.ports[n].current with
     | none => d.ports[n].bufX.state = .held ∧ d.ports[n].bufY.state = .held ∧ d.ports[n].state ≠ .stopping
     | some b => (d.ports[n].buf b).state ≠ .held ∧ (d.ports[n].buf b.other).state ≠ .filling ∧
       (d.ports[n].state = .stopping → (d.ports[n].buf b).state = .filling) ∧
       (d.ports[n].state = .disabled → (d.ports[n].buf b).state = .free)) ∧
    (∀ b : BufferId, (d.ports[n].buf b).chars.length = min 48 (d.ports[n].buf b).received)

/-- An entry's body is in this buffer. -/
def refersTo (e : Entry) (n : Fin 32) (b : BufferId) : Bool :=
  match e.body with
  | .buffer port buf _ _ => port == n && buf == b
  | .absent | .bytes _ => false

/-- R75, R79, R80: a buffer is HELD exactly while an entry of its lane's pending queue refers to it, and then one entry
does; no other lane's queue refers to it. -/
def HeldBuffersSound (d : Device) : Prop :=
  ∀ (n : Fin 32) (b : BufferId) (q : Fin 17),
    d.pool.lanes[q].queue.countP (fun e => refersTo e n b) =
      if q = laneQueue (laneOf n) ∧ (d.ports[n].buf b).state = .held then 1 else 0

/-- R171, R180: a generator's phase timer runs exactly while it is PLAYING, its cycles are at most 15; a lamp request
is staged only while the mode in effect flashes; the flash phase is 0 to 999. -/
def TonesSound (d : Device) : Prop :=
  d.tlu.flash < 1000 ∧
  ∀ l : Fin 16,
    (d.tlu.generators[l].playing.isSome ↔ d.tlu.generators[l].phaseTimer.isSome) ∧
    d.tlu.generators[l].cycles ≤ 15 ∧
    (d.tlu.lamps[l].staged.isSome → (d.lampMode l).flashing = true)

/-- Every saturating counter of the part is within its 16 bits (00_scope, "Counters"), and the open time within its
32. -/
def CountersBounded (d : Device) : Prop :=
  (d.trunk.checkErrors ≤ 65535 ∧ d.trunk.malformed ≤ 65535 ∧ d.trunk.wrongDirection ≤ 65535 ∧
    d.trunk.busyRefusals ≤ 65535 ∧ d.trunk.dropped ≤ 65535 ∧ d.trunk.ignoredCredits ≤ 65535) ∧
  d.pool.unwanted ≤ 65535 ∧
  (∀ q : Fin 17, d.pool.lanes[q].lossCount ≤ 65535) ∧
  (∀ c : Fin 8, d.delivery.consumers[c].drops ≤ 65535) ∧
  (∀ l : Fin 16, d.scanner.lanes[l].missCount ≤ 65535) ∧
  (∀ n : Fin 32, d.drawers.drawers[n].openCount ≤ 65535 ∧ d.drawers.drawers[n].limitsPassed ≤ 65535 ∧
    d.drawers.drawers[n].openTime ≤ 4294967295) ∧
  (∀ n : Fin 32, d.ports[n].cRecords ≤ 65535 ∧ d.ports[n].cDamaged ≤ 65535 ∧ d.ports[n].cOverlength ≤ 65535 ∧
    d.ports[n].cOverrun ≤ 65535 ∧ d.ports[n].cDiscarded ≤ 65535) ∧
  (∀ i : Fin 32, d.rules.active[i].hits ≤ 65535 ∧ d.rules.shadow[i].hits ≤ 65535)

end Sys2Proof.Safety
end

