-- ==== Sys2Proof/WellFormed.lean ====
section
/-! DEFINITION. Which commands name something that exists: lanes 0 to 15 (0 to 16 for a pending queue), ports
and drawers 0 to 31, supply units 0 to 7 and consumers 0 to 7 (00_scope, "Numbering"; R107, R122, R148). -/

namespace Sys2Proof

/-- The command names only lanes, ports, drawers, units and consumers that the part has. -/
def Instr.wellFormed : Instr → Bool
  | .duePoint lane => lane < 16
  | .forcedKeymapSwitch lane => lane < 16
  | .watchPoint lane _ _ _ => lane < 16
  | .wakeHoldOffExpiry lane => lane < 16
  | .tenderTimerExpiry lane => lane < 16
  | .scannerCharacter port _ _ => port < 32
  | .idleGapExpiry port => port < 32
  | .admissionLimitExpiry lane => lane < 17
  | .stallTimerExpiry consumer => consumer < 8
  | .senseChange drawer _ => drawer < 32
  | .stabilityTimerExpiry drawer => drawer < 32
  | .pulseEnd drawer => drawer < 32
  | .confirmTimeout drawer => drawer < 32
  | .unitRecovered unit => unit < 8
  | .openTooLong drawer => drawer < 32
  | .tonePhaseEnd lane => lane < 16
  | .lampBoundary lane => lane < 16
  | .scannerStartBit port => port < 32
  | .openLane | .closeLane | .suspendLane | .resumeLane | .resetLane | .setLane | .readLane | .setScan
  | .readKeys | .writeKeymap | .readKeymap | .verifyKeymap | .verifyWalkEnd | .eraseKeymap | .assignKeymap
  | .setPort | .readPort | .writeRule | .readRule | .commitRules | .setAdmission | .readPool | .tableRead
  | .tableWrite | .tableDelete | .tableSearch | .tableClear | .tableWalkStep | .tableWalkEnd | .setUnmatched
  | .setConsumer | .flushConsumer | .setStall | .readConsumer | .kick | .clearInhibit | .setDrawerDrawer
  | .setDrawerSupply | .readDrawer | .clearCounter | .writeTone | .playTone | .stopTone | .setLamp | .status
  | .setTime | .deviceReset | .unknownRequest | .emptyRequest | .requestFrame _ | .creditFrame _
  | .frameRejected _ | .frameAbandoned _ | .waitIdleCharacter | .receiverIdle | .transmitChoice
  | .transmitFrameEnd _ | .transmitGapEnd | .powerOn _ | .resetPinLow | .resetPinRise _ | .passStart
  | .passEnd _ _ _ _ | .admissionAttempt | .kickGrant | .supplyFault | .supplyLineRise
  | .trunkCharacterStored _ => true

end Sys2Proof
end

