-- ==== Sys2Proof/Certificates/Slice0/Obligations.lean ====
section
/-! DEFINITION. The statements for the provers: what the rules of the book say of the part, family by family, and what
every step keeps. The definitions before the statements are the vocabulary they are said in: a request waiting to be
taken, the trunk after its reply, an event appended to a pending queue, a part that has just started. -/

namespace Sys2Proof.Claims

open Sys2Proof.Machine Sys2Proof.Safety

/-! ## Requests and replies -/

/-- A request as it lies in the request FIFO: tag, request code, fields (R187, R198). -/
def request (tag : Byte) (code : Nat) (fields : List Byte) : Request :=
  { tag := tag, payload := BitVec.ofNat 8 code :: fields }

/-- The request is the head of the request FIFO and R188's conditions for taking it hold; the part is not held in
reset. -/
abbrev Waits (s : State) (r : Request) : Prop :=
  s.dev.inReset = false ∧ s.dev.trunk.requests.head? = some r ∧ s.dev.trunk.inProgress = none ∧
  s.dev.trunk.takingClosed = false ∧ s.dev.trunk.replies.length < 4

/-- The trunk after the head request has been taken and answered (R188, R189). -/
def answered (k : Trunk) (r : Request) (c : ReplyCode) (fields : List Byte) : Trunk :=
  { k with requests := k.requests.tail, inProgress := none
           replies := k.replies ++ [{ tag := r.tag, request := r.replyCode, code := c, fields := fields }] }

/-- The trunk after the head request has been taken, its reply still to be formed (R188). -/
def started (k : Trunk) (r : Request) : Trunk := { k with requests := k.requests.tail, inProgress := some r }

/-- The state after the head request has been taken and answered with no other effect. -/
def onlyAnswered (s : State) (r : Request) (c : ReplyCode) (fields : List Byte) : State :=
  { s with dev := { s.dev with trunk := answered s.dev.trunk r c fields } }

/-- The state with the trunk port replaced. -/
def withTrunk (s : State) (k : Trunk) : State := { s with dev := { s.dev with trunk := k } }

/-- The number of a lane, port, drawer, image, entry or consumer as the byte that names it. -/
def num (n : Nat) : Byte := BitVec.ofNat 8 n

/-- A flag's byte: 1 when set, 0 when clear (R198). -/
def flag (b : Bool) : Byte := if b then 1 else 0

/-- A number in one byte, all ones for an absent one (R198). -/
def orNone (o : Option Nat) : Byte := num (o.getD 0xFF)

/-- A number in two bytes, least significant first (R196). -/
def two (n : Nat) : List Byte := [num n, num (n / 256)]

/-- A number in four bytes, least significant first (R196). -/
def four (n : Nat) : List Byte := [num n, num (n / 256), num (n / 65536), num (n / 16777216)]

/-! ## Events (R104, R107, R108) -/

/-- The entry that an event without flags makes on queue `q` at this moment. -/
def entryOf (d : Device) (q : Fin 17) (k : Kind) (source : Option Byte) (d1 d2 : Nat) (body : BodyRef) : Entry :=
  { ev := { lane := q, seq := d.pool.lanes[q].seq, kind := k, afterLoss := false, overrun := false, late := false,
            forced := false, time := d.trunk.clock, source := source, detail1 := num d1, detail2 := num d2 }
    body := body }

/-- The pool with one entry appended at the tail of queue `q` and the sequence counter raised. -/
def appended (p : Pool) (q : Fin 17) (e : Entry) : Pool :=
  { p with lanes := p.lanes.set q { p.lanes[q] with seq := p.lanes[q].seq + 1, queue := p.lanes[q].queue ++ [e] } }

/-- The pool after one event without flags and body is queued on `q`. -/
def queued (d : Device) (q : Fin 17) (k : Kind) (source : Option Byte) (d1 d2 : Nat) : Pool :=
  appended d.pool q (entryOf d q k source d1 d2 .absent)

/-- The queue has room for `n` more events (R107). -/
abbrev room (d : Device) (q : Fin 17) (n : Nat) : Prop := d.pool.lanes[q].queue.length + n ≤ 8

/-- An event without flags and body, as told by its kind, source and details. -/
abbrev Told := Kind × Option Byte × Nat × Nat

/-- The pool after such events are queued on `q`, one after the other. -/
def queuedAll (d : Device) (q : Fin 17) : List Told → Pool
  | [] => d.pool
  | (k, source, d1, d2) :: rest => queuedAll { d with pool := queued d q k source d1 d2 } q rest

/-- The drawer of its lane, as an event's source (R105). -/
def drawerSource (n : Fin 32) : Option Byte := some (num (n.val % 2))

/-! ## The key lock and the wake monitor (R13, R14, R16, R19) -/

/-- A sample of the key lock at `k` is the third in a row that differs from the accepted position. -/
abbrev lockAccepts (r : LaneRec) (k : KeyLock) : Prop :=
  ¬ (r.settled = true ∧ k = r.keyLock) ∧ r.lockCandidate = some k ∧ 2 ≤ r.lockCount

/-- The lane record after a sample of the key lock at `k`: the accepted position again clears the candidate, a sample
that differs from the candidate is the new one, the third equal one is accepted, and LOCKED closes the tender window. -/
def lockFiltered (r : LaneRec) (k : KeyLock) : LaneRec :=
  if r.settled = true ∧ k = r.keyLock then { r with lockCandidate := none, lockCount := 0 }
  else if r.lockCandidate ≠ some k then { r with lockCandidate := some k, lockCount := 1 }
  else if r.lockCount < 2 then { r with lockCount := r.lockCount + 1 }
  else
    { r with lockCandidate := none, lockCount := 0, keyLock := k, settled := true
             windowOpen := if k = .locked then false else r.windowOpen
             tenderTimer := if k = .locked then 0 else r.tenderTimer }

/-- The part after that sample: KEYLOCK tells an acceptance that is not the lane's first. -/
def lockSampled (d : Device) (l : Fin 16) (k : KeyLock) : Device :=
  let r := d.lanes[l]
  { d with
    lanes := d.lanes.set l (lockFiltered r k)
    pool := if lockAccepts r k ∧ r.settled = true then queued d (laneQueue l) .keylock none k.code r.keyLock.code
      else d.pool }

/-- The part after a wake reading of a lane: the rows in force are the new reference; if they differ from the old one
with the hold-off at 0, ACTIVITY is queued and the hold-off loaded with 2000 ms. -/
def woken (d : Device) (l : Fin 16) (rows : Byte) : Device :=
  let r := d.lanes[l]
  let new : Byte := rows &&& BitVec.ofNat 8 (2 ^ r.active.rows - 1)
  match r.wakeRef with
  | none => { d with lanes := d.lanes.set l { r with wakeRef := some new, wakeDue := false } }
  | some old =>
    if old ≠ new ∧ r.wakeHoldOff = 0 then
      { d with
        lanes := d.lanes.set l { r with wakeRef := some new, wakeDue := false, wakeHoldOff := 2000 }
        pool := queued d (laneQueue l) .activity none old.toNat new.toNat }
    else { d with lanes := d.lanes.set l { r with wakeRef := some new, wakeDue := false } }

/-! ## Start-up (R195) -/

/-- The part as it starts up with a sound supply line: every block at its reset values and DEVICE-STARTED, with
sequence number 0, on lane 16. -/
def startedUp (cause : ResetCause) (i : Inputs) : Device :=
  { Device.blank cause i with
    pool := queued (Device.blank cause i) deviceQueue .deviceStarted none cause.code 0 }

/-- A sounding generator that has just begun entry `e` (R172). -/
def sounding (e : Fin 8) (t : Tone) : Generator :=
  { playing := some { entry := e, tone := t }, phase := .sounding, phaseTimer := some (t.onTime * 10), cycles := 0,
    phaseUs := 0 }

/-! ## Bodies and scans (R80, R94 to R98, R107, R114) -/

/-- The bytes of an entry's body (R107). -/
def bodyOf (d : Device) (b : BodyRef) : List Byte :=
  match b with
  | .absent => []
  | .bytes bs => bs
  | .buffer n buf start len => ((d.ports[n].buf buf).chars.drop start).take len

/-- The ports after the buffer that an entry's body refers to is released: FREE, and the current buffer of a port that
had none (R75, R80). -/
def released (d : Device) (b : BodyRef) : Table Port 32 :=
  match b with
  | .absent | .bytes _ => d.ports
  | .buffer n buf _ _ =>
    if (d.ports[n].buf buf).state = .held then
      d.ports.set n { d.ports[n].setBuf buf freeBuffer with current := some (d.ports[n].current.getD buf) }
    else d.ports

/-- The SCAN event of a sound record: its kind, details, and the start and length of its body; nothing for a silent
drop (R94, R96, R97, R98). -/
def scanEvent (rule : Option (Fin 32 × ScanRule)) (policy : NoMatchPolicy) (chars : List Byte) :
    Option (Kind × Nat × Nat × Nat × Nat) :=
  match rule, policy with
  | none, .acceptRaw => some (.scanGood, 0, 0, 0, chars.length)
  | none, .rejectReport => some (.scanRejected, 0xFF, chars.length, 0, chars.length)
  | some (i, r), _ =>
    match r.action, r.check with
    | .rejectSilent, _ => none
    | .rejectReport, _ => some (.scanRejected, i, chars.length, 0, chars.length)
    | .accept, .none => some (.scanGood, r.typeCode.toNat, 0, r.strip, chars.length - r.strip)
    | .accept, .mod10 =>
      some (if mod10 (chars.drop r.strip) = .passed then .scanGood else .scanBadCheck, r.typeCode.toNat,
        (mod10 (chars.drop r.strip)).code, r.strip, chars.length - r.strip)

/-! ## Consumers (R129) -/

/-- A consumer that has missed one event: flagged and counted. -/
def missedOne (x : Consumer) : Consumer := { x with lossFlag := true, drops := min 65535 (x.drops + 1) }

/-! ## Drawers, tones and lamps (R155 to R162, R172, R179, R180) -/

/-- The state with one drawer's record, the wait list and the pool replaced. -/
def withDrawer (s : State) (n : Fin 32) (w : Drawer) (list : List (Fin 32)) (p : Pool) : State :=
  { s with dev :=
    { s.dev with
      drawers := { s.dev.drawers with drawers := s.dev.drawers.drawers.set n w, waitList := list }, pool := p } }

/-- The limit timer loaded with the open limit, in seconds, provided it is not 0 (R161). -/
def limitLoaded (w : Drawer) : Drawer :=
  { w with limitTimer := if w.openLimit = 0 then none else some w.openLimit, limitSubMs := 0 }

/-- The supply after unit `i` has become AVAILABLE: a pending limit is applied if no other unit is in use
(R156, R158). -/
def freed (u : DrawerUnit) (i : Fin 8) : DrawerUnit :=
  { u with
    units := u.units.set i { state := .available, timer := none }
    supplyLimit := if ∀ j : Fin 8, j ≠ i → u.units[j].state = .available then u.pendingLimit.getD u.supplyLimit
      else u.supplyLimit
    pendingLimit := if ∀ j : Fin 8, j ≠ i → u.units[j].state = .available then none else u.pendingLimit }

/-- What a supply fault makes of the part `d` (R162): each ENERGIZED kick is ended and its unit RECOVERING, each WAITING
one is removed, the inhibit is set; KICK-ABORTED is queued for each on its drawer's lane, and SUPPLY-FAULT with both
counts on lane 16. The order of one lane's KICK-ABORTED events is left open (notes/assumptions/11.md). -/
def supplyFails (d e : Device) : Prop :=
  let u := d.drawers
  let cut := fun n : Fin 32 => u.drawers[n].kick = .energized
  let waits := fun n : Fin 32 => u.drawers[n].kick = .waiting
  e = { d with
    drawers := { u with drawers := e.drawers.drawers, units := e.drawers.units, waitList := [], inhibit := true }
    pool := { d.pool with lanes := e.pool.lanes } } ∧
  (∀ n : Fin 32, e.drawers.drawers[n] =
    if cut n then { u.drawers[n] with kick := .idle, unitHeld := none, kickTimer := none }
    else if waits n then { u.drawers[n] with kick := .idle }
    else u.drawers[n]) ∧
  (∀ i : Fin 8, e.drawers.units[i] =
    if ∃ n : Fin 32, u.drawers[n].unitHeld = some i then { state := .recovering, timer := some u.supplyGap }
    else u.units[i]) ∧
  (∀ l : Fin 16, room d (laneQueue l) 2 → ∃ es : List Entry,
    e.pool.lanes[laneQueue l].queue = d.pool.lanes[laneQueue l].queue ++ es ∧
    es.length = (List.finRange 32).countP (fun n => decide (laneOf n = l ∧ (cut n ∨ waits n))) ∧
    (∀ n : Fin 32, laneOf n = l → cut n ∨ waits n →
      ∃ x ∈ es, x = { entryOf d (laneQueue l) .kickAborted (drawerSource n) 2 (if cut n then 1 else 0) .absent with
        ev.seq := x.ev.seq })) ∧
  (room d deviceQueue 1 → e.pool.lanes[deviceQueue] = (queued d deviceQueue .supplyFault none
    ((List.finRange 32).countP fun n => decide (cut n))
    ((List.finRange 32).countP fun n => decide (waits n))).lanes[deviceQueue])

/-- The level test of R173 grants a request for entry `e` on the generator. -/
abbrev levelGrants (u : ToneUnit) (l : Fin 16) (e : Fin 8) : Prop :=
  ∀ c, u.generators[l].playing = some c → c.tone.level ≤ u.tones[e].level

/-- The mode in effect of a lamp in a lane state (R179). -/
def modeIn (p : Lamp) (st : LaneState) : LampMode :=
  match p.overrideMode with
  | some m => m
  | none =>
    match st with
    | .closed => .off | .opened => .on | .suspended => .flashSlow | .faulted => .flashFast

/-- The mode in effect of a lane's lamp (R179). -/
def modeInEffect (d : Device) (l : Fin 16) : LampMode := modeIn d.tlu.lamps[l] d.lanes[l].state

/-- The modes that have period boundaries (R179). -/
abbrev flashes (m : LampMode) : Prop := m = .flashSlow ∨ m = .flashFast

/-- The tone and lamp unit once lane `l` is in state `st`: a staged request is applied at once where the mode in effect
has no period boundaries (R180). -/
def lampIn (u : ToneUnit) (l : Fin 16) (st : LaneState) : ToneUnit :=
  let p := u.lamps[l]
  match p.staged with
  | some m =>
    if flashes (modeIn p st) then u else { u with lamps := u.lamps.set l { overrideMode := m, staged := none } }
  | none => u

/-! ## The layouts of replies (11.4) -/

/-- A lane setting set: 16 bytes. -/
def settingBytes (g : Settings) : List Byte :=
  [num g.scanPeriod, num g.rows, num g.columns, num g.debounce, num g.rollover, flag g.ghostCheck,
   flag (g.missPolicy == .fault), num g.typDelay, num g.typPeriod, num g.switchTimeout, num g.tenderWindow,
   orNone (g.autoKick.map Fin.val), orNone (g.goodTone.map Fin.val), orNone (g.badTone.map Fin.val),
   flag (g.noMatch == .rejectReport), flag g.wake]

/-- A keymap entry: code bits 0 to 7; code bits 8 to 11 with the role from bit 4; the five flags. -/
def keyBytes (e : KeyEntry) : List Byte :=
  [num (e.code.toNat % 256), num (e.code.toNat / 256 + 16 * e.role.code),
   flag e.repeats + 2 * flag e.tender + 4 * flag e.supervisor + 8 * flag e.silent + 16 * flag e.wake]

/-- A delivery table entry: the lane mask in 3 bytes, class mask, kind filter with 0 for ANY, consumer mask, flags. -/
def entryBytes (e : TableEntry) : List Byte :=
  two e.laneMask.toNat ++ [num (e.laneMask.toNat / 65536), num e.classMask.toNat, num ((e.kind.map Kind.code).getD 0),
    e.consumers, flag e.urgent + 2 * flag e.blocked]

/-- A scan rule: valid, action and check in one byte, lane mask, prefix, lengths, strip count, type code. -/
def ruleBytes (r : ScanRule) : List Byte :=
  [flag r.valid + 2 * num r.action.code + 8 * num r.check.code] ++ two r.laneMask.toNat ++ [num r.leadLen] ++
    r.lead.toList ++ [num r.minLen, num r.maxLen, num r.strip, r.typeCode]

/-! ## Requests whose payload has one fixed length (R198) -/

/-- The payload length of each request that has one, the request code included. -/
def fixedLength : List (Nat × Instr × Nat) :=
  [(0x01, .openLane, 2), (0x02, .closeLane, 3), (0x03, .suspendLane, 2), (0x04, .resumeLane, 2),
   (0x05, .resetLane, 2), (0x06, .setLane, 18), (0x07, .readLane, 3), (0x10, .setScan, 2), (0x11, .readKeys, 4),
   (0x19, .readKeymap, 5), (0x1A, .verifyKeymap, 4), (0x1B, .eraseKeymap, 2), (0x1C, .assignKeymap, 3),
   (0x20, .setPort, 6), (0x21, .readPort, 3), (0x28, .writeRule, 13), (0x29, .readRule, 4), (0x2A, .commitRules, 1),
   (0x30, .setAdmission, 3), (0x31, .readPool, 2), (0x38, .tableRead, 2), (0x39, .tableWrite, 9),
   (0x3A, .tableDelete, 2), (0x3B, .tableSearch, 4), (0x3C, .tableClear, 3), (0x3D, .setUnmatched, 3),
   (0x3E, .setConsumer, 4), (0x3F, .flushConsumer, 2), (0x40, .setStall, 3), (0x41, .readConsumer, 3),
   (0x48, .kick, 2), (0x49, .clearInhibit, 1), (0x4B, .readDrawer, 2), (0x4C, .clearCounter, 2),
   (0x50, .writeTone, 8), (0x51, .playTone, 3), (0x52, .stopTone, 2), (0x53, .setLamp, 4), (0x60, .status, 2),
   (0x61, .setTime, 5), (0x62, .deviceReset, 1)]

/-- The fields that hold an index, a flag or a code whose list runs from 0: request code, place among the fields after
it, and the first value that is not admitted (R2, R50, R87, R100, R130, R138, R165, R166, R175, R180, R198). That a flag
is 0 or 1 is the model's reading (notes/assumptions/14.md). -/
def fieldBounds : List (Nat × Nat × Nat) :=
  [(0x01, 0, 16), (0x02, 0, 16), (0x02, 1, 2), (0x03, 0, 16), (0x04, 0, 16), (0x05, 0, 16), (0x06, 0, 16), (0x06, 6, 2),
   (0x06, 7, 2), (0x06, 15, 2), (0x06, 16, 2), (0x07, 0, 16), (0x07, 1, 2), (0x11, 0, 16), (0x11, 1, 8), (0x11, 2, 2),
   (0x19, 0, 8), (0x1A, 0, 8), (0x1B, 0, 8), (0x1C, 0, 16), (0x1C, 1, 8), (0x20, 0, 32), (0x20, 1, 5), (0x20, 4, 2),
   (0x21, 0, 32), (0x21, 1, 2), (0x28, 0, 32), (0x29, 0, 2), (0x29, 1, 32), (0x29, 2, 2), (0x31, 0, 2), (0x38, 0, 64),
   (0x39, 0, 64), (0x39, 3, 2), (0x39, 4, 32), (0x39, 7, 4), (0x3A, 0, 64), (0x3B, 0, 17), (0x3C, 0, 2), (0x3D, 0, 3),
   (0x3E, 0, 8), (0x3E, 2, 2), (0x3F, 0, 8), (0x41, 0, 8), (0x41, 1, 2), (0x48, 0, 32), (0x4B, 0, 32), (0x4C, 0, 32),
   (0x50, 0, 8), (0x51, 0, 16), (0x51, 1, 8), (0x52, 0, 16), (0x53, 0, 16), (0x53, 1, 5), (0x53, 2, 2), (0x60, 0, 2)]

/-- A request of its right length holds a value that R196 does not admit: one beyond its bound; an auto-kick drawer or a
tone selection that is neither listed nor none (R20); a run of keymap entries of a bad count or past index 511 (R50); an
action, check or reserved bit of a rule (R101); an unlisted kind filter (R131); a class without that kind (R134); a
consumer or lane to clear that does not exist (R135). -/
def badFields (code : Nat) (fs : List Byte) : Prop :=
  let at' := fun i : Nat => (fs[i]?.getD 0).toNat
  let first := at' 1 + 256 * at' 2
  (∃ x ∈ fieldBounds, x.1 = code ∧ x.2.2 ≤ at' x.2.1) ∨
  (code = 0x06 ∧ ((2 ≤ at' 12 ∧ at' 12 ≠ 0xFF) ∨ (8 ≤ at' 13 ∧ at' 13 ≠ 0xFF) ∨ (8 ≤ at' 14 ∧ at' 14 ≠ 0xFF))) ∨
  (code = 0x19 ∧ (at' 3 = 0 ∨ 16 < at' 3 ∨ 512 < first + at' 3)) ∨
  (code = 0x28 ∧ (at' 1 / 2 % 4 = 3 ∨ 2 ≤ at' 1 / 8)) ∨
  (code = 0x39 ∧ at' 5 ≠ 0 ∧ Kind.ofCode (at' 5) = none) ∨
  (code = 0x3B ∧ ∀ k, Kind.ofCode (at' 2) = some k → k.cls.code ≠ at' 1) ∨
  (code = 0x3C ∧ ((at' 0 = 0 ∧ 8 ≤ at' 1) ∨ (at' 0 = 1 ∧ 17 ≤ at' 1)))

/-- The fields of a WRITE-KEYMAP that R50, R51 and R196 admit: image, first index, count, and three bytes for each entry
with no reserved bit and a listed role. -/
def keymapFields (fs : List Byte) : Prop :=
  ∃ i lo hi n rest, fs = i :: lo :: hi :: n :: rest ∧ i.toNat < 8 ∧ 1 ≤ n.toNat ∧ n.toNat ≤ 16 ∧
    lo.toNat + 256 * hi.toNat + n.toNat ≤ 512 ∧ rest.length = 3 * n.toNat ∧
    ∀ j : Nat, j < n.toNat → (rest[3 * j + 1]?.getD 0).toNat < 48 ∧ (rest[3 * j + 2]?.getD 0).toNat < 32

/-- The fields after the scope code that the two forms of SET-DRAWER admit (R166, R196). -/
def drawerFields (fs : List Byte) : Prop :=
  ∃ n on pw ct ol, fs = [n, on, pw, ct, ol] ∧ n.toNat < 32 ∧ on.toNat < 2

def supplyFields (fs : List Byte) : Prop := ∃ k g on, fs = [k, g, on] ∧ on.toNat < 2

/-- The rows that take a request from the request FIFO, but for KICK, whose refusals queue an event (R151). -/
def isRequestRow : Instr → Bool
  | .openLane | .closeLane | .suspendLane | .resumeLane | .resetLane | .setLane | .readLane | .setScan | .readKeys
  | .writeKeymap | .readKeymap | .verifyKeymap | .eraseKeymap | .assignKeymap | .setPort | .readPort | .writeRule
  | .readRule | .commitRules | .setAdmission | .readPool | .tableRead | .tableWrite | .tableDelete | .tableSearch
  | .tableClear | .setUnmatched | .setConsumer | .flushConsumer | .setStall | .readConsumer | .clearInhibit
  | .setDrawerDrawer | .setDrawerSupply | .readDrawer | .clearCounter | .writeTone | .playTone | .stopTone
  | .setLamp | .status | .setTime | .deviceReset | .unknownRequest | .emptyRequest => true
  | _ => false

/-- The rows that may change a lane's state: the lane requests of 1.2, a due point (R8), and a device reset. -/
def mayChangeLaneState : Instr → Bool
  | .openLane | .closeLane | .suspendLane | .resumeLane | .resetLane | .duePoint _ | .powerOn _ | .resetPinLow
  | .resetPinRise _ | .transmitFrameEnd _ => true
  | _ => false

/-! ## Passes (R24, R27, R34, R35) -/

/-- The state with what the matrix scanner holds for one lane replaced. -/
def withScan (s : State) (l : Fin 16) (m : LaneScan) : State :=
  { s with dev := { s.dev with scanner := { s.dev.scanner with lanes := s.dev.scanner.lanes.set l m } } }

/-- How far a number lies after the last served one, wrapping: the search order of the three arbiters. -/
def distance (n last i : Nat) : Nat := (i + n - last - 1) % n

/-- The position in row `r`, column `c` is in the sample of a pass over `g`'s rows and columns (R34). -/
abbrev closedAt (g : Settings) (raw : BitVec 128) (r c : Nat) : Prop :=
  r < g.rows ∧ c < g.columns ∧ raw.getLsbD (r * 16 + c) = true

/-- The position is ambiguous: three others of the sample stand at the corners of a rectangle with it (R35). -/
def ghostAt (g : Settings) (raw : BitVec 128) (r c : Nat) : Prop :=
  g.ghostCheck = true ∧ closedAt g raw r c ∧
  ∃ r' c' : Nat, r' < 8 ∧ c' < 16 ∧ r' ≠ r ∧ c' ≠ c ∧
    closedAt g raw r c' ∧ closedAt g raw r' c ∧ closedAt g raw r' c'

/-! ## Keys and keymaps (R7, R31, R43, R57 to R59, R65, R66, R68, R70) -/

/-- A KEY event: the position as source; the code's low byte; its high bits, the layer and the key-lock position. -/
def keyTold (k : Kind) (p : Fin 128) (h : Held) (lock : KeyLock) : Told :=
  (k, some (num p.val), h.code.toNat % 256, h.code.toNat / 256 + 16 * h.layer.val + 64 * lock.code)

/-- The lane's PRESSED keys, in ascending position. -/
def pressedKeys (d : Device) (l : Fin 16) : List (Fin 128) :=
  (List.finRange 128).filter fun p => d.scanner.lanes[l].keys[p] == .pressed

/-- What the release of the given positions queues, in their order: KEY-RELEASE for each whose held record has the fate
REPORTED, with the record's layer and code. -/
def releasesOf (d : Device) (l : Fin 16) (ps : List (Fin 128)) : List Told :=
  ps.filterMap fun p => match d.trans[l].held[p] with
    | some h => if h.fate = .reported then some (keyTold .keyRelease p h d.lanes[l].keyLock) else none
    | none => none

/-- The key translator's part of a lane whose PRESSED keys are released: their held records are deleted. -/
def letGo (d : Device) (l : Fin 16) (ps : List (Fin 128)) (t : KeyTrans) : Prop :=
  ∀ p : Fin 128, t.held[p] = if p ∈ ps then none else d.trans[l].held[p]

/-- A lane's keyboard withdrawn from the scanner: no pass waits or falls due, a running one is discarded, every key is
RELEASED and every integrator 0. -/
def withdrawn (d : Device) (l : Fin 16) : Scanner :=
  { d.scanner with
    lanes := d.scanner.lanes.set l
      { d.scanner.lanes[l] with
        waiting := false, dueTimer := none
        discard := d.scanner.lanes[l].discard || decide (d.scanner.laneInPass = some l)
        integ := Vector.replicate 128 0, keys := Vector.replicate 128 .released } }

/-- Nd or Nr: how many passes of scan period `ts` cover `t` times 10 ms, at least 1. -/
def passes (t ts : Nat) : Nat := max 1 ((t * 10000 + ts * 250 - 1) / (ts * 250))

/-- What the switch of a lane's pending image queues, if there is one. -/
def switchTold (d : Device) (l : Fin 16) : List Told :=
  match d.keymaps.lanes[l].pendingImg with
  | some i => [(.keymapSwitched, none, i.val, 0)]
  | none => []

/-- The keymap store after that switch. -/
def switched (d : Device) (l : Fin 16) : KeymapStore :=
  match d.keymaps.lanes[l].pendingImg with
  | some i =>
    { d.keymaps with lanes := d.keymaps.lanes.set l { active := some i, pendingImg := none, switchTimer := none } }
  | none => d.keymaps

/-- What a lane that departs from a scanning state queues: the releases of its PRESSED keys, LANE-STATE with the new
state and the cause, and the switch of a pending image (R6 to R8, R59). -/
def departing (d : Device) (l : Fin 16) (state cause : Nat) : List Told :=
  releasesOf d l (pressedKeys d l) ++ [(.laneState, none, state, cause)] ++ switchTold d l

/-- A port once lane `l` has left OPEN: an ACTIVE port of the lane stops, after its record if its current buffer is
FILLING; no other port and no other item moves (R73, R74). -/
def portLeft (d : Device) (l : Fin 16) (n : Fin 32) : Port :=
  let p := d.ports[n]
  if laneOf n = l ∧ p.state = .active then
    { p with state := if p.current.any fun b => (p.buf b).state == .filling then .stopping else .disabled }
  else p

/-- The part after the typematic repeat of a pass-end notice with the given presses: unless the owner was pressed in it,
the countdown falls by one; at its end Nr is loaded and KEY-REPEAT queued, but for a SUSPENDED lane's owner without
WAKE. -/
def repeatCounted (d : Device) (l : Fin 16) (presses : List (Fin 128 × Bool)) : Device :=
  let x := d.trans[l]
  match x.owner with
  | none => d
  | some p =>
    if p ∈ presses.map Prod.fst then d
    else if 1 < x.countdown then { d with trans := d.trans.set l { x with countdown := x.countdown - 1 } }
    else
      { d with
        trans := d.trans.set l { x with countdown := x.periodPasses }
        pool := match x.held[p] with
          | none => d.pool
          | some h =>
            if d.lanes[l].state = .suspended ∧ h.wake = false then d.pool
            else queuedAll d (laneQueue l) [keyTold .keyRepeat p h d.lanes[l].keyLock] }

/-- The part after the keymap store's notice of a pass: a pending image is active once no key is PRESSED or BLOCKED. -/
def quietlySwitched (d : Device) (l : Fin 16) : Device :=
  if ∀ p : Fin 128, d.scanner.lanes[l].keys[p] ≠ .pressed ∧ d.scanner.lanes[l].keys[p] ≠ .blocked then
    { d with keymaps := switched d l, pool := queuedAll d (laneQueue l) (switchTold d l) }
  else d

/-- The layer that a lane's held modifiers select (R62): MOD-A adds 1, MOD-B adds 2. -/
def layerOf (t : KeyTrans) : Nat :=
  (if ∃ p : Fin 128, ∃ h, t.held[p] = some h ∧ h.role = .modA then 1 else 0) +
  (if ∃ p : Fin 128, ∃ h, t.held[p] = some h ∧ h.role = .modB then 2 else 0)

/-- The sum S of R95 over the data digits: weights 3, 1, 3, … from the digit just left of the check digit. -/
def weighted (digits : List Byte) : Nat :=
  ((digits.reverse.zipIdx).map fun x => (x.1.toNat - 48) * (if x.2 % 2 = 0 then 3 else 1)).sum

end Sys2Proof.Claims

open Sys2Proof Sys2Proof.Machine Sys2Proof.Safety Sys2Proof.Claims

/-! ## The machine -/

/-- A step takes the command at the front of the queue and is that command's effect with the queue's rest. -/
def Obligations.StepRunsFrontCommand : Prop :=
  ∀ (s : State) (c : Instr) (rest : List Instr),
    step { s with pending := c :: rest } = exec c { s with pending := rest }

/-- MODEL'S CHOICE (notes/assumptions/5.md): on an empty queue one µs passes. Each µs counts down the pass in progress and
the due timers and lengthens the phases of the sounding tones (R24, R25, R170). Every 1000th raises the device clock by
one ms and the flash phase by one, wrapping at 1000 (R179, R191), counts every ms timer down, and raises the open time of
each OPEN drawer; the limit timer's seconds are counted by its 1000th ms (notes/assumptions/9.md). A timer at 0 stays
there (notes/assumptions/6.md). Nothing else moves: no state, no queue, no wait list, no counter. -/
def Obligations.EmptyQueueLetsTimePass : Prop :=
  ∀ s : State, s.pending = [] → s.dev.inReset = false →
    let d := s.dev
    let ms := if d.usPhase < 999 then 0 else 1
    ∃ t, step s = .next t ∧ t.pending = [] ∧
      t.dev = { d with
        lanes := t.dev.lanes, scanner := { d.scanner with passLeft := d.scanner.passLeft - 1, lanes := t.dev.scanner.lanes }
        keymaps := { d.keymaps with lanes := t.dev.keymaps.lanes }, ports := t.dev.ports
        pool := { d.pool with lanes := t.dev.pool.lanes }
        delivery := { d.delivery with consumers := t.dev.delivery.consumers }
        drawers := { d.drawers with drawers := t.dev.drawers.drawers, units := t.dev.drawers.units }
        tlu := { d.tlu with generators := t.dev.tlu.generators
                            flash := if ms = 0 then d.tlu.flash else (d.tlu.flash + 1) % 1000 }
        trunk := { d.trunk with clock := d.trunk.clock + BitVec.ofNat 32 ms }
        usPhase := if ms = 0 then d.usPhase + 1 else 0 } ∧
      (∀ l : Fin 16,
        t.dev.lanes[l] = { d.lanes[l] with
          tenderTimer := d.lanes[l].tenderTimer - ms, watchTimer := d.lanes[l].watchTimer.map (· - ms)
          wakeHoldOff := d.lanes[l].wakeHoldOff - ms } ∧
        t.dev.scanner.lanes[l] = { d.scanner.lanes[l] with dueTimer := d.scanner.lanes[l].dueTimer.map (· - 1) } ∧
        t.dev.keymaps.lanes[l] =
          { d.keymaps.lanes[l] with switchTimer := d.keymaps.lanes[l].switchTimer.map (· - ms) } ∧
        t.dev.tlu.generators[l] = { d.tlu.generators[l] with
          phaseTimer := d.tlu.generators[l].phaseTimer.map (· - ms)
          phaseUs := d.tlu.generators[l].phaseUs + (if d.tlu.generators[l].playing.isSome then 1 else 0) }) ∧
      (∀ n : Fin 32,
        t.dev.ports[n] = { d.ports[n] with idleTimer := d.ports[n].idleTimer.map (· - ms) } ∧
        (let w := d.drawers.drawers[n]
         let whole := ms = 1 ∧ w.limitTimer.isSome ∧ 999 ≤ w.limitSubMs
         t.dev.drawers.drawers[n] = { w with
           stability := w.stability.map (· - ms), kickTimer := w.kickTimer.map (· - ms)
           openTime := if ms = 1 ∧ w.position = .opened then min 4294967295 (w.openTime + 1) else w.openTime
           limitTimer := if whole then w.limitTimer.map (· - 1) else w.limitTimer
           limitSubMs := if whole then 0 else if w.limitTimer.isSome then w.limitSubMs + ms else w.limitSubMs })) ∧
      (∀ q : Fin 17, t.dev.pool.lanes[q] =
        { d.pool.lanes[q] with waitTimer := d.pool.lanes[q].waitTimer.map (· - ms) }) ∧
      (∀ c : Fin 8,
        t.dev.delivery.consumers[c] =
          { d.delivery.consumers[c] with stallTimer := d.delivery.consumers[c].stallTimer.map (· - ms) } ∧
        t.dev.drawers.units[c] = { d.drawers.units[c] with timer := d.drawers.units[c].timer.map (· - ms) })

/-- Every command that names things the part has completes, and leaves the queue of commands as it is: MODEL'S CHOICE
(notes/assumptions/4.md) for a command whose step the part cannot make now, which has no effect and completes too. Every
other stops with a fault: MODEL'S CHOICE (notes/assumptions/21.md). None is refused. -/
def Obligations.WellFormedCommandsComplete : Prop :=
  ∀ (c : Instr) (s : State),
    (c.wellFormed = true → ∃ t, exec c s = .next t ∧ t.pending = s.pending) ∧
    (c.wellFormed = false → ∃ f, exec c s = .fault f)

/-- THE MODEL'S READING of R195 (notes/assumptions/10.md): while the reset input is low the part stays in reset, and no
command but POWER_ON and RESET_PIN_RISE does anything. -/
def Obligations.ResetHoldsThePart : Prop :=
  ∀ (c : Instr) (s : State), s.dev.inReset = true → c.wellFormed = true → (∀ i, c ≠ .powerOn i) →
    (∀ i, c ≠ .resetPinRise i) → exec c s = .next s

/-- What a device reset leaves in every block, for every cause and all inputs: on the lane side (R1, R23, R47, R61,
R71), and in the other blocks (R90, R118, R121, R122, R147, R148, R169, R171, R179, R182, R183), the pool before
DEVICE-STARTED is offered. The supply line and the sense inputs stand as read, the bit rate as strapped. The items of the
model's own, wakeDue, the three of a running pass, charRate, limitSubMs, usPhase and inReset, are off or 0 or absent
(notes/assumptions/5.md, 9.md, 17.md, 18.md, 23.md). -/
def Obligations.DeviceResetValues : Prop :=
  ∀ (cause : ResetCause) (i : Inputs),
    let d := Device.blank cause i
    (∀ (l : Fin 16) (p : Fin 128),
      d.lanes[l] =
        { state := .closed, pendingSet := none, keyLock := .locked, settled := false, lockCandidate := none
          lockCount := 0, windowOpen := false, tenderTimer := 0, watchTimer := some 8, wakeMonitor := true
          wakeRef := none, wakeHoldOff := 0, wakeDue := false
          active :=
            { scanPeriod := 8, rows := 8, columns := 16, debounce := 3, rollover := 4, ghostCheck := true,
              missPolicy := .hold, typDelay := 50, typPeriod := 10, switchTimeout := 5, tenderWindow := 15,
              autoKick := none, goodTone := none, badTone := none, noMatch := .acceptRaw, wake := true } } ∧
      d.scanner.lanes[l] = { d.scanner.lanes[l] with dueTimer := none, waiting := false, discard := false, missCount := 0 } ∧
      d.scanner.lanes[l].integ[p] = 0 ∧ d.scanner.lanes[l].keys[p] = .released ∧
      d.trans[l] = { held := d.trans[l].held, owner := none, countdown := 0, delayPasses := 250, periodPasses := 50 } ∧
      d.trans[l].held[p] = none ∧ d.keymaps.lanes[l] = { active := none, pendingImg := none, switchTimer := none } ∧
      d.tlu.generators[l] =
        { playing := none, phase := .sounding, phaseTimer := none, cycles := 0, phaseUs := 0 } ∧
      d.tlu.lamps[l] = { overrideMode := none, staged := none }) ∧
    (d.scanner = { laneInPass := none, passLeft := 0, passColumns := 0, passDwell := 0, lastServed := 15, dwell := 12
                   lanes := d.scanner.lanes }) ∧
    (∀ (m : Fin 8) (e : Fin 512), d.keymaps.images[m].state = .empty ∧
      d.keymaps.images[m].entries[e] =
        { code := 0, role := .none, repeats := false, tender := false, supervisor := false, silent := false,
          wake := false } ∧ d.keymaps.verify = none) ∧
    (∀ n : Fin 32,
      let free : Buffer := { state := .free, chars := [], received := 0 }
      let zero : RulePlace :=
        { rule := { valid := false, action := .accept, check := .none, laneMask := 0, leadLen := 0
                    lead := Vector.replicate 3 0, minLen := 0, maxLen := 0, strip := 0, typeCode := 0 }
          hits := 0 }
      let sense := if i.senseOpen.getLsbD n.val then Position.opened else .closed
      d.ports[n] =
        { state := .disabled, bufX := free, bufY := free, current := some .x, markDamaged := false
          markOverlength := false, markOverrun := false, badCount := 0, overrun := false, idleTimer := none
          bitRate := .b9600, terminator := some 13, idleGap := 20, enable := false, charRate := none, cRecords := 0
          cDamaged := 0, cOverlength := 0, cOverrun := 0, cDiscarded := 0 } ∧
      d.rules.active[n] = zero ∧ d.rules.shadow[n] = zero ∧
      d.drawers.drawers[n] =
        { present := n.val % 2 == 0, pulseWidth := 60, confirmTime := 50, openLimit := 60, senseInput := sense
          candidate := sense, stability := if n.val % 2 = 0 then some 10 else none, position := .closed
          settled := false, kick := .idle, openedInPulse := false, unitHeld := none, kickTimer := none, openTime := 0
          limitTimer := none, limitSubMs := 0, limitsPassed := 0, openCount := 0 }) ∧
    (∀ (r : Fin 512) (q : Fin 17), d.pool.slots[r] = none ∧
      d.pool.lanes[q] = { queue := [], seq := 0, lossCount := 0, gap := false, waiting := false, waitTimer := none
                          lastSet := none }) ∧
    d.pool = { d.pool with freeList := List.finRange 512, lowWater := 512, lastServed := 16, reserve := 16, limit := 100
                           unwanted := 0 } ∧
    (∀ (e : Fin 64) (c : Fin 8),
      d.delivery.table[e] = { valid := false, laneMask := 0, classMask := 0, kind := none, consumers := 0, urgent := false
                              blocked := false } ∧
      d.delivery.consumers[c] =
        { state := if c = 0 then .active else .inactive, credit := 0, depth := 64, urgentQ := [], routineQ := []
          lossFlag := false, drops := 0, stallTimer := none } ∧
      d.drawers.units[c] = { state := .available, timer := none }) ∧
    d.delivery = { d.delivery with policy := .default, defaultSet := 1, stallInterval := 20, stallRobust := 2
                                   lastServed := 7, walk := none } ∧
    d.drawers = { d.drawers with supplyLimit := 2, pendingLimit := none, supplyGap := 10, waitList := []
                                 inhibit := false, monitor := true, supplyHigh := i.supplyHigh } ∧
    (d.tlu.tones[(0 : Fin 8)] = { divider := 200, onTime := 6, offTime := 0, repeats := 1, level := 1 } ∧
      d.tlu.tones[(1 : Fin 8)] = { divider := 1000, onTime := 15, offTime := 10, repeats := 3, level := 2 } ∧
      d.tlu.tones[(7 : Fin 8)] = { divider := 500, onTime := 20, offTime := 80, repeats := 2, level := 3 } ∧
      (∀ c : Fin 8, 2 ≤ c.val → c.val ≤ 6 →
        d.tlu.tones[c] = { divider := 200, onTime := 6, offTime := 0, repeats := 1, level := 0 }) ∧
      d.tlu.flash = 0) ∧
    d.trunk =
      { bitRate := if i.strapB then (if i.strapA then .k2000 else .k1000) else if i.strapA then .k500 else .k250
        receiver := .waitIdle, waitFresh := true, frame := [], requests := [], replies := [], inProgress := none
        takingClosed := false, transmitter := .free, clock := 0, cause := cause, checkErrors := 0, malformed := 0
        wrongDirection := 0, busyRefusals := 0, dropped := 0, ignoredCredits := 0 } ∧
    d.inReset = false ∧ d.usPhase = 0

/-- R195: the three device resets and their causes, with a supply line that reads high. DEVICE-STARTED stands on
lane 16 with the cause; all else is at its reset values. While the reset input is low every output is off.

R162, R195: a supply line that reads low at its first reading sets the inhibit, and SUPPLY-FAULT with both counts 0
follows DEVICE-STARTED on lane 16. -/
def Obligations.ResetsAndStartUp : Prop :=
  (∀ (s : State) (i : Inputs), i.supplyHigh = true →
    (s.dev.inReset = false → exec (.powerOn i) s = .next { s with dev := startedUp .powerOn i }) ∧
    (s.dev.inReset = true → exec (.resetPinRise i) s = .next { s with dev := startedUp .pin i }) ∧
    (∀ tag, s.dev.inReset = false →
      s.dev.trunk.transmitter = .sending (.reply { tag := tag, request := 0x62, code := .done, fields := [] }) →
      exec (.transmitFrameEnd i) s = .next { s with dev := startedUp .trunk i }) ∧
    (s.dev.inReset = false → ∃ t, exec .resetPinLow s = .next t ∧ t.pending = s.pending ∧ t.dev.inReset = true ∧
      t.dev.trunkLine = [] ∧
      (∀ n : Fin 32, t.dev.kickOutput n = false ∧ t.dev.readyLine n = false) ∧
      (∀ l : Fin 16, t.dev.buzzer l = false ∧ t.dev.lamp l = false))) ∧
  (∀ (s : State) (i : Inputs), i.supplyHigh = false → s.dev.inReset = false →
    ∃ t, exec (.powerOn i) s = .next t ∧ t.dev.drawers.inhibit = true ∧
      (t.dev.pool.lanes[deviceQueue].queue.map fun e => (e.ev.kind, e.ev.seq, e.ev.detail1, e.ev.detail2)) =
        [(.deviceStarted, 0, 1, 0), (.supplyFault, 1, 0, 0)] ∧
      (∀ l : Fin 16, t.dev.pool.lanes[laneQueue l].queue = []))

/-! ## Lanes -/

/-- R3: OPEN-LANE on a CLOSED lane. Without an active image it is refused; with one the lane is OPEN, the keyboard
starts afresh with a due point at once, watch timer and wake monitor stop, each port follows its enable, and LANE-STATE
OPEN, REQUEST is queued.

R2: OPEN-LANE on an OPEN lane is answered DONE and changes nothing; a transition from a state that is not its
starting state is refused REFUSED-STATE and changes nothing. -/
def Obligations.OpenLane : Prop :=
  (∀ (s : State) (l : Fin 16) (tag : Byte), Waits s (request tag 0x01 [num l]) → s.dev.lanes[l].state = .closed →
    (s.dev.keymaps.lanes[l].active = none →
      exec .openLane s = .next (onlyAnswered s (request tag 0x01 [num l]) .refusedNoKeymap [])) ∧
    (s.dev.keymaps.lanes[l].active.isSome → room s.dev (laneQueue l) 1 →
      ∃ t, exec .openLane s = .next t ∧ t.pending = s.pending ∧
        (∀ n : Fin 32, laneOf n = l → s.dev.ports[n].enable = true →
          t.dev.ports[n] = { s.dev.ports[n] with state := .active }) ∧
        (∀ n : Fin 32, laneOf n = l → s.dev.ports[n].enable = false → s.dev.ports[n].state ≠ .active →
          t.dev.ports[n] = s.dev.ports[n]) ∧
        (∀ n : Fin 32, laneOf n ≠ l → t.dev.ports[n] = s.dev.ports[n]) ∧
        t.dev = { s.dev with
          lanes := s.dev.lanes.set l
            { s.dev.lanes[l] with state := .opened, watchTimer := none, wakeMonitor := false, wakeRef := none,
                                  wakeHoldOff := 0, wakeDue := false }
          scanner := { s.dev.scanner with
            lanes := s.dev.scanner.lanes.set l
              { s.dev.scanner.lanes[l] with
                waiting := true, dueTimer := some (s.dev.lanes[l].active.scanPeriod * 250),
                integ := Vector.replicate 128 0, keys := Vector.replicate 128 .released } }
          ports := t.dev.ports, pool := queued s.dev (laneQueue l) .laneState none 1 0
          tlu := lampIn s.dev.tlu l .opened
          trunk := answered s.dev.trunk (request tag 0x01 [num l]) .done [] })) ∧
  (∀ (s : State) (l : Fin 16) (tag force : Byte),
    (Waits s (request tag 0x01 [num l]) → s.dev.lanes[l].state = .opened →
      exec .openLane s = .next (onlyAnswered s (request tag 0x01 [num l]) .done [])) ∧
    (Waits s (request tag 0x01 [num l]) → s.dev.lanes[l].state = .suspended ∨ s.dev.lanes[l].state = .faulted →
      exec .openLane s = .next (onlyAnswered s (request tag 0x01 [num l]) .refusedState [])) ∧
    (Waits s (request tag 0x02 [num l, force]) → force.toNat ≤ 1 → s.dev.lanes[l].state = .closed →
      exec .closeLane s = .next (onlyAnswered s (request tag 0x02 [num l, force]) .refusedState [])) ∧
    (Waits s (request tag 0x03 [num l]) → s.dev.lanes[l].state ≠ .opened →
      exec .suspendLane s = .next (onlyAnswered s (request tag 0x03 [num l]) .refusedState [])) ∧
    (Waits s (request tag 0x04 [num l]) → s.dev.lanes[l].state ≠ .suspended →
      exec .resumeLane s = .next (onlyAnswered s (request tag 0x04 [num l]) .refusedState [])))

/-- R4, R5: SUSPEND-LANE on an OPEN lane and RESUME-LANE on a SUSPENDED one. The scanner, the key translator and the
keymaps are not touched; SUSPEND closes the tender window; the ports follow; LANE-STATE is queued. -/
def Obligations.SuspendAndResume : Prop :=
  ∀ (s : State) (l : Fin 16) (tag : Byte), room s.dev (laneQueue l) 1 →
    (Waits s (request tag 0x03 [num l]) → s.dev.lanes[l].state = .opened →
      ∃ t, exec .suspendLane s = .next t ∧ t.pending = s.pending ∧
        (∀ n : Fin 32, t.dev.ports[n] = portLeft s.dev l n) ∧
        t.dev = { s.dev with
          lanes := s.dev.lanes.set l
            { s.dev.lanes[l] with state := .suspended, windowOpen := false, tenderTimer := 0 }
          ports := t.dev.ports, pool := queued s.dev (laneQueue l) .laneState none 2 0
          tlu := lampIn s.dev.tlu l .suspended
          trunk := answered s.dev.trunk (request tag 0x03 [num l]) .done [] }) ∧
    (Waits s (request tag 0x04 [num l]) → s.dev.lanes[l].state = .suspended →
      ∃ t, exec .resumeLane s = .next t ∧ t.pending = s.pending ∧
        (∀ n : Fin 32, laneOf n = l → s.dev.ports[n].enable = true → t.dev.ports[n].state = .active) ∧
        (∀ n : Fin 32, laneOf n = l → s.dev.ports[n].enable = false → s.dev.ports[n].state ≠ .active →
          t.dev.ports[n] = s.dev.ports[n]) ∧
        (∀ n : Fin 32, laneOf n ≠ l → t.dev.ports[n] = s.dev.ports[n]) ∧
        (∀ n : Fin 32, { t.dev.ports[n] with state := s.dev.ports[n].state } = s.dev.ports[n]) ∧
        t.dev = { s.dev with
          lanes := s.dev.lanes.set l { s.dev.lanes[l] with state := .opened }
          ports := t.dev.ports, pool := queued s.dev (laneQueue l) .laneState none 1 0
          tlu := lampIn s.dev.tlu l .opened
          trunk := answered s.dev.trunk (request tag 0x04 [num l]) .done [] })

/-- R6, R7, R9, R43, R59, R74: CLOSE-LANE. A scanning lane with a present, settled drawer OPEN and no force flag is
refused; otherwise it is CLOSED with its window closed, its keyboard wound down, its pending settings adopted and its
pending image active, and from OPEN its ports stop. Its events are the reported releases of its PRESSED keys, LANE-STATE
CLOSED, REQUEST, and KEYMAP-SWITCHED if an image was pending, in that order. A FAULT lane becomes CLOSED, its watch timer
running on. Nothing else of the part moves. -/
def Obligations.CloseLane : Prop :=
  ∀ (s : State) (l : Fin 16) (tag force : Byte), Waits s (request tag 0x02 [num l, force]) → force.toNat ≤ 1 →
    let d := s.dev
    let r := d.lanes[l]
    let g := r.pendingSet.getD r.active
    let q := laneQueue l
    (r.state.scanning = true → force.toNat = 0 →
      (∃ n : Fin 32, laneOf n = l ∧ d.drawers.drawers[n].present = true ∧
        d.drawers.drawers[n].settled = true ∧ d.drawers.drawers[n].position = .opened) →
      exec .closeLane s = .next (onlyAnswered s (request tag 0x02 [num l, force]) .refusedState [])) ∧
    (r.state.scanning = true →
      (force.toNat = 1 ∨ ∀ n : Fin 32, laneOf n = l → d.drawers.drawers[n].present = true →
        d.drawers.drawers[n].settled = true → d.drawers.drawers[n].position = .closed) →
      ∃ t, exec .closeLane s = .next t ∧ t.pending = s.pending ∧
        (room d q (departing d l 0 0).length → t.dev.pool = queuedAll d q (departing d l 0 0)) ∧
        (∀ m : Fin 17, m ≠ q → t.dev.pool.lanes[m] = d.pool.lanes[m]) ∧
        (∀ n : Fin 32, t.dev.ports[n] = if r.state = .opened then portLeft d l n else d.ports[n]) ∧
        letGo d l (pressedKeys d l) t.dev.trans[l] ∧
        t.dev = { d with
          lanes := d.lanes.set l
            { r with state := .closed, windowOpen := false, tenderTimer := 0, watchTimer := some 8, active := g
                     pendingSet := none, wakeMonitor := g.wake, wakeRef := none, wakeDue := false
                     wakeHoldOff := if g.wake then r.wakeHoldOff else 0 }
          scanner := withdrawn d l
          trans := d.trans.set l
            { d.trans[l] with
              held := t.dev.trans[l].held, owner := none, countdown := 0
              delayPasses := if r.pendingSet.isSome then passes g.typDelay g.scanPeriod else d.trans[l].delayPasses
              periodPasses := if r.pendingSet.isSome then passes g.typPeriod g.scanPeriod else d.trans[l].periodPasses }
          keymaps := switched d l, ports := t.dev.ports, pool := { d.pool with lanes := t.dev.pool.lanes }
          tlu := lampIn d.tlu l .closed
          trunk := answered d.trunk (request tag 0x02 [num l, force]) .done [] }) ∧
    (r.state = .faulted → room d q 1 →
      exec .closeLane s = .next { s with dev := { d with
        lanes := d.lanes.set l
          { r with state := .closed, wakeMonitor := r.active.wake, wakeRef := none, wakeDue := false
                   wakeHoldOff := if r.active.wake then r.wakeHoldOff else 0 }
        pool := queued d q .laneState none 0 0, tlu := lampIn d.tlu l .closed
        trunk := answered d.trunk (request tag 0x02 [num l, force]) .done [] } })

/-- R10, R44, R59, R61, R86, R109, R116, R117, R164, R174, R181: RESET-LANE, from any state. Every entry of the lane's
queue is lost, counted and marked by the gap, and the consumers of a WAITING head's last computed set are flagged; then
the queue holds LANE-STATE CLOSED, RESET, KICK-ABORTED with cause LANE-RESET for each WAITING kick of the lane in the
order of the wait list, and KEYMAP-SWITCHED if an image was pending, with the next sequence numbers. Keyboard, ports,
tone, lamp, tender window and lock candidate are cleared in silence; the accepted lock position, the drawers' positions
and every other kick stand. -/
def Obligations.ResetLane : Prop :=
  ∀ (s : State) (l : Fin 16) (tag : Byte), Waits s (request tag 0x05 [num l]) →
    let d := s.dev
    let r := d.lanes[l]
    let g := r.pendingSet.getD r.active
    let q := laneQueue l
    let n := d.pool.lanes[q]
    let emptied : PendLane :=
      { n with queue := [], waiting := false, waitTimer := none, lastSet := none, gap := n.gap || !n.queue.isEmpty
               lossCount := if n.queue = [] then n.lossCount else min 65535 (n.lossCount + n.queue.length) }
    let aborted := d.drawers.waitList.filter fun k => laneOf k == l
    let told : List Told := (.laneState, none, 0, 2) ::
      (aborted.map fun k => (Kind.kickAborted, drawerSource k, 3, 0)) ++ switchTold d l
    ∃ t, exec .resetLane s = .next t ∧ t.pending = s.pending ∧
      (told.length ≤ 8 →
        t.dev.pool = queuedAll { d with pool := { d.pool with lanes := d.pool.lanes.set q emptied } } q told) ∧
      (∀ m : Fin 17, m ≠ q → t.dev.pool.lanes[m] = d.pool.lanes[m]) ∧
      (∀ c : Fin 8, t.dev.delivery.consumers[c] =
        if n.waiting = true ∧ (n.lastSet.any fun set => set[c] != .out) = true ∧
          d.delivery.consumers[c].state ≠ .inactive
        then missedOne d.delivery.consumers[c] else d.delivery.consumers[c]) ∧
      (∀ k : Fin 32, laneOf k = l → t.dev.ports[k] =
        { d.ports[k] with
          state := .disabled, bufX := freeBuffer, bufY := freeBuffer, current := some .x, markDamaged := false
          markOverlength := false, markOverrun := false, badCount := 0, overrun := false, idleTimer := none }) ∧
      ((∀ e ∈ n.queue, ∀ k b i j, e.body = .buffer k b i j → laneOf k = l) →
        ∀ k : Fin 32, laneOf k ≠ l → t.dev.ports[k] = d.ports[k]) ∧
      (∀ k : Fin 32, t.dev.drawers.drawers[k] =
        if k ∈ aborted then { d.drawers.drawers[k] with kick := .idle } else d.drawers.drawers[k]) ∧
      t.dev = { d with
        lanes := d.lanes.set l
          { r with state := .closed, windowOpen := false, tenderTimer := 0, lockCandidate := none, lockCount := 0
                   watchTimer := some 8, active := g, pendingSet := none, wakeMonitor := g.wake, wakeRef := none
                   wakeHoldOff := 0, wakeDue := false }
        scanner := withdrawn d l
        trans := d.trans.set l
          { d.trans[l] with
            held := Vector.replicate 128 none, owner := none, countdown := 0
            delayPasses := if r.pendingSet.isSome then passes g.typDelay g.scanPeriod else d.trans[l].delayPasses
            periodPasses := if r.pendingSet.isSome then passes g.typPeriod g.scanPeriod else d.trans[l].periodPasses }
        keymaps := switched d l, ports := t.dev.ports, pool := { d.pool with lanes := t.dev.pool.lanes }
        delivery := { d.delivery with consumers := t.dev.delivery.consumers }
        drawers := { d.drawers with
          drawers := t.dev.drawers.drawers, waitList := d.drawers.waitList.filter fun k => laneOf k != l }
        tlu := { d.tlu with
          generators := d.tlu.generators.set l { d.tlu.generators[l] with playing := none, phaseTimer := none }
          lamps := d.tlu.lamps.set l { overrideMode := none, staged := none } }
        trunk := answered d.trunk (request tag 0x05 [num l]) .done [] }

/-- R20, R21, R68: SET-LANE with a set that R196 admits. The clamped set is pending in a scanning lane and is the active
set at once in CLOSED and FAULT, where the wake monitor stops with wake OFF and starts with wake ON in CLOSED if it does
not run (R18); the reply tells whether a value was clamped. -/
def Obligations.SetLane : Prop :=
  ∀ (s : State) (l : Fin 16) (tag : Byte) (fs : List Byte) (g : Settings),
    let d := s.dev
    let r := d.lanes[l]
    let c := g.clamped
    let w := request tag 0x06 (num l :: fs)
    let trunk := answered d.trunk w (if c = g then .done else .doneClamped) []
    let adopted := { r with active := c, pendingSet := none }
    Waits s w → rawSettings fs = some g →
    (r.state.scanning = true → exec .setLane s = .next { s with dev := { d with
      lanes := d.lanes.set l { r with pendingSet := some c }, trunk := trunk } }) ∧
    (r.state.scanning = false → exec .setLane s = .next { s with dev := { d with
      lanes := d.lanes.set l
        (if g.wake = false then
          { adopted with wakeMonitor := false, wakeRef := none, wakeHoldOff := 0, wakeDue := false }
         else if r.state = .closed ∧ r.wakeMonitor = false then
          { adopted with wakeMonitor := true, wakeRef := none, wakeDue := false }
         else adopted)
      trans := d.trans.set l { d.trans[l] with
        delayPasses := passes c.typDelay c.scanPeriod, periodPasses := passes c.typPeriod c.scanPeriod }
      trunk := trunk } })

/-- R12, R13, R14, R16: a watch point restarts the timer at 8 ms and filters one key-lock sample. In CLOSED with the wake
monitor running (R18, R19) it then takes a wake reading, at once if the driver is idle, the sample first
(notes/assumptions/16.md); with a pass in progress the reading is due, and the end of that pass takes it
(notes/assumptions/17.md), as it takes those of all lanes.

R16, R19: the tender timer's expiry closes an open window, silently; the wake hold-off's expiry leaves it at 0. -/
def Obligations.LaneTimers : Prop :=
  (∀ (s : State) (l : Fin 16) (a b : Bool) (rows : Byte), s.dev.inReset = false →
    s.dev.lanes[l].watchTimer.isSome → room s.dev (laneQueue l) 2 →
    let r := s.dev.lanes[l]
    let d := lockSampled { s.dev with lanes := s.dev.lanes.set l { r with watchTimer := some 8 } } l (KeyLock.ofLines a b)
    let goes := fun d' => exec (.watchPoint l a b rows) s = .next { s with dev := d' }
    (r.state ≠ .closed ∨ r.wakeMonitor = false → goes d) ∧
    (r.state = .closed → r.wakeMonitor = true → s.dev.scanner.laneInPass = none → goes (woken d l rows)) ∧
    (r.state = .closed → r.wakeMonitor = true → s.dev.scanner.laneInPass.isSome →
      goes { d with lanes := d.lanes.set l { d.lanes[l] with wakeDue := true } })) ∧
  (∀ (s : State) (p l : Fin 16) (raw wake : BitVec 128) (a b : Bool), s.dev.inReset = false →
    s.dev.scanner.laneInPass = some p → (p ≠ l ∨ s.dev.scanner.lanes[p].discard = true) →
    room s.dev (laneQueue l) 1 →
    let d := woken s.dev l (wake.extractLsb' (8 * l.val) 8)
    let q := laneQueue l
    ∃ t, exec (.passEnd raw a b wake) s = .next t ∧ t.pending = s.pending ∧ t.dev.scanner.laneInPass = none ∧
      (s.dev.lanes[l].wakeDue = true → t.dev.lanes[l] = d.lanes[l] ∧ t.dev.pool.lanes[q] = d.pool.lanes[q]) ∧
      (s.dev.lanes[l].wakeDue = false →
        t.dev.lanes[l] = s.dev.lanes[l] ∧ t.dev.pool.lanes[q] = s.dev.pool.lanes[q])) ∧
  (∀ (s : State) (l : Fin 16), s.dev.inReset = false →
    (s.dev.lanes[l].windowOpen = true →
      exec (.tenderTimerExpiry l) s = .next { s with dev := { s.dev with
        lanes := s.dev.lanes.set l { s.dev.lanes[l] with windowOpen := false, tenderTimer := 0 } } }) ∧
    (s.dev.lanes[l].windowOpen = false → exec (.tenderTimerExpiry l) s = .next s) ∧
    exec (.wakeHoldOffExpiry l) s = .next { s with dev := { s.dev with
      lanes := s.dev.lanes.set l { s.dev.lanes[l] with wakeHoldOff := 0 } } })

/-! ## The matrix scanner and the key translator -/

/-- R25, R26, R28, R8: a due point makes the lane's pass waiting; a pass still waiting is missed and counted; under miss
policy FAULT a missed pass takes a scanning lane to FAULT, with the events and the ports' stop of CLOSE-LANE (R7, R59,
R74) and LANE-STATE FAULT, MISS-FAULT. The due timer is loaded again with Ts × 250 µs.

R21, R27, R29, R30, R31: the arbiter starts the waiting pass of the first lane after the last served. Pending
settings are adopted; integrators above the new D come down to it, and the PRESSED keys above the new N, highest first,
are released and LATCHED. With no lane waiting, or a pass in progress, nothing happens. -/
def Obligations.DueAndPassStart : Prop :=
  (∀ (s : State) (l : Fin 16), s.dev.inReset = false → s.dev.scanner.lanes[l].dueTimer.isSome →
    let d := s.dev
    let m := d.scanner.lanes[l]
    let r := d.lanes[l]
    let g := r.pendingSet.getD r.active
    let q := laneQueue l
    (m.waiting = false → exec (.duePoint l) s = .next
      (withScan s l { m with waiting := true, dueTimer := some (r.active.scanPeriod * 250) })) ∧
    (m.waiting = true → r.active.missPolicy = .hold → exec (.duePoint l) s = .next
      (withScan s l { m with missCount := min 65535 (m.missCount + 1)
                             dueTimer := some (r.active.scanPeriod * 250) })) ∧
    (m.waiting = true → r.active.missPolicy = .fault → r.state.scanning = true →
      let left := { r with state := .faulted, windowOpen := false, tenderTimer := 0, watchTimer := some 8, active := g
                           pendingSet := none }
      ∃ t, exec (.duePoint l) s = .next t ∧ t.pending = s.pending ∧
        (room d q (departing d l 3 1).length → t.dev.pool = queuedAll d q (departing d l 3 1)) ∧
        (∀ k : Fin 17, k ≠ q → t.dev.pool.lanes[k] = d.pool.lanes[k]) ∧
        (∀ n : Fin 32, t.dev.ports[n] = if r.state = .opened then portLeft d l n else d.ports[n]) ∧
        letGo d l (pressedKeys d l) t.dev.trans[l] ∧
        t.dev.scanner.lanes[l] = { (withdrawn d l).lanes[l] with missCount := min 65535 (m.missCount + 1) } ∧
        t.dev = { d with
          lanes := d.lanes.set l
            (if r.pendingSet.isSome ∧ g.wake = false then
              { left with wakeMonitor := false, wakeRef := none, wakeHoldOff := 0, wakeDue := false } else left)
          scanner := { d.scanner with lanes := d.scanner.lanes.set l t.dev.scanner.lanes[l] }
          trans := d.trans.set l
            { d.trans[l] with
              held := t.dev.trans[l].held, owner := none, countdown := 0
              delayPasses := if r.pendingSet.isSome then passes g.typDelay g.scanPeriod else d.trans[l].delayPasses
              periodPasses := if r.pendingSet.isSome then passes g.typPeriod g.scanPeriod else d.trans[l].periodPasses }
          keymaps := switched d l, ports := t.dev.ports, pool := { d.pool with lanes := t.dev.pool.lanes }
          tlu := lampIn d.tlu l .faulted })) ∧
  (∀ (s : State), s.dev.inReset = false →
    ((∀ l : Fin 16, s.dev.scanner.lanes[l].waiting = false) → exec .passStart s = .next s) ∧
    (s.dev.scanner.laneInPass.isSome → exec .passStart s = .next s) ∧
    (∀ l : Fin 16, s.dev.scanner.laneInPass = none → s.dev.scanner.lanes[l].waiting = true →
      (∀ m : Fin 16, s.dev.scanner.lanes[m].waiting = true →
        distance 16 s.dev.scanner.lastServed l ≤ distance 16 s.dev.scanner.lastServed m) →
      let d := s.dev
      let g := d.lanes[l].pendingSet.getD d.lanes[l].active
      let above := (pressedKeys d l).reverse.take ((pressedKeys d l).length - g.rollover)
      ∃ t, exec .passStart s = .next t ∧ t.pending = s.pending ∧
        t.dev.scanner = { d.scanner with
          laneInPass := some l, lastServed := l, passLeft := g.columns * d.scanner.dwell, passColumns := g.columns
          passDwell := d.scanner.dwell
          lanes := d.scanner.lanes.set l
            { d.scanner.lanes[l] with
              waiting := false, discard := false, integ := t.dev.scanner.lanes[l].integ
              keys := t.dev.scanner.lanes[l].keys } } ∧
        t.dev.lanes[l].active = g ∧ t.dev.lanes[l].pendingSet = none ∧
        (d.lanes[l].pendingSet.isSome →
          (∀ p : Fin 128, t.dev.scanner.lanes[l].integ[p] = min g.debounce d.scanner.lanes[l].integ[p] ∧
            t.dev.scanner.lanes[l].keys[p] = if p ∈ above then .latched else d.scanner.lanes[l].keys[p]) ∧
          t.dev.scanner.lanes[l].countKeys .pressed = min (d.scanner.lanes[l].countKeys .pressed) g.rollover ∧
          letGo d l above t.dev.trans[l] ∧
          (room d (laneQueue l) (releasesOf d l above).length →
            t.dev.pool = queuedAll d (laneQueue l) (releasesOf d l above))) ∧
        (d.lanes[l].pendingSet = none → t.dev.lanes = d.lanes ∧ t.dev.trans = d.trans ∧ t.dev.pool = d.pool ∧
          t.dev.scanner.lanes[l].keys = d.scanner.lanes[l].keys ∧
          t.dev.scanner.lanes[l].integ = d.scanner.lanes[l].integ) ∧
        (∀ m : Fin 16, m ≠ l → t.dev.lanes[m] = d.lanes[m] ∧ t.dev.trans[m] = d.trans[m] ∧
          t.dev.pool.lanes[laneQueue m] = d.pool.lanes[laneQueue m]) ∧
        t.dev = { d with lanes := t.dev.lanes, scanner := t.dev.scanner, trans := t.dev.trans, pool := t.dev.pool }))

/-- R32 to R36: at the end of a pass without a discard mark every integrator moves by the sample and the ghost check;
with the mark nothing of the lane's keyboard moves and the mark is cleared. Either way the driver is free, and a waiting
pass starts with a PASS_START of its own (notes/assumptions/7.md). -/
def Obligations.PassEndIntegrators : Prop :=
  ∀ (s : State) (l : Fin 16) (raw wake : BitVec 128) (a b : Bool), s.dev.inReset = false →
    s.dev.scanner.laneInPass = some l →
    let g := s.dev.lanes[l].active
    ∃ t, exec (.passEnd raw a b wake) s = .next t ∧ t.pending = s.pending ∧ t.dev.scanner.laneInPass = none ∧
      t.dev.scanner.lanes[l].discard = false ∧ t.dev.scanner.lanes[l].waiting = s.dev.scanner.lanes[l].waiting ∧
      t.dev.scanner.lanes[l].dueTimer = s.dev.scanner.lanes[l].dueTimer ∧
      t.dev.scanner.lanes[l].missCount = s.dev.scanner.lanes[l].missCount ∧
      t.dev.scanner.lastServed = s.dev.scanner.lastServed ∧ t.dev.scanner.dwell = s.dev.scanner.dwell ∧
      (s.dev.scanner.lanes[l].discard = true →
        t.dev.scanner.lanes[l].keys = s.dev.scanner.lanes[l].keys ∧
        t.dev.scanner.lanes[l].integ = s.dev.scanner.lanes[l].integ ∧ t.dev.trans = s.dev.trans ∧
        t.dev.keymaps = s.dev.keymaps ∧ t.dev.drawers = s.dev.drawers) ∧
      (s.dev.scanner.lanes[l].discard = false → ∀ (r : Fin 8) (c : Fin 16) (p : Fin 128),
        p.val = r.val * 16 + c.val →
        (ghostAt g raw r c → t.dev.scanner.lanes[l].integ[p] = s.dev.scanner.lanes[l].integ[p]) ∧
        (closedAt g raw r c → ¬ ghostAt g raw r c →
          t.dev.scanner.lanes[l].integ[p] = min g.debounce (s.dev.scanner.lanes[l].integ[p] + 1)) ∧
        (¬ closedAt g raw r c → t.dev.scanner.lanes[l].integ[p] = s.dev.scanner.lanes[l].integ[p] - 1)) ∧
      (∀ m : Fin 16, m ≠ l → t.dev.scanner.lanes[m] = s.dev.scanner.lanes[m] ∧ t.dev.trans[m] = s.dev.trans[m]) ∧
      t.dev = { s.dev with
        lanes := t.dev.lanes, scanner := t.dev.scanner, trans := t.dev.trans, keymaps := t.dev.keymaps
        pool := { s.dev.pool with lanes := t.dev.pool.lanes }, drawers := t.dev.drawers }

/-- R37 to R40: the key states after a pass, by the integrators after it, for a threshold D of at least 1. A key is
released at 0, a BLOCKED key below D; a dead position is never pressed; a candidate is PRESSED or BLOCKED, BLOCKED only
when N keys are PRESSED; and the count of PRESSED keys stays within N.

R14, R32, R41: the key lock is sampled before the pass's transitions are translated, so they meet the new position.
Releases are translated first, in ascending position, then presses: the promoted BLOCKED keys, LATE, then the others,
each group in ascending position. R57, R70: then the repeat countdown of an owner not pressed in the pass moves, and a
pass that leaves no key PRESSED or BLOCKED makes a pending image active. With no wake reading due, that is all that the
pass end does besides the scanner's part. -/
def Obligations.PassEndKeyStates : Prop :=
  ∀ (s t : State) (l : Fin 16) (raw wake : BitVec 128) (a b : Bool), s.dev.inReset = false →
    s.dev.scanner.laneInPass = some l → s.dev.scanner.lanes[l].discard = false →
    1 ≤ s.dev.lanes[l].active.debounce →
    s.dev.scanner.lanes[l].countKeys .pressed ≤ s.dev.lanes[l].active.rollover →
    exec (.passEnd raw a b wake) s = .next t →
    let D := s.dev.lanes[l].active.debounce
    let N := s.dev.lanes[l].active.rollover
    let old := s.dev.scanner.lanes[l]
    let new := t.dev.scanner.lanes[l]
    let q := laneQueue l
    (∀ p : Fin 128,
      (old.keys[p] = .pressed → new.keys[p] = if new.integ[p] = 0 then .released else .pressed) ∧
      (old.keys[p] = .latched → new.keys[p] = if new.integ[p] = 0 then .released else .latched) ∧
      (old.keys[p] = .blocked → new.integ[p] < D → new.keys[p] = .released) ∧
      (old.keys[p] = .blocked → new.integ[p] = D → new.keys[p] = .pressed ∨ new.keys[p] = .blocked) ∧
      (old.keys[p] = .released → (new.integ[p] ≠ D ∨ s.dev.dead l p = true) → new.keys[p] = .released) ∧
      (old.keys[p] = .released → new.integ[p] = D → s.dev.dead l p = false →
        new.keys[p] = .pressed ∨ new.keys[p] = .blocked)) ∧
    new.countKeys .pressed ≤ N ∧
    ((∃ p : Fin 128, new.keys[p] = .blocked ∧ new.integ[p] = D) → new.countKeys .pressed = N) ∧
    (∃ presses : List (Fin 128 × Bool),
      (∀ (p : Fin 128) (late : Bool), (p, late) ∈ presses ↔
        old.keys[p] ≠ .pressed ∧ new.keys[p] = .pressed ∧ late = (old.keys[p] == .blocked)) ∧
      presses.Pairwise (fun x y => (x.2 = true ∧ y.2 = false) ∨ (x.2 = y.2 ∧ x.1 < y.1)) ∧
      (let releases := (pressedKeys s.dev l).filter fun p => new.keys[p] == .released
       let sampled := lockSampled { s.dev with scanner := { s.dev.scanner with
         lanes := s.dev.scanner.lanes.set l { old with keys := new.keys, integ := new.integ } } } l (KeyLock.ofLines a b)
       let translated := presses.foldl (fun d x => d.translatePress l x.1 x.2)
         (releases.foldl (fun d p => d.translateRelease l p) sampled)
       let d := quietlySwitched (repeatCounted translated l presses) l
       room s.dev q 1 → room translated q 2 →
       t.dev.trans = d.trans ∧ t.dev.keymaps = d.keymaps ∧ t.dev.drawers = d.drawers ∧
       (s.dev.lanes[l].wakeDue = false → t.dev.lanes[l] = d.lanes[l] ∧ t.dev.pool.lanes[q] = d.pool.lanes[q]) ∧
       ((∀ m : Fin 16, s.dev.lanes[m].wakeDue = false) → t.dev = { d with scanner := t.dev.scanner })))

/-- R15, R62 to R65, R67: the fate of a press and its event. The layer is the one the held modifiers select; the tests are made
in the order of R63 in OPEN, and without the LOCKED test but with the WAKE test in SUSPENDED. KEY-PRESS or KEY-REFUSED is
queued for a fate of REPORTED or REFUSED, and nothing for another. A REPORTED press of a TENDER key in OPEN opens the
window (R15), and its auto-kick, if the lane has one and the drawer may be kicked, then waits, for a KICK_GRANT of its own
(notes/assumptions/7.md), and consumes the window unless the lock is at SUPV or above (R67, R152). A REPORTED press with
REPEAT becomes the repeat owner, its countdown at Nd (R69).

R66: a release gives KEY-RELEASE with the layer and code of the held record if its fate is REPORTED, nothing for
another; the record is deleted, and an owner released is an owner no more. -/
def Obligations.PressAndRelease : Prop :=
  (∀ (d : Device) (l : Fin 16) (p : Fin 128) (late : Bool) (i : Fin 8) (layer : Fin 4) (ix ix0 : Fin 512),
    d.keymaps.lanes[l].active = some i → layer.val = layerOf d.trans[l] → ix.val = layer.val * 128 + p.val →
    ix0.val = p.val → room d (laneQueue l) 1 → d.lanes[l].state.scanning = true →
    let e := d.keymaps.images[i].entries[ix]
    let lock := d.lanes[l].keyLock
    let d' := d.translatePress l p late
    ∃ h : Held, d'.trans[l].held[p] = some h ∧ h.layer = layer ∧ h.code = e.code ∧
      h.role = d.keymaps.images[i].entries[ix0].role ∧ h.repeats = e.repeats ∧ h.wake = e.wake ∧
      (d.lanes[l].state = .opened → lock = .locked → h.fate = .suppressed) ∧
      (d.lanes[l].state = .suspended → e.wake = false → h.fate = .suppressed) ∧
      ((d.lanes[l].state = .opened ∧ lock ≠ .locked) ∨ (d.lanes[l].state = .suspended ∧ e.wake = true) →
        (e.silent = true ∨ e.code = 0 → h.fate = .muted) ∧
        (e.silent = false → e.code ≠ 0 → e.supervisor = true → lock = .locked ∨ lock = .reg → h.fate = .refused) ∧
        (e.silent = false → e.code ≠ 0 → (e.supervisor = false ∨ lock = .supv ∨ lock = .mgr) →
          h.fate = .reported)) ∧
      (h.fate = .suppressed ∨ h.fate = .muted → d'.pool = d.pool) ∧
      (let pool := appended d.pool (laneQueue l)
          { ev := { lane := laneQueue l, seq := d.pool.lanes[laneQueue l].seq
                    kind := if h.fate = .refused then .keyRefused else .keyPress
                    afterLoss := false, overrun := false, late := late, forced := false, time := d.trunk.clock
                    source := some (num p.val), detail1 := num (e.code.toNat % 256)
                    detail2 := num (e.code.toNat / 256 + 16 * layer.val + 64 * lock.code) }
            body := .absent }
       let tender := h.fate = .reported ∧ e.tender = true ∧ d.lanes[l].state = .opened
       (h.fate = .refused ∨ h.fate = .reported → ¬ tender → d'.pool = pool ∧ d'.lanes = d.lanes) ∧
       (tender → d.lanes[l].active.autoKick = none → d'.pool = pool ∧ d'.drawers = d.drawers ∧
         d'.lanes = d.lanes.set l { d.lanes[l] with windowOpen := true
                                                    tenderTimer := d.lanes[l].active.tenderWindow * 1000 }) ∧
       (∀ (side : Fin 2) (n : Fin 32), tender → d.lanes[l].active.autoKick = some side → n.val = 2 * l.val + side.val →
         d.drawers.drawers[n].present = true → d.drawers.drawers[n].settled = true →
         d.drawers.drawers[n].kick = .idle → d.drawers.drawers[n].position = .closed → d.drawers.inhibit = false →
         d'.pool = pool ∧ d'.drawers.drawers[n].kick = .waiting ∧ d'.drawers.waitList = d.drawers.waitList ++ [n] ∧
         d'.lanes[l].windowOpen = (lock != .reg))) ∧
      (h.fate = .reported → e.repeats = true →
        d'.trans[l].owner = some p ∧ d'.trans[l].countdown = d.trans[l].delayPasses) ∧
      (h.fate ≠ .reported ∨ e.repeats = false →
        d'.trans[l].owner = d.trans[l].owner ∧ d'.trans[l].countdown = d.trans[l].countdown) ∧
      (∀ q : Fin 128, q ≠ p → d'.trans[l].held[q] = d.trans[l].held[q])) ∧
  (∀ (d : Device) (l : Fin 16) (p : Fin 128) (h : Held), d.trans[l].held[p] = some h → room d (laneQueue l) 1 →
    let d' := d.translateRelease l p
    d'.trans[l].held[p] = none ∧ (∀ q : Fin 128, q ≠ p → d'.trans[l].held[q] = d.trans[l].held[q]) ∧
    (d.trans[l].owner = some p → d'.trans[l].owner = none ∧ d'.trans[l].countdown = 0) ∧
    (d.trans[l].owner ≠ some p → d'.trans[l].owner = d.trans[l].owner) ∧
    (h.fate ≠ .reported → d'.pool = d.pool) ∧
    (h.fate = .reported → d'.pool = queued d (laneQueue l) .keyRelease (some (num p.val)) (h.code.toNat % 256)
      (h.code.toNat / 256 + 16 * h.layer.val + 64 * d.lanes[l].keyLock.code)))

/-! ## Keymaps -/

/-- R51, R54: WRITE-KEYMAP stores its entries in order and makes the image OPEN; ERASE-KEYMAP zeroes it and makes it
EMPTY; both are refused REFUSED-IN-USE, with nothing changed, while the image is active or pending for a lane. -/
def Obligations.WriteAndEraseKeymap : Prop :=
  ∀ (s : State) (tag lo hi n : Byte) (i : Fin 8) (rest : List Byte) (es : List KeyEntry),
    let used := ∃ l : Fin 16, s.dev.keymaps.lanes[l].active = some i ∨ s.dev.keymaps.lanes[l].pendingImg = some i
    let first := lo.toNat + 256 * hi.toNat
    let w := request tag 0x18 (num i :: lo :: hi :: n :: rest)
    let e := request tag 0x1B [num i]
    (Waits s w → inKeyEntries rest = some es → es.length = n.toNat → 1 ≤ n.toNat → n.toNat ≤ 16 →
      first + n.toNat ≤ 512 →
      (used → exec .writeKeymap s = .next (onlyAnswered s w .refusedInUse [])) ∧
      (¬ used → ∃ t, exec .writeKeymap s = .next t ∧ t.pending = s.pending ∧
        t.dev.keymaps.images[i].state = .opened ∧
        (∀ j : Fin 512, some t.dev.keymaps.images[i].entries[j] =
          if first ≤ j.val ∧ j.val < first + n.toNat then es[j.val - first]?
          else some s.dev.keymaps.images[i].entries[j]) ∧
        (∀ k : Fin 8, k ≠ i → t.dev.keymaps.images[k] = s.dev.keymaps.images[k]) ∧
        t.dev.keymaps.lanes = s.dev.keymaps.lanes ∧
        t.dev = { s.dev with keymaps := t.dev.keymaps, trunk := answered s.dev.trunk w .done [] })) ∧
    (Waits s e →
      (used → exec .eraseKeymap s = .next (onlyAnswered s e .refusedInUse [])) ∧
      (¬ used → exec .eraseKeymap s = .next { s with dev := { s.dev with
        keymaps := { s.dev.keymaps with
          images := s.dev.keymaps.images.set i
            { entries := Vector.replicate 512 { code := 0, role := .none, repeats := false, tender := false,
                                                supervisor := false, silent := false, wake := false }
              state := .empty } }
        trunk := answered s.dev.trunk e .done [] } }))

/-- R53: VERIFY-KEYMAP is refused on an EMPTY image and otherwise begins its walk with no reply yet. At the walk's end the
reply carries the sum of the image's 1536 bytes modulo 65536; if it is the check word the image is READY, and otherwise
the answer is REFUSED-CHECK and the image is as it was. -/
def Obligations.VerifyKeymap : Prop :=
  ∀ (s : State) (tag lo hi : Byte) (i : Fin 8),
    let r := request tag 0x1A [num i, lo, hi]
    let image := s.dev.keymaps.images[i]
    let sum := ((image.entries.toList.flatMap outKeyEntry).map BitVec.toNat).sum % 65536
    (Waits s r → image.state = .empty → exec .verifyKeymap s = .next (onlyAnswered s r .refusedState [])) ∧
    (Waits s r → image.state ≠ .empty → exec .verifyKeymap s = .next { s with dev := { s.dev with
      keymaps := { s.dev.keymaps with verify := some { image := i, checkWord := lo.toNat + 256 * hi.toNat } }
      trunk := started s.dev.trunk r } }) ∧
    (∀ word : Nat, s.dev.inReset = false → s.dev.keymaps.verify = some { image := i, checkWord := word } →
      s.dev.trunk.inProgress = some r → image.state ≠ .empty →
      ∃ t, exec .verifyWalkEnd s = .next t ∧ t.pending = s.pending ∧ t.dev.keymaps.verify = none ∧
        t.dev.keymaps.images = s.dev.keymaps.images.set i
          { image with state := if sum = word then .ready else image.state } ∧
        t.dev.keymaps.lanes = s.dev.keymaps.lanes ∧
        t.dev.trunk = { s.dev.trunk with
          inProgress := none
          replies := s.dev.trunk.replies ++ [{ tag := tag, request := 0x1A
                                               code := if sum = word then .done else .refusedCheck
                                               fields := [num sum, num (sum / 256)] }] } ∧
        t.dev = { s.dev with keymaps := t.dev.keymaps, trunk := t.dev.trunk })

/-- R55, R56, R60: ASSIGN-KEYMAP of an image that is not READY is refused; of the active image it cancels a pending one;
to a lane that is not scanning, or has no active image, it is active at once with KEYMAP-SWITCHED; to a scanning lane it
is pending and the switch timer is loaded.

R58, R66: at the switch timer's expiry every PRESSED key is released, in ascending position, with KEY-RELEASE if it was
reported; every PRESSED and every BLOCKED key is LATCHED with its integrator unchanged; the pending image is active, and
KEYMAP-SWITCHED with the forced flag is queued after the releases. -/
def Obligations.KeymapSwitches : Prop :=
  (∀ (s : State) (tag : Byte) (l : Fin 16) (i : Fin 8), Waits s (request tag 0x1C [num l, num i]) →
    let r := request tag 0x1C [num l, num i]
    let m := s.dev.keymaps.lanes[l]
    (s.dev.keymaps.images[i].state ≠ .ready →
      exec .assignKeymap s = .next (onlyAnswered s r .refusedNotReady [])) ∧
    (s.dev.keymaps.images[i].state = .ready → m.active = some i →
      exec .assignKeymap s = .next { s with dev := { s.dev with
        keymaps := { s.dev.keymaps with
          lanes := s.dev.keymaps.lanes.set l { m with pendingImg := none, switchTimer := none } }
        trunk := answered s.dev.trunk r .done [] } }) ∧
    (s.dev.keymaps.images[i].state = .ready → m.active ≠ some i →
      (m.active = none ∨ s.dev.lanes[l].state.scanning = false) → room s.dev (laneQueue l) 1 →
      exec .assignKeymap s = .next { s with dev := { s.dev with
        keymaps := { s.dev.keymaps with
          lanes := s.dev.keymaps.lanes.set l { active := some i, pendingImg := none, switchTimer := none } }
        pool := queued s.dev (laneQueue l) .keymapSwitched none i 0
        trunk := answered s.dev.trunk r .done [] } }) ∧
    (s.dev.keymaps.images[i].state = .ready → m.active ≠ some i → m.active ≠ none →
      s.dev.lanes[l].state.scanning = true →
      exec .assignKeymap s = .next { s with dev := { s.dev with
        keymaps := { s.dev.keymaps with
          lanes := s.dev.keymaps.lanes.set l { m with
            pendingImg := some i, switchTimer := some (s.dev.lanes[l].active.switchTimeout * 1000) } }
        trunk := answered s.dev.trunk r .done [] } })) ∧
  (∀ (s : State) (l : Fin 16) (i : Fin 8), s.dev.inReset = false → s.dev.keymaps.lanes[l].switchTimer.isSome →
    s.dev.keymaps.lanes[l].pendingImg = some i →
    let d := s.dev
    let q := laneQueue l
    let x := d.trans[l]
    let told := releasesOf d l (pressedKeys d l)
    let released := { d with pool := queuedAll d q told }
    let loses := ∃ p : Fin 128, x.owner = some p ∧ p ∈ pressedKeys d l ∧ x.held[p].isSome
    ∃ t, exec (.forcedKeymapSwitch l) s = .next t ∧ t.pending = s.pending ∧
      (∀ p : Fin 128, t.dev.scanner.lanes[l].keys[p] =
        (if d.scanner.lanes[l].keys[p] = .pressed ∨ d.scanner.lanes[l].keys[p] = .blocked then .latched
         else d.scanner.lanes[l].keys[p])) ∧
      letGo d l (pressedKeys d l) t.dev.trans[l] ∧
      (room d q (told.length + 1) →
        let e := entryOf released q .keymapSwitched none i 1 .absent
        t.dev.pool = appended released.pool q { e with ev := { e.ev with forced := true } }) ∧
      (∀ m : Fin 17, m ≠ q → t.dev.pool.lanes[m] = d.pool.lanes[m]) ∧
      t.dev = { d with
        scanner := { d.scanner with
          lanes := d.scanner.lanes.set l { d.scanner.lanes[l] with keys := t.dev.scanner.lanes[l].keys } }
        trans := d.trans.set l { x with
          held := t.dev.trans[l].held, owner := if loses then none else x.owner
          countdown := if loses then 0 else x.countdown }
        keymaps := { d.keymaps with
          lanes := d.keymaps.lanes.set l { active := some i, pendingImg := none, switchTimer := none } }
        pool := { d.pool with lanes := t.dev.pool.lanes } })

/-! ## Scanner ports and scan classification -/

/-- R73, R82, R88: SET-PORT writes the five settings, a terminator of 128 to 254 as 127 and an idle gap of 0 as 1, and
applies the enable: ON with the lane OPEN makes the port ACTIVE; otherwise an ACTIVE port stops, at once unless its
current buffer is FILLING; READY is off in both cases. (A terminator code of 0 is taken as 1: notes/assumptions/13.md.) -/
def Obligations.SetPort : Prop :=
  ∀ (s : State) (tag g : Byte) (n : Fin 32) (rate : Fin 5) (term : Option Byte) (tb : Byte) (on : Bool),
    let r := request tag 0x20 [num n, num rate, tb, g, num (if on then 1 else 0)]
    let p := s.dev.ports[n]
    Waits s r →
    term = (if tb = 0xFF then none else if tb.toNat = 0 then some 1 else if 128 ≤ tb.toNat then some 127 else some tb) →
    ∃ t, exec .setPort s = .next t ∧ t.pending = s.pending ∧
      t.dev.ports[n].bitRate.code = rate ∧ t.dev.ports[n].terminator = term ∧
      t.dev.ports[n].idleGap = max 1 g.toNat ∧ t.dev.ports[n].enable = on ∧
      (on = true → s.dev.lanes[laneOf n].state = .opened → t.dev.ports[n].state = .active) ∧
      ((on = false ∨ s.dev.lanes[laneOf n].state ≠ .opened) →
        t.dev.readyLine n = false ∧
        t.dev.ports[n].state =
          (if p.state = .active then
            (if p.current.any fun b => (p.buf b).state == .filling then .stopping else .disabled)
           else p.state)) ∧
      t.dev.ports[n].bufX = p.bufX ∧ t.dev.ports[n].bufY = p.bufY ∧ t.dev.ports[n].current = p.current ∧
      t.dev.ports[n].idleTimer = p.idleTimer ∧ t.dev.ports[n].cRecords = p.cRecords ∧
      (∀ m : Fin 32, m ≠ n → t.dev.ports[m] = s.dev.ports[m]) ∧
      t.dev = { s.dev with
        ports := t.dev.ports
        trunk := answered s.dev.trunk r
          (if (tb.toNat = 0 ∨ 128 ≤ tb.toNat ∧ tb.toNat ≤ 254) ∨ g.toNat = 0 then .doneClamped else .done) [] }

/-- R76, R77, R81, R83: what becomes of a character. In a FREE current buffer of an ACTIVE port it begins a record, which
takes over the port's overrun mark; a terminator there is discarded; in a FILLING one it is stored within the first 48,
and the 49th marks the record OVERLENGTH; a terminator there ends the record as the idle gap does; without a current
buffer it is lost and counted as overrun; a DISABLED port discards and counts it. -/
def Obligations.ScannerCharacter : Prop :=
  ∀ (s : State) (n : Fin 32) (b : BufferId) (c : Byte) (good : Bool), s.dev.inReset = false →
    let p := s.dev.ports[n]
    ∃ t, exec (.scannerCharacter n c good) s = .next t ∧ t.pending = s.pending ∧
      (p.state = .disabled → t.dev.ports = s.dev.ports.set n
        { p with charRate := none, cDiscarded := min 65535 (p.cDiscarded + 1) }) ∧
      (p.state = .active → p.current = none → t.dev.ports = s.dev.ports.set n
        { p with charRate := none, cOverrun := min 65535 (p.cOverrun + 1), overrun := true }) ∧
      (p.state = .active → p.current = some b → (p.buf b).state = .free → good = true → p.terminator = some c →
        t.dev.ports = s.dev.ports.set n { p with charRate := none }) ∧
      (p.state = .active → p.current = some b → (p.buf b).state = .free →
        (good = false ∨ p.terminator ≠ some c) →
        (t.dev.ports[n].buf b) = { state := .filling, chars := [c], received := 1 } ∧
        t.dev.ports[n].markOverrun = p.overrun ∧ t.dev.ports[n].overrun = false ∧
        t.dev.ports[n].markDamaged = !good ∧ t.dev.ports[n].badCount = (if good then 0 else 1) ∧
        t.dev.ports[n].markOverlength = false ∧ t.dev.ports[n].idleTimer = some p.idleGap ∧
        t.dev.ports[n].current = some b) ∧
      (p.state = .active ∨ p.state = .stopping → p.current = some b → (p.buf b).state = .filling →
        (good = false ∨ p.terminator ≠ some c) →
        (t.dev.ports[n].buf b).state = .filling ∧
        (t.dev.ports[n].buf b).received = min 65535 ((p.buf b).received + 1) ∧
        (t.dev.ports[n].buf b).chars =
          (if (p.buf b).received < 48 then (p.buf b).chars ++ [c] else (p.buf b).chars) ∧
        t.dev.ports[n].markOverlength = (p.markOverlength || (p.buf b).received == 48) ∧
        t.dev.ports[n].markDamaged = (p.markDamaged || !good) ∧ t.dev.ports[n].idleTimer = some p.idleGap) ∧
      (p.state = .stopping → p.current = some b → (p.buf b).state ≠ .filling → t.dev.ports = s.dev.ports.set n
        { p with charRate := none, cDiscarded := min 65535 (p.cDiscarded + 1) }) ∧
      (p.state = .active ∨ p.state = .stopping → p.current = some b → (p.buf b).state = .filling → good = true →
        p.terminator = some c →
        exec (.idleGapExpiry n) { s with dev := { s.dev with
          ports := s.dev.ports.set n { p with charRate := none, idleTimer := some 0 } } } = .next t) ∧
      (∀ m : Fin 32, m ≠ n → t.dev.ports[m] = s.dev.ports[m]) ∧
      (¬ (p.state ≠ .disabled ∧ p.current = some b ∧ (p.buf b).state = .filling ∧ good = true ∧
          p.terminator = some c) → p.current = some b ∨ p.current = none →
        t.dev = { s.dev with ports := t.dev.ports })

/-- R78, R79, R84: the idle gap's expiry ends the record in a FILLING buffer. A DAMAGED record gives SCAN-DAMAGED with its
bad-character and received counts, one that is only OVERLENGTH gives SCAN-OVERLENGTH; the buffer is FREE again and stays
current, and a STOPPING port is DISABLED. A start bit stops the idle timer and ends nothing.

R79, R85, R92 to R94, R96 to R99: a sound record is classified by the first rule that matches, whose counter rises, or by
the no-match policy. Its event, with the OVERRUN mark, refers to the buffer, now HELD; the other buffer is current if
FREE; the tone its kind names is asked for. A silent drop frees the buffer and hands the mark back. -/
def Obligations.RecordEnds : Prop :=
  (∀ (s : State) (n : Fin 32) (b : BufferId), s.dev.inReset = false →
    let p := s.dev.ports[n]
    let e := entryOf s.dev (laneQueue (laneOf n)) (if p.markDamaged then .scanDamaged else .scanOverlength)
      (drawerSource n)
      (if p.markDamaged then p.badCount else (p.buf b).received % 256)
      (if p.markDamaged then min 255 (p.buf b).received else (p.buf b).received / 256) .absent
    (p.idleTimer.isSome → p.current = some b → (p.buf b).state = .filling →
      (p.markDamaged = true ∨ p.markOverlength = true) → room s.dev (laneQueue (laneOf n)) 1 →
      ∃ t, exec (.idleGapExpiry n) s = .next t ∧ t.pending = s.pending ∧
        t.dev.pool = appended s.dev.pool (laneQueue (laneOf n))
          { ev := { e.ev with overrun := p.markOverrun }, body := .absent } ∧
        (t.dev.ports[n].buf b) = freeBuffer ∧ t.dev.ports[n].current = some b ∧ t.dev.ports[n].idleTimer = none ∧
        t.dev.ports[n].state = (if p.state = .stopping then .disabled else p.state) ∧
        t.dev.ports[n].cRecords = min 65535 (p.cRecords + 1) ∧
        t.dev.ports[n].cDamaged = min 65535 (p.cDamaged + if p.markDamaged then 1 else 0) ∧
        t.dev.ports[n].cOverlength = min 65535 (p.cOverlength + if p.markDamaged then 0 else 1) ∧
        (∀ m : Fin 32, m ≠ n → t.dev.ports[m] = s.dev.ports[m]) ∧
        t.dev = { s.dev with ports := t.dev.ports, pool := t.dev.pool }) ∧
    exec (.scannerStartBit n) s = .next { s with dev := { s.dev with
      ports := s.dev.ports.set n { p with idleTimer := none, charRate := some p.bitRate } } }) ∧
  (∀ (s : State) (n : Fin 32) (b : BufferId), s.dev.inReset = false →
    let p := s.dev.ports[n]
    let l := laneOf n
    let g := s.dev.lanes[l].active
    let u := s.dev.tlu
    let chars := (p.buf b).chars
    let m := s.dev.rules.firstMatch l chars
    let what := scanEvent (m.map fun i => (i, s.dev.rules.active[i].rule)) g.noMatch chars
    p.idleTimer.isSome → p.current = some b → (p.buf b).state = .filling → p.markDamaged = false →
    p.markOverlength = false → (p.buf b.other).state ≠ .filling →
    ∃ t, exec (.idleGapExpiry n) s = .next t ∧ t.pending = s.pending ∧
      t.dev.rules.shadow = s.dev.rules.shadow ∧
      (∀ i : Fin 32, t.dev.rules.active[i] = if m = some i then
        { s.dev.rules.active[i] with hits := min 65535 (s.dev.rules.active[i].hits + 1) } else s.dev.rules.active[i]) ∧
      t.dev.ports[n].cRecords = min 65535 (p.cRecords + 1) ∧ t.dev.ports[n].idleTimer = none ∧
      t.dev.ports[n].state = (if p.state = .stopping then .disabled else p.state) ∧
      (t.dev.ports[n].buf b.other) = p.buf b.other ∧ (∀ k : Fin 32, k ≠ n → t.dev.ports[k] = s.dev.ports[k]) ∧
      t.dev = { s.dev with rules := t.dev.rules, ports := t.dev.ports, pool := t.dev.pool, tlu := t.dev.tlu } ∧
      (what = none →
        t.dev.pool = s.dev.pool ∧ t.dev.tlu = u ∧ (t.dev.ports[n].buf b) = freeBuffer ∧
        t.dev.ports[n].current = some b ∧ t.dev.ports[n].overrun = (p.overrun || p.markOverrun)) ∧
      (∀ k d1 d2 start len, what = some (k, d1, d2, start, len) →
        let e := entryOf s.dev (laneQueue l) k (drawerSource n) d1 d2 (.buffer n b start len)
        let tone := if k = .scanGood then g.goodTone else if k = .scanBadCheck then g.badTone else none
        (room s.dev (laneQueue l) 1 →
          t.dev.pool = appended s.dev.pool (laneQueue l) { e with ev := { e.ev with overrun := p.markOverrun } } ∧
          (t.dev.ports[n].buf b) = { p.buf b with state := .held } ∧
          t.dev.ports[n].current = (if (p.buf b.other).state = .free then some b.other else none)) ∧
        (∀ x, tone = some x → levelGrants u l x →
          t.dev.tlu = { u with generators := u.generators.set l (sounding x u.tones[x]) }) ∧
        (∀ x, tone = some x → ¬ levelGrants u l x → t.dev.tlu = u) ∧
        (tone = none → t.dev.tlu = u)))

/-- R95: the tests in their order. Every character must be a digit, the length 8, 12, 13 or 14, and the last digit the
expected check digit (10 − (S mod 10)) mod 10 of the digits before it; the first test that fails gives the reason. -/
def Obligations.Modulo10 : Prop :=
  ∀ data : List Byte,
    let digits := ∀ c ∈ data, 48 ≤ c.toNat ∧ c.toNat ≤ 57
    let lengthOk := data.length = 8 ∨ data.length = 12 ∨ data.length = 13 ∨ data.length = 14
    let expected := (10 - weighted data.dropLast % 10) % 10
    (mod10 data = .notNumeric ↔ ¬ digits) ∧
    (mod10 data = .badLength ↔ digits ∧ ¬ lengthOk) ∧
    (mod10 data = .passed ↔ digits ∧ lengthOk ∧ (data.getLast?.map fun c => c.toNat - 48) = some expected) ∧
    (mod10 data = .mismatch ↔ digits ∧ lengthOk ∧ (data.getLast?.map fun c => c.toNat - 48) ≠ some expected)

/-- R93: the rule taken is the first in index order that is valid, includes the lane, has its prefix characters at the
start of the record and its length range around the record's length.

R101: WRITE-RULE writes the clamped rule and a match counter of 0 into the SHADOW bank, or, if the clamped minimum is
above the maximum, is refused REFUSED-MALFORMED. R103: COMMIT-RULES exchanges the banks, counters and all, and answers
with the number of valid rules in each. -/
def Obligations.ScanRules : Prop :=
  (∀ (k : Classifier) (l : Fin 16) (chars : List Byte),
    let fits := fun i : Fin 32 =>
      let r := k.active[i].rule
      r.valid = true ∧ r.laneMask.getLsbD l.val = true ∧ r.leadLen ≤ chars.length ∧
        chars.take r.leadLen = r.lead.toList.take r.leadLen ∧ r.minLen ≤ chars.length ∧ chars.length ≤ r.maxLen
    (∀ i : Fin 32, k.firstMatch l chars = some i ↔ fits i ∧ ∀ j : Fin 32, j < i → ¬ fits j) ∧
    (k.firstMatch l chars = none ↔ ∀ i : Fin 32, ¬ fits i)) ∧
  (∀ (s : State) (tag : Byte) (i : Fin 32) (fs : List Byte) (r : ScanRule),
    let w := request tag 0x28 (num i :: fs)
    let c := request tag 0x2A []
    let lo := min 48 (max 1 r.minLen)
    let hi := min 48 (max 1 r.maxLen)
    let r' := { r with minLen := lo, maxLen := hi, leadLen := min 3 r.leadLen, strip := min 3 r.strip }
    (Waits s w → rawRule fs = some r → hi < lo → exec .writeRule s = .next (onlyAnswered s w .refusedMalformed [])) ∧
    (Waits s w → rawRule fs = some r → lo ≤ hi →
      exec .writeRule s = .next { s with dev := { s.dev with
        rules := { s.dev.rules with shadow := s.dev.rules.shadow.set i { rule := r', hits := 0 } }
        trunk := answered s.dev.trunk w (if r' = r then .done else .doneClamped) [] } }) ∧
    (Waits s c → exec .commitRules s = .next { s with dev := { s.dev with
      rules := { active := s.dev.rules.shadow, shadow := s.dev.rules.active }
      trunk := answered s.dev.trunk c .done
        [num ((List.finRange 32).countP fun i => s.dev.rules.shadow[i].rule.valid),
         num ((List.finRange 32).countP fun i => s.dev.rules.active[i].rule.valid)] } }))

/-! ## The event pool -/

/-- R112, R113, R114, R115, R129: an admission attempt on the head of the lane that the rotation reaches. Nobody takes it:
it is discarded and counted as unwanted, and each refused member is flagged and counted. A free slot and its need met: it
is written, body and all, into the slot at the head of the free list, with AFTER-LOSS if the gap mark stood, the mark
cleared, the count at the number of takers and a reference in the queue of each, whose stall timer starts where its credit
is 0 (R140); its scanner buffer is released, and each refused member flagged and counted. Either way the next head is
FRESH, with no timer and no set. Otherwise it waits, with its timer loaded at its first wait. -/
def Obligations.AdmissionAttempt : Prop :=
  ∀ (s : State) (q : Fin 17) (e : Entry) (rest : List Entry), s.dev.inReset = false →
    s.dev.pool.lanes[q].queue = e :: rest → s.dev.pool.nextLane = some q →
    let d := s.dev
    let n := d.pool.lanes[q]
    let u := d.delivery
    let set := u.computeSet q e.ev.kind
    let takers := (List.finRange 8).countP fun c => match set[c] with | .taking _ => true | _ => false
    let need := if e.ev.kind.cls = .key ∨ e.ev.kind.cls = .scan then d.pool.reserve else 0
    let fresh := { n with queue := rest, waiting := false, waitTimer := none, lastSet := none }
    ∃ t, exec .admissionAttempt s = .next t ∧ t.pending = s.pending ∧
      (takers = 0 →
        (∀ c : Fin 8, t.dev.delivery.consumers[c] =
          if set[c] = .refused then missedOne u.consumers[c] else u.consumers[c]) ∧
        t.dev = { d with
          pool := { d.pool with lastServed := q, lanes := d.pool.lanes.set q fresh
                                unwanted := min 65535 (d.pool.unwanted + 1) }
          delivery := { u with consumers := t.dev.delivery.consumers }, ports := released d e.body }) ∧
      (∀ k free, 0 < takers → d.pool.freeList = k :: free → need < free.length + 1 →
        (∀ c : Fin 8,
          let x := u.consumers[c]
          let timer := if x.credit = 0 then some (x.stallTimer.getD (u.stallInterval * u.stallRobust * 100)) else none
          (set[c] = .taking .urgent → t.dev.delivery.consumers[c] =
            { x with urgentQ := x.urgentQ ++ [k], stallTimer := timer }) ∧
          (set[c] = .taking .routine → t.dev.delivery.consumers[c] =
            { x with routineQ := x.routineQ ++ [k], stallTimer := timer }) ∧
          (set[c] = .refused → t.dev.delivery.consumers[c] = missedOne x) ∧
          (set[c] = .out → t.dev.delivery.consumers[c] = x)) ∧
        t.dev = { d with
          pool := { d.pool with
            lastServed := q, lanes := d.pool.lanes.set q { fresh with gap := false }, freeList := free
            lowWater := min d.pool.lowWater free.length
            slots := d.pool.slots.set k
              (some { ev := { e.ev with afterLoss := n.gap }, body := bodyOf d e.body, refs := takers }) }
          delivery := { u with consumers := t.dev.delivery.consumers }, ports := released d e.body }) ∧
      (0 < takers → d.pool.freeList.length ≤ need →
        t.dev = { d with pool := { d.pool with
          lastServed := q
          lanes := d.pool.lanes.set q
            { n with waiting := true, lastSet := some set
                     waitTimer := some (n.waitTimer.getD (d.pool.limit * 10)) } } })

/-- R27, R112, R144: the three arbiters serve the first candidate after the last served, wrapping, the last served itself
last. The admitter's candidates are FRESH heads, and WAITING heads whose need the free count meets. -/
def Obligations.Rotations : Prop :=
  ∀ (m : Scanner) (p : Pool) (u : Delivery),
    (∀ l : Fin 16, m.laneInPass = none → (m.nextLane = some l ↔ m.lanes[l].waiting = true ∧
      ∀ k : Fin 16, m.lanes[k].waiting = true → distance 16 m.lastServed l ≤ distance 16 m.lastServed k)) ∧
    (let candidate := fun q : Fin 17 => ∃ e rest, p.lanes[q].queue = e :: rest ∧
       (p.lanes[q].waiting = false ∨
        (if e.ev.kind.cls = .key ∨ e.ev.kind.cls = .scan then p.reserve else 0) < p.freeList.length)
     ∀ q : Fin 17, p.nextLane = some q ↔ candidate q ∧
       ∀ k : Fin 17, candidate k → distance 17 p.lastServed q ≤ distance 17 p.lastServed k) ∧
    (let hot := fun c : Fin 8 => 0 < u.consumers[c].credit ∧ u.consumers[c].urgentQ ≠ []
     let warm := fun c : Fin 8 => 0 < u.consumers[c].credit ∧ u.consumers[c].routineQ ≠ []
     (∀ (c : Fin 8) (r : Fin 512), u.chooseFrame = some (c, r, true) ↔ u.consumers[c].urgentQ.head? = some r ∧
       0 < u.consumers[c].credit ∧ ∀ k : Fin 8, hot k → distance 8 u.lastServed c ≤ distance 8 u.lastServed k) ∧
     (∀ (c : Fin 8) (r : Fin 512), u.chooseFrame = some (c, r, false) ↔ (∀ k : Fin 8, ¬ hot k) ∧
       u.consumers[c].routineQ.head? = some r ∧ 0 < u.consumers[c].credit ∧
       ∀ k : Fin 8, warm k → distance 8 u.lastServed c ≤ distance 8 u.lastServed k) ∧
     (u.chooseFrame = none ↔ ∀ k : Fin 8, ¬ hot k ∧ ¬ warm k))

/-- R108, R109: an event offered to a queue of 8 takes its sequence number and is lost: the loss counter rises, the gap
mark is set and the queue stays as it is.

R109, R116: at the wait timer's expiry the WAITING head is lost, and each member of its last computed set that is not
INACTIVE has its loss flag set and its drop counter raised. -/
def Obligations.EventLosses : Prop :=
  (∀ (d : Device) (q : Fin 17) (n : Notice), d.pool.lanes[q].queue.length = 8 →
    (d.offer q n).pool =
      { d.pool with
        lanes := d.pool.lanes.set q
          { d.pool.lanes[q] with
            seq := d.pool.lanes[q].seq + 1, gap := true
            lossCount := min 65535 (d.pool.lanes[q].lossCount + 1) } } ∧
    (d.offer q n).ports = released d n.body) ∧
  (∀ (s : State) (q : Fin 17) (e : Entry) (rest : List Entry) (set : SortedSet), s.dev.inReset = false →
    s.dev.pool.lanes[q].queue = e :: rest → s.dev.pool.lanes[q].waiting = true →
    s.dev.pool.lanes[q].waitTimer.isSome → s.dev.pool.lanes[q].lastSet = some set →
    ∃ t, exec (.admissionLimitExpiry q) s = .next t ∧ t.pending = s.pending ∧
      t.dev.pool =
        { s.dev.pool with
          lanes := s.dev.pool.lanes.set q
            { s.dev.pool.lanes[q] with
              queue := rest, lossCount := min 65535 (s.dev.pool.lanes[q].lossCount + 1), gap := true,
              waiting := false, waitTimer := none, lastSet := none } } ∧
      (∀ c : Fin 8, t.dev.delivery.consumers[c] =
        if set[c] ≠ .out ∧ s.dev.delivery.consumers[c].state ≠ .inactive then missedOne s.dev.delivery.consumers[c]
        else s.dev.delivery.consumers[c]) ∧
      t.dev.ports = released s.dev e.body ∧
      t.dev = { s.dev with pool := t.dev.pool, ports := t.dev.ports
                           delivery := { s.dev.delivery with consumers := t.dev.delivery.consumers } })

/-- R119: SET-ADMISSION clamps the reserve to 0 to 64 and the admission limit to 1 to 255. R143: SET-STALL clamps the
interval to 1 to 255 and the robustness to 1 to 4. R137: SET-UNMATCHED writes policy and default set.

R45: SET-SCAN clamps the dwell to 4 to 63 µs. -/
def Obligations.DeviceWideSettings : Prop :=
  (∀ (s : State) (tag x y : Byte),
    (Waits s (request tag 0x30 [x, y]) → exec .setAdmission s = .next { s with dev := { s.dev with
      pool := { s.dev.pool with reserve := min 64 x.toNat, limit := max 1 y.toNat }
      trunk := answered s.dev.trunk (request tag 0x30 [x, y])
        (if x.toNat ≤ 64 ∧ 1 ≤ y.toNat then .done else .doneClamped) [] } }) ∧
    (Waits s (request tag 0x40 [x, y]) → exec .setStall s = .next { s with dev := { s.dev with
      delivery := { s.dev.delivery with stallInterval := max 1 x.toNat, stallRobust := min 4 (max 1 y.toNat) }
      trunk := answered s.dev.trunk (request tag 0x40 [x, y])
        (if 1 ≤ x.toNat ∧ 1 ≤ y.toNat ∧ y.toNat ≤ 4 then .done else .doneClamped) [] } }) ∧
    (∀ policy, Waits s (request tag 0x3D [x, y]) → UnmatchedPolicy.ofCode x.toNat = some policy →
      exec .setUnmatched s = .next { s with dev := { s.dev with
        delivery := { s.dev.delivery with policy := policy, defaultSet := y }
        trunk := answered s.dev.trunk (request tag 0x3D [x, y]) .done [] } }) ∧
    (Waits s (request tag 0x3D [x, y]) → 3 ≤ x.toNat →
      exec .setUnmatched s = .next (onlyAnswered s (request tag 0x3D [x, y]) .refusedMalformed []))) ∧
  (∀ (s : State) (tag w : Byte), Waits s (request tag 0x10 [w]) →
    exec .setScan s = .next { s with dev := { s.dev with
      scanner := { s.dev.scanner with dwell := min 63 (max 4 w.toNat) }
      trunk := answered s.dev.trunk (request tag 0x10 [w])
        (if 4 ≤ w.toNat ∧ w.toNat ≤ 63 then .done else .doneClamped) [] } })

/-! ## The delivery unit -/

/-- R124 to R127: where a consumer stands in the set computed for an event, by the matching entries or, where none
matches, by the unmatched policy; after a device reset every event goes to consumer 0 alone, ROUTINE. -/
def Obligations.DeliverySet : Prop :=
  ∀ (u : Delivery) (q : Fin 17) (k : Kind) (c : Fin 8),
    let takes := fun i : Fin 64 => u.table[i].valid = true ∧ u.table[i].laneMask.getLsbD q.val = true ∧
      u.table[i].classMask.getLsbD (k.cls.code - 1) = true ∧ (u.table[i].kind = none ∨ u.table[i].kind = some k)
    let names := fun i : Fin 64 => u.table[i].consumers.getLsbD c.val = true
    let forwarded := ∃ i, takes i ∧ names i ∧ u.table[i].blocked = false
    let stopped := ∃ i, takes i ∧ names i ∧ u.table[i].blocked = true
    let urgent := ∃ i, takes i ∧ names i ∧ u.table[i].blocked = false ∧ u.table[i].urgent = true
    let x := u.consumers[c]
    let member := ((∃ i, takes i) ∧ forwarded ∧ ¬ stopped) ∨
      ((∀ i, ¬ takes i) ∧ ((u.policy = .default ∧ u.defaultSet.getLsbD c.val = true) ∨
        (u.policy = .all ∧ x.state = .active)))
    (resetDelivery.computeSet q k = Vector.ofFn fun m : Fin 8 => if m = 0 then Member.taking .routine else .out) ∧
    ((u.computeSet q k)[c] = .out ↔ ¬ member ∨ x.state = .inactive) ∧
    ((u.computeSet q k)[c] = .refused ↔ member ∧
      (x.state = .stalled ∨ (x.state = .active ∧ x.depth ≤ x.urgentQ.length + x.routineQ.length))) ∧
    ((u.computeSet q k)[c] = .taking .urgent ↔ member ∧ x.state = .active ∧
      x.urgentQ.length + x.routineQ.length < x.depth ∧ urgent) ∧
    ((u.computeSet q k)[c] = .taking .routine ↔ member ∧ x.state = .active ∧
      x.urgentQ.length + x.routineQ.length < x.depth ∧ ¬ urgent)

/-- R131, R132: TABLE-WRITE stores a whole entry and makes it valid; TABLE-DELETE zeroes a valid entry. The reply tells
whether the entry was valid before; a deletion of an invalid entry changes nothing. -/
def Obligations.TableWriteAndDelete : Prop :=
  ∀ (s : State) (tag : Byte) (i : Fin 64) (fs : List Byte) (e : TableEntry),
    let w := request tag 0x39 (num i :: fs)
    let x := request tag 0x3A [num i]
    let old := s.dev.delivery.table[i]
    (Waits s w → inTableEntry fs = some e → e.valid = true ∧
      exec .tableWrite s = .next { s with dev := { s.dev with
        delivery := { s.dev.delivery with table := s.dev.delivery.table.set i e }
        trunk := answered s.dev.trunk w (if old.valid then .donePresent else .doneAbsent) [] } }) ∧
    (Waits s x → old.valid = true → exec .tableDelete s = .next { s with dev := { s.dev with
      delivery := { s.dev.delivery with
        table := s.dev.delivery.table.set i
          { valid := false, laneMask := 0, classMask := 0, kind := none, consumers := 0, urgent := false,
            blocked := false } }
      trunk := answered s.dev.trunk x .donePresent [] } }) ∧
    (Waits s x → old.valid = false → exec .tableDelete s = .next (onlyAnswered s x .doneAbsent []))

/-- R134, R135, R136, R188: TABLE-SEARCH and TABLE-CLEAR begin a walk at index 0 and stay in progress. A step of a search
tests one entry. A step of a clear takes the consumer or lane out of one valid entry that names it, deletes the entry if
its mask is emptied, and counts it. The walk's end forms the reply. -/
def Obligations.TableWalks : Prop :=
  ∀ (s : State) (tag : Byte) (q : Fin 17) (k : Kind) (c : Fin 8) (i : Fin 64) (ch dl : Nat) (r : Request),
    let u := s.dev.delivery
    let e := u.table[i]
    let search := request tag 0x3B [num q, num k.cls.code, num k.code]
    let clearConsumer := request tag 0x3C [0, num c]
    let clearLane := request tag 0x3C [1, num q]
    let starts := fun (cmd : Instr) (x : Request) (w : TableWalk) => Waits s x → exec cmd s = .next { s with dev :=
      { s.dev with delivery := { u with walk := some w }, trunk := started s.dev.trunk x } }
    let steps := fun (w : TableWalk) (table : Table TableEntry 64) => exec .tableWalkStep s = .next { s with dev :=
      { s.dev with delivery := { u with walk := some w, table := table } } }
    let ends := fun (w : TableWalk) (code : ReplyCode) (fields : List Byte) => u.walk = some w →
      s.dev.trunk.inProgress = some r → exec .tableWalkEnd s = .next { s with dev := { s.dev with
        delivery := { u with walk := none }
        trunk := { s.dev.trunk with
          inProgress := none
          replies := s.dev.trunk.replies ++ [{ tag := r.tag, request := r.replyCode, code := code, fields := fields }] } } }
    let takes := e.valid = true ∧ e.laneMask.getLsbD q.val = true ∧ e.classMask.getLsbD (k.cls.code - 1) = true ∧
      (e.kind = none ∨ e.kind = some k)
    let namesC := e.valid = true ∧ e.consumers.getLsbD c.val = true
    let namesL := e.valid = true ∧ e.laneMask.getLsbD q.val = true
    let consumers := e.consumers &&& ~~~(1#8 <<< c.val)
    let lanes := e.laneMask &&& ~~~(1#17 <<< q.val)
    let gone : TableEntry := { valid := false, laneMask := 0, classMask := 0, kind := none, consumers := 0
                               urgent := false, blocked := false }
    starts .tableSearch search (.search q k 0 none) ∧
    starts .tableClear clearConsumer (.clearConsumer c 0 0 0) ∧
    starts .tableClear clearLane (.clearLane q 0 0 0) ∧
    (s.dev.inReset = false →
      (u.walk = some (.search q k i none) →
        if takes then steps (.search q k (i + 1) (some i)) u.table else steps (.search q k (i + 1) none) u.table) ∧
      (u.walk = some (.clearConsumer c i ch dl) →
        if ¬ namesC then steps (.clearConsumer c (i + 1) ch dl) u.table
        else if consumers = 0 then steps (.clearConsumer c (i + 1) ch (dl + 1)) (u.table.set i gone)
        else steps (.clearConsumer c (i + 1) (ch + 1) dl) (u.table.set i { e with consumers := consumers })) ∧
      (u.walk = some (.clearLane q i ch dl) →
        if ¬ namesL then steps (.clearLane q (i + 1) ch dl) u.table
        else if lanes = 0 then steps (.clearLane q (i + 1) ch (dl + 1)) (u.table.set i gone)
        else steps (.clearLane q (i + 1) (ch + 1) dl) (u.table.set i { e with laneMask := lanes })) ∧
      ends (.search q k 64 none) .doneAbsent [] ∧
      ends (.search q k (i + 1) (some i)) .donePresent (num i :: outTableEntry e) ∧
      ends (.clearConsumer c 64 ch dl) .done [num ch, num dl] ∧
      ends (.clearLane q 64 ch dl) .done [num ch, num dl])

/-- R128, R129, R138, R142: SET-CONSUMER writes the depth limit and flushes what stands above it, from the tails, ROUTINE
first; ACTIVE makes an INACTIVE consumer ACTIVE with credit 0 and leaves a STALLED one STALLED; INACTIVE flushes the rest.
FLUSH-CONSUMER flushes and answers with the number flushed, changing neither state nor credit. Whatever is flushed is
given up to the pool and counted, and flags the consumer.

R141: at the stall timer's expiry the consumer is STALLED, its queues flushed, its loss flag set and its drop counter
raised by the number flushed, and CONSUMER-STALLED is queued on lane 16. -/
def Obligations.ConsumerFlushes : Prop :=
  (∀ (s : State) (tag dep : Byte) (c : Fin 8),
    let x := s.dev.delivery.consumers[c]
    let depth := max 4 dep.toNat
    let code := if 4 ≤ dep.toNat then ReplyCode.done else .doneClamped
    let n := x.urgentQ.length + x.routineQ.length
    let missed := min 65535 (x.drops + n)
    let cut := n - depth
    (Waits s (request tag 0x3E [num c, dep, 1]) →
      ∃ t, exec .setConsumer s = .next t ∧ t.pending = s.pending ∧
        t.dev.delivery.consumers[c].depth = depth ∧
        t.dev.delivery.consumers[c].state = (if x.state = .inactive then .active else x.state) ∧
        t.dev.delivery.consumers[c].credit = (if x.state = .inactive then 0 else x.credit) ∧
        t.dev.delivery.consumers[c].routineQ = x.routineQ.take (x.routineQ.length - cut) ∧
        t.dev.delivery.consumers[c].urgentQ = x.urgentQ.take (x.urgentQ.length - (cut - x.routineQ.length)) ∧
        t.dev.delivery.consumers[c].lossFlag = (x.lossFlag || decide (0 < cut)) ∧
        t.dev.delivery.consumers[c].drops = min 65535 (x.drops + cut) ∧ t.dev.pool.lanes = s.dev.pool.lanes ∧
        t.dev.pool =
          ((x.routineQ.reverse ++ x.urgentQ.reverse).take cut).foldl Pool.giveUp s.dev.pool ∧
        (∀ k : Fin 8, k ≠ c → t.dev.delivery.consumers[k] = s.dev.delivery.consumers[k]) ∧
        t.dev.delivery.table = s.dev.delivery.table ∧
        t.dev = { s.dev with pool := t.dev.pool, delivery := t.dev.delivery
                             trunk := answered s.dev.trunk (request tag 0x3E [num c, dep, 1]) code [] }) ∧
    (Waits s (request tag 0x3E [num c, dep, 0]) →
      ∃ t, exec .setConsumer s = .next t ∧ t.pending = s.pending ∧
        t.dev.delivery.consumers[c] =
          { x with state := .inactive, credit := 0, depth := depth, urgentQ := [], routineQ := [],
                   lossFlag := x.lossFlag || decide (0 < n), drops := missed, stallTimer := none } ∧
        (∀ k : Fin 8, k ≠ c → t.dev.delivery.consumers[k] = s.dev.delivery.consumers[k]) ∧
        t.dev.pool.lanes = s.dev.pool.lanes ∧
        t.dev = { s.dev with pool := t.dev.pool, delivery := t.dev.delivery
                             trunk := answered s.dev.trunk (request tag 0x3E [num c, dep, 0]) code [] }) ∧
    (Waits s (request tag 0x3F [num c]) →
      ∃ t, exec .flushConsumer s = .next t ∧ t.pending = s.pending ∧
        t.dev.delivery.consumers[c] =
          { x with urgentQ := [], routineQ := [], lossFlag := x.lossFlag || decide (0 < n), drops := missed
                   stallTimer := none } ∧
        (∀ k : Fin 8, k ≠ c → t.dev.delivery.consumers[k] = s.dev.delivery.consumers[k]) ∧
        t.dev.pool = (x.urgentQ ++ x.routineQ).foldl Pool.giveUp s.dev.pool ∧ t.dev.pool.lanes = s.dev.pool.lanes ∧
        t.dev = { s.dev with pool := t.dev.pool, delivery := t.dev.delivery
                             trunk := answered s.dev.trunk (request tag 0x3F [num c]) .done [num n] })) ∧
  (∀ (s : State) (c : Fin 8), s.dev.inReset = false → s.dev.delivery.consumers[c].stallTimer.isSome →
    room s.dev deviceQueue 1 →
    let x := s.dev.delivery.consumers[c]
    ∃ t, exec (.stallTimerExpiry c) s = .next t ∧ t.pending = s.pending ∧
      t.dev.delivery.consumers[c] =
        { x with state := .stalled, urgentQ := [], routineQ := [], lossFlag := true
                 drops := min 65535 (x.drops + (x.urgentQ.length + x.routineQ.length)), stallTimer := none } ∧
      (∀ k : Fin 8, k ≠ c → t.dev.delivery.consumers[k] = s.dev.delivery.consumers[k]) ∧
      t.dev.pool = queued { s.dev with pool := (x.urgentQ ++ x.routineQ).foldl Pool.giveUp s.dev.pool } deviceQueue
        .consumerStalled none c 0 ∧
      t.dev = { s.dev with pool := t.dev.pool
                           delivery := { s.dev.delivery with consumers := t.dev.delivery.consumers } })

/-! ## The drawer unit -/

/-- R151, R152, R153: a KICK request is settled by the first test that decides. A refusal queues KICK-REFUSED with its
refusal and origin REQUEST; an accepted kick is WAITING at the tail of the wait list, for a KICK_GRANT of its own
(notes/assumptions/7.md); a window that the interlock needed is consumed. -/
def Obligations.KickRequest : Prop :=
  ∀ (s : State) (tag : Byte) (n : Fin 32),
    let r := request tag 0x48 [num n]
    let w := s.dev.drawers.drawers[n]
    let l := laneOf n
    let x := s.dev.lanes[l]
    let refused := fun (why : Nat) (code : ReplyCode) =>
      exec .kick s = .next { s with dev := { s.dev with
        pool := queued s.dev (laneQueue l) .kickRefused (drawerSource n) why 0
        trunk := answered s.dev.trunk r code [] } }
    let accepted := fun (lanes : Table LaneRec 16) =>
      exec .kick s = .next { s with dev := { s.dev with
        lanes := lanes
        drawers := { s.dev.drawers with
          drawers := s.dev.drawers.drawers.set n { w with kick := .waiting }
          waitList := s.dev.drawers.waitList ++ [n] }
        trunk := answered s.dev.trunk r .done [] } }
    Waits s r → room s.dev (laneQueue l) 1 →
    if w.present = false ∨ w.settled = false then refused 3 .refusedState
    else if w.kick ≠ .idle then exec .kick s = .next (onlyAnswered s r .done [])
    else if w.position = .opened then refused 3 .refusedState
    else if s.dev.drawers.inhibit then refused 2 .refusedInhibited
    else if (x.state = .opened ∧ (x.keyLock = .supv ∨ x.keyLock = .mgr)) ∨ (x.state ≠ .opened ∧ x.keyLock = .mgr) then
      accepted s.dev.lanes
    else if x.state = .opened ∧ x.keyLock = .reg ∧ x.windowOpen then
      accepted (s.dev.lanes.set l { x with windowOpen := false, tenderTimer := 0 })
    else refused 1 .refusedInterlock

/-- R168: CLEAR-COUNTER answers with the open counter, of a PRESENT or an ABSENT drawer, and sets it to 0, touching nothing
else; an opening raises the counter by one, to 1 after a clear, and its event carries the new value, as DRAWER-CLOSED
carries the counter as it stands, 0 if nothing has opened since a clear. -/
def Obligations.ClearCounter : Prop :=
  ∀ (s : State) (tag : Byte) (n : Fin 32),
    let u := s.dev.drawers
    let w := u.drawers[n]
    let r := request tag 0x4C [num n]
    let q := laneQueue (laneOf n)
    let count := if w.candidate = .opened then min 65535 (w.openCount + 1) else w.openCount
    (Waits s r → exec .clearCounter s = .next { s with dev := { s.dev with
      drawers := { u with drawers := u.drawers.set n { w with openCount := 0 } }
      trunk := answered s.dev.trunk r .done [num w.openCount, num (w.openCount / 256)] } }) ∧
    (s.dev.inReset = false → w.stability.isSome → w.settled = true → w.candidate ≠ w.position → room s.dev q 2 →
      ∃ t, exec (.stabilityTimerExpiry n) s = .next t ∧ t.pending = s.pending ∧
        t.dev.drawers.drawers[n].openCount = count ∧
        ((t.dev.pool.lanes[q].queue.drop s.dev.pool.lanes[q].queue.length).head?.map fun e =>
          (e.ev.detail1, e.ev.detail2)) = some (num count, num (count / 256)))

/-- R166, R161, R150: SET-DRAWER's DRAWER form. ABSENT is refused while the drawer is PRESENT with a kick not IDLE or OPEN;
otherwise the settings are written, clamped; an open limit acts at once on an OPEN drawer's limit timer as R161 states;
a presence that changes makes the drawer ABSENT or unsettled.

R158, R162, R166: SET-DRAWER's SUPPLY form. The limit is applied at once if it is not below K or no unit is in use, and
is pending otherwise; the grant test that a higher limit calls for is a KICK_GRANT of its own (notes/assumptions/7.md).
ENABLED while the line is low is a supply fault, with all its events. MODEL'S READING: also where the monitor was ENABLED
before (notes/assumptions/15.md), and with the settings of the form written first (notes/assumptions/26.md). -/
def Obligations.SetDrawerForms : Prop :=
  (∀ (s : State) (tag pw ct ol : Byte) (n : Fin 32) (on : Bool),
    let r := request tag 0x4A [0, num n, flag on, pw, ct, ol]
    let w := s.dev.drawers.drawers[n]
    let limit := if ol.toNat = 0 then 0 else max 5 ol.toNat
    let base := { w with pulseWidth := max 10 pw.toNat, confirmTime := max 5 ct.toNat, openLimit := limit }
    let kept :=
      if w.position = .closed ∨ (limit ≠ 0 ∧ w.limitTimer.isSome) then base
      else { base with limitTimer := if limit = 0 then none else some limit, limitSubMs := 0 }
    let written :=
      if w.present = on then kept
      else if on then
        { kept with present := true, position := .closed, settled := false, candidate := w.senseInput
                    stability := some 10 }
      else
        { kept with present := false, position := .closed, settled := false, kick := .idle, stability := none
                    kickTimer := none, limitTimer := none, limitSubMs := 0 }
    Waits s r →
    if on = false ∧ w.present = true ∧ (w.kick ≠ .idle ∨ w.position = .opened) then
      exec .setDrawerDrawer s = .next (onlyAnswered s r .refusedState [])
    else
      exec .setDrawerDrawer s = .next { s with dev := { s.dev with
        drawers := { s.dev.drawers with drawers := s.dev.drawers.drawers.set n written }
        trunk := answered s.dev.trunk r
          (if 10 ≤ pw.toNat ∧ 5 ≤ ct.toNat ∧ (ol.toNat = 0 ∨ 5 ≤ ol.toNat) then .done else .doneClamped) [] } }) ∧
  (∀ (s : State) (tag k g : Byte) (on : Bool),
    let r := request tag 0x4A [1, k, g, flag on]
    let limit := min 8 (max 1 k.toNat)
    let u := s.dev.drawers
    let now := u.supplyLimit ≤ limit ∨ ∀ i : Fin 8, u.units[i].state = .available
    let code := if 1 ≤ k.toNat ∧ k.toNat ≤ 8 ∧ g.toNat ≤ 50 then ReplyCode.done else .doneClamped
    let set :=
      { s.dev with
        drawers := { u with
          supplyGap := min 50 g.toNat, monitor := on, supplyLimit := if now then limit else u.supplyLimit
          pendingLimit := if now then none else some limit }
        trunk := answered s.dev.trunk r code [] }
    Waits s r →
    (on = false ∨ u.supplyHigh = true → exec .setDrawerSupply s = .next { s with dev := set }) ∧
    (on = true → u.supplyHigh = false → SupplySound s.dev →
      ∃ t, exec .setDrawerSupply s = .next t ∧ t.pending = s.pending ∧ supplyFails set t.dev))

/-- R149: a change of the sense input makes the new value the candidate and loads the stability timer with 10 ms; an ABSENT
drawer's input is read and not filtered (R150). At the stability timer's expiry an unsettled drawer takes its first
position silently, and a candidate that equals the position changes nothing. -/
def Obligations.SenseFilter : Prop :=
  ∀ (s : State) (n : Fin 32) (isOpen : Bool), s.dev.inReset = false →
    let w := s.dev.drawers.drawers[n]
    let v := if isOpen then Position.opened else .closed
    let list := s.dev.drawers.waitList
    (w.senseInput ≠ v → w.present = true → exec (.senseChange n isOpen) s = .next
      (withDrawer s n { w with senseInput := v, candidate := v, stability := some 10 } list s.dev.pool)) ∧
    (w.senseInput ≠ v → w.present = false → exec (.senseChange n isOpen) s = .next
      (withDrawer s n { w with senseInput := v } list s.dev.pool)) ∧
    (w.stability.isSome → w.settled = false → exec (.stabilityTimerExpiry n) s = .next
      (withDrawer s n
        (if w.candidate = .closed then { w with stability := none, position := .closed, settled := true }
         else limitLoaded { w with stability := none, position := .opened, settled := true, openTime := 0 })
        list s.dev.pool)) ∧
    (w.stability.isSome → w.settled = true → w.candidate = w.position → exec (.stabilityTimerExpiry n) s = .next
      (withDrawer s n { w with stability := none } list s.dev.pool))

/-- R157, R159, R160: an accepted opening counts, starts the open time and loads the limit timer, and its events follow the
kick state; a kick CONFIRMING is done, a kick WAITING is given up. An accepted closing stops the limit timer and queues
DRAWER-CLOSED with the open counter and the open time. -/
def Obligations.OpeningAndClosing : Prop :=
  ∀ (s : State) (n : Fin 32), s.dev.inReset = false →
    let w := s.dev.drawers.drawers[n]
    let q := laneQueue (laneOf n)
    let from' := drawerSource n
    let count := min 65535 (w.openCount + 1)
    let up := limitLoaded
      { w with stability := none, position := .opened, openCount := count, openTime := 0, limitsPassed := 0 }
    let list := s.dev.drawers.waitList
    w.stability.isSome → w.settled = true → room s.dev q 2 →
    (w.candidate = .opened → w.position = .closed →
      exec (.stabilityTimerExpiry n) s = .next
        (match w.kick with
         | .energized => withDrawer s n { up with openedInPulse := true } list
             (queued s.dev q .drawerOpened from' count (count / 256))
         | .confirming => withDrawer s n { up with kick := .idle, kickTimer := none } list
             (queuedAll s.dev q [(.drawerOpened, from', count, count / 256), (.kickDone, from', 1, 0)])
         | .idle => withDrawer s n up list (queued s.dev q .forcedOpen from' count (count / 256))
         | .waiting => withDrawer s n { up with kick := .idle } (list.filter (· ≠ n))
             (queuedAll s.dev q [(.forcedOpen, from', count, count / 256), (.kickAborted, from', 1, 0)]))) ∧
    (w.candidate = .closed → w.position = .opened →
      exec (.stabilityTimerExpiry n) s = .next (withDrawer s n
        { w with stability := none, position := .closed, limitTimer := none, limitSubMs := 0, limitsPassed := 0 } list
        (appended s.dev.pool q (entryOf s.dev q .drawerClosed from' w.openCount (w.openCount / 256)
          (.bytes [num w.openTime, num (w.openTime / 256), num (w.openTime / 65536), num (w.openTime / 16777216)])))))

/-- R155: a grant takes the oldest waiting kick and the lowest-numbered AVAILABLE unit below K, and is not made while a
condition fails. -/
def Obligations.KickGrant : Prop :=
  ∀ s : State, s.dev.inReset = false →
    let u := s.dev.drawers
    (∀ (n : Fin 32) (rest : List (Fin 32)) (i : Fin 8), u.inhibit = false → u.pendingLimit = none →
      u.waitList = n :: rest → i.val < u.supplyLimit → u.units[i].state = .available →
      (∀ j : Fin 8, j < i → u.units[j].state ≠ .available) →
      let pulse := u.drawers[n].pulseWidth
      exec .kickGrant s = .next { s with dev := { s.dev with drawers :=
        { u with
          waitList := rest
          units := u.units.set i { state := .energizing, timer := some pulse }
          drawers := u.drawers.set n
            { u.drawers[n] with
              kick := .energized, unitHeld := some i, openedInPulse := false, kickTimer := some pulse } } } }) ∧
    (u.inhibit = true ∨ u.pendingLimit.isSome ∨ u.waitList = [] ∨
      (∀ i : Fin 8, i.val < u.supplyLimit → u.units[i].state ≠ .available) → exec .kickGrant s = .next s)

/-- R156, R157, R158: a pulse end gives the unit its gap, or frees it where the gap is 0, and the kick is done or goes on
CONFIRMING; a kick that confirms too late has failed; a recovered unit is AVAILABLE, and the last one applies a pending
limit. The grant test that follows is a KICK_GRANT of its own (notes/assumptions/7.md). -/
def Obligations.PulseAndRecovery : Prop :=
  ∀ (s : State) (n : Fin 32) (i : Fin 8), s.dev.inReset = false →
    let u := s.dev.drawers
    let w := u.drawers[n]
    let q := laneQueue (laneOf n)
    let after := if u.supplyGap = 0 then freed u i
      else { u with units := u.units.set i { state := .recovering, timer := some u.supplyGap } }
    (w.kick = .energized → w.unitHeld = some i → w.openedInPulse = true → room s.dev q 1 →
      exec (.pulseEnd n) s = .next { s with dev := { s.dev with
        drawers :=
          { after with drawers := u.drawers.set n { w with unitHeld := none, kick := .idle, kickTimer := none } }
        pool := queued s.dev q .kickDone (drawerSource n) 0 0 } }) ∧
    (w.kick = .energized → w.unitHeld = some i → w.openedInPulse = false →
      exec (.pulseEnd n) s = .next { s with dev := { s.dev with
        drawers :=
          { after with
            drawers := u.drawers.set n
              { w with unitHeld := none, kick := .confirming, kickTimer := some (w.confirmTime * 10) } } } }) ∧
    (w.kick = .confirming → room s.dev q 1 →
      exec (.confirmTimeout n) s = .next (withDrawer s n { w with kick := .idle, kickTimer := none } u.waitList
        (queued s.dev q .kickFailed (drawerSource n) 0 0))) ∧
    (u.units[i].state = .recovering →
      exec (.unitRecovered i) s = .next { s with dev := { s.dev with drawers := freed u i } })

/-- R161, R173: at the limit timer's expiry the count rises, OPEN-TOO-LONG is queued with it, tone entry 7 is asked for on
the drawer's lane, and the timer is loaded again. -/
def Obligations.OpenTooLong : Prop :=
  ∀ (s : State) (n : Fin 32), s.dev.inReset = false →
    let w := s.dev.drawers.drawers[n]
    let q := laneQueue (laneOf n)
    let count := min 65535 (w.limitsPassed + 1)
    let t := withDrawer s n (limitLoaded { w with limitsPassed := count }) s.dev.drawers.waitList
      (queued s.dev q .openTooLong (drawerSource n) count (count / 256))
    w.limitTimer.isSome → room s.dev q 1 →
    (levelGrants s.dev.tlu (laneOf n) 7 → exec (.openTooLong n) s = .next { t with dev := { t.dev with tlu :=
      { s.dev.tlu with
        generators := s.dev.tlu.generators.set (laneOf n) (sounding 7 s.dev.tlu.tones[(7 : Fin 8)]) } } }) ∧
    (¬ levelGrants s.dev.tlu (laneOf n) 7 → exec (.openTooLong n) s = .next t)

/-- R162, R163: with the monitor ENABLED a fall of the line ends every ENERGIZED kick, its unit RECOVERING, also with a
supply gap of 0 (notes/assumptions/19.md), removes every WAITING one, sets the inhibit, queues KICK-ABORTED for each on
its drawer's lane, and SUPPLY-FAULT with both counts on lane 16. With it DISABLED the fall is only read, and a rise is
only read.

R163: CLEAR-INHIBIT is refused while the monitor is ENABLED and the line low, and otherwise clears the inhibit; a kick
accepted after that is granted by a KICK_GRANT of its own (notes/assumptions/7.md). -/
def Obligations.SupplyFaultAndInhibit : Prop :=
  (∀ s : State, s.dev.inReset = false →
    let u := s.dev.drawers
    (u.supplyHigh = true → u.monitor = false →
      exec .supplyFault s = .next { s with dev := { s.dev with drawers := { u with supplyHigh := false } } }) ∧
    (u.supplyHigh = false → exec .supplyFault s = .next s) ∧
    (exec .supplyLineRise s = .next { s with dev := { s.dev with drawers := { u with supplyHigh := true } } }) ∧
    (u.supplyHigh = true → u.monitor = true → SupplySound s.dev →
      ∃ t, exec .supplyFault s = .next t ∧ t.pending = s.pending ∧
        supplyFails { s.dev with drawers := { u with supplyHigh := false } } t.dev)) ∧
  (∀ (s : State) (tag : Byte),
    let u := s.dev.drawers
    let r := request tag 0x49 []
    Waits s r →
    (u.monitor = true → u.supplyHigh = false → exec .clearInhibit s = .next (onlyAnswered s r .refusedState [])) ∧
    (u.monitor = false ∨ u.supplyHigh = true → exec .clearInhibit s = .next { s with dev := { s.dev with
      drawers := { u with inhibit := false }, trunk := answered s.dev.trunk r .done [] } }))

/-! ## The tone and lamp unit -/

/-- R173, R174, R176, R177, R178: WRITE-TONE stores the clamped fields and answers with the frequency; PLAY-TONE starts the
entry if the level test grants it and is ignored otherwise; STOP-TONE makes the generator IDLE.
The buzzer is high in the even half periods of a sounding phase (R170).

R172: what follows the end of a sounding and of a silent phase. -/
def Obligations.Tones : Prop :=
  (∀ (s : State) (tag lo hi on off rep lev : Byte) (l : Fin 16) (e : Fin 8),
    let u := s.dev.tlu
    let div := lo.toNat + 256 * hi.toNat
    let d := min 5000 (max 125 div)
    let g := u.generators[l]
    let w := request tag 0x50 [num e, lo, hi, on, off, rep, lev]
    let p := request tag 0x51 [num l, num e]
    let z := request tag 0x52 [num l]
    let tone : Tone := { divider := d, onTime := max 1 on.toNat, offTime := off.toNat, repeats := min 15 rep.toNat
                         level := min 3 lev.toNat }
    (Waits s w → exec .writeTone s = .next { s with dev := { s.dev with
      tlu := { u with tones := u.tones.set e tone }
      trunk := answered s.dev.trunk w
        (if 125 ≤ div ∧ div ≤ 5000 ∧ 1 ≤ on.toNat ∧ rep.toNat ≤ 15 ∧ lev.toNat ≤ 3 then .done else .doneClamped)
        [num (1000000 / (2 * d)), num (1000000 / (2 * d) / 256)] } }) ∧
    (Waits s p → levelGrants u l e → exec .playTone s = .next { s with dev := { s.dev with
      tlu := { u with generators := u.generators.set l (sounding e u.tones[e]) }
      trunk := answered s.dev.trunk p .done [num e, num u.tones[e].level] } }) ∧
    (∀ c, Waits s p → g.playing = some c → u.tones[e].level < c.tone.level →
      exec .playTone s = .next (onlyAnswered s p .doneIgnored [num c.entry, num c.tone.level])) ∧
    (s.dev.buzzer l = true ↔
      ∃ c, g.playing = some c ∧ g.phase = .sounding ∧ g.phaseUs / c.tone.divider % 2 = 0) ∧
    (Waits s z → exec .stopTone s = .next { s with dev := { s.dev with
      tlu := { u with generators := u.generators.set l { g with playing := none, phaseTimer := none } }
      trunk := answered s.dev.trunk z .done
        [match g.playing with | some c => num c.entry | none => 0xFF] } })) ∧
  (∀ (s : State) (l : Fin 16) (c : PlayingCopy), s.dev.inReset = false →
    let g := s.dev.tlu.generators[l]
    let done := min 15 (g.cycles + 1)
    let goes := fun (v : Generator) => exec (.tonePhaseEnd l) s = .next { s with dev := { s.dev with
      tlu := { s.dev.tlu with generators := s.dev.tlu.generators.set l v } } }
    g.playing = some c →
    (g.phase = .silent →
      goes { g with phase := .sounding, phaseTimer := some (c.tone.onTime * 10), phaseUs := 0 }) ∧
    (g.phase = .sounding → c.tone.repeats ≠ 0 → done = c.tone.repeats →
      goes { g with cycles := done, playing := none, phaseTimer := none }) ∧
    (g.phase = .sounding → c.tone.repeats = 0 ∨ done ≠ c.tone.repeats → 0 < c.tone.offTime →
      goes { g with cycles := done, phase := .silent, phaseTimer := some (c.tone.offTime * 10), phaseUs := 0 }) ∧
    (g.phase = .sounding → c.tone.repeats = 0 ∨ done ≠ c.tone.repeats → c.tone.offTime = 0 →
      goes { g with cycles := done, phaseTimer := some (c.tone.onTime * 10), phaseUs := 0 }))

/-- R179, R180: SET-LAMP applies its mode at once, or stages it where sync is ON and the mode in effect flashes; the next
boundary of that mode applies it. The reply carries the override, the mode in effect and whether a request is
staged. The lamp is lit by the mode in effect and the flash phase. -/
def Obligations.Lamps : Prop :=
  ∀ (s : State) (tag m : Byte) (l : Fin 16) (mode : Option LampMode) (isSync : Bool),
    let r := request tag 0x53 [num l, m, if isSync then 1 else 0]
    let p := s.dev.tlu.lamps[l]
    let set := fun (v : Lamp) => { s.dev with tlu := { s.dev.tlu with lamps := s.dev.tlu.lamps.set l v } }
    let applied := set { overrideMode := mode, staged := none }
    (Waits s r → lampOfCode m.toNat = some mode →
      (isSync = false ∨ ¬ flashes (modeInEffect s.dev l) → exec .setLamp s = .next { s with dev :=
        { applied with
          trunk := answered s.dev.trunk r .done [num (lampCode mode), num (modeInEffect applied l).code, 0] } }) ∧
      (isSync = true → flashes (modeInEffect s.dev l) → exec .setLamp s = .next { s with dev :=
        { set { p with staged := some mode } with
          trunk := answered s.dev.trunk r .done
            [num (lampCode p.overrideMode), num (modeInEffect s.dev l).code, 1] } })) ∧
    (s.dev.lamp l = true ↔ modeInEffect s.dev l = .on ∨ (modeInEffect s.dev l = .flashSlow ∧ s.dev.tlu.flash < 500) ∨
      (modeInEffect s.dev l = .flashFast ∧ s.dev.tlu.flash % 250 < 125)) ∧
    (s.dev.inReset = false → flashes (modeInEffect s.dev l) →
      (p.staged = some mode → exec (.lampBoundary l) s = .next { s with dev := applied }) ∧
      (p.staged = none → exec (.lampBoundary l) s = .next s))

/-! ## The trunk port -/

/-- R188, R192, R193, R194: STATUS reports and clears the six counters if asked to; SET-TIME loads the clock and answers
with the old value; DEVICE-RESET closes the taking; an unknown code and a payload of length 0 are refused. The line byte
of STATUS, high 0 and low 1, is the model's reading (notes/assumptions/12.md). -/
def Obligations.TrunkRequests : Prop :=
  ∀ (s : State) (tag a b c e : Byte) (n : Nat) (fs : List Byte) (clear : Bool),
    let k := s.dev.trunk
    let x := request tag 0x60 [flag clear]
    let y := request tag 0x61 [a, b, c, e]
    let z := request tag 0x62 []
    let kept := if clear then { k with checkErrors := 0, malformed := 0, wrongDirection := 0, busyRefusals := 0
                                       dropped := 0, ignoredCredits := 0 } else k
    (Waits s x → exec .status s = .next (withTrunk s (answered kept x .done
        ([num k.cause.code] ++ four k.clock.toNat ++ [num k.bitRate.code] ++ two k.checkErrors ++ two k.malformed ++
          two k.wrongDirection ++ two k.busyRefusals ++ two k.dropped ++ two k.ignoredCredits ++
          [num (k.requests.length - 1), num k.replies.length] ++ two s.dev.pool.freeList.length ++
          [flag s.dev.drawers.inhibit, if s.dev.drawers.supplyHigh then 0 else 1])))) ∧
    (Waits s y → exec .setTime s = .next (withTrunk s (answered
      { k with clock := BitVec.ofNat 32 (a.toNat + 256 * b.toNat + 65536 * c.toNat + 16777216 * e.toNat) }
      y .done (four k.clock.toNat)))) ∧
    (Waits s z → exec .deviceReset s = .next (withTrunk s (answered { k with takingClosed := true } z .done []))) ∧
    (n < 256 → n ∉ fixedLength.map Prod.fst → n ≠ 0x18 → n ≠ 0x4A → Waits s (request tag n fs) →
      exec .unknownRequest s = .next (onlyAnswered s (request tag n fs) .refusedUnknown [])) ∧
    (Waits s { tag := tag, payload := [] } →
      exec .emptyRequest s = .next (onlyAnswered s { tag := tag, payload := [] } .refusedMalformed []))

/-- R186, R187: the last byte of a REQUEST frame whose check word matches puts the request into the FIFO, or answers it
REFUSED-BUSY, or drops it. -/
def Obligations.RequestFrame : Prop :=
  ∀ (s : State) (tag last : Byte) (payload : List Byte) (check : Byte),
    let k := s.dev.trunk
    let body := [0xA1, tag, num payload.length] ++ payload
    let r : Request := { tag := tag, payload := payload }
    let k' := { k with receiver := .waitIdle, waitFresh := true, frame := [] }
    let busy := k.replies.length + (if k.inProgress.isSome then 1 else 0)
    s.dev.inReset = false → k.receiver = .receiving → payload.length ≤ 64 → k.frame = body ++ [check] →
    [check, last] = checkBytes body →
    exec (.requestFrame last) s = .next (withTrunk s
      (if k.requests.length < 4 then { k' with requests := k.requests ++ [r] }
      else if busy < 4 then
        { k' with
          replies := k.replies ++ [{ tag := tag, request := r.replyCode, code := .refusedBusy, fields := [] }]
          busyRefusals := min 65535 (k.busyRefusals + 1) }
      else { k' with dropped := min 65535 (k.dropped + 1) }))

/-- R139, R140, R186: the last byte of a CREDIT frame acts on its consumer: an ACTIVE one gains credit up to 255, and its
stall timer stops above 0; a STALLED one becomes ACTIVE and CONSUMER-REVIVED is queued on lane 16; an INACTIVE one or a
number above 7 is ignored and counted. -/
def Obligations.CreditFrame : Prop :=
  ∀ (s : State) (addr last count check : Byte),
    let k := s.dev.trunk
    let body := [0xC1, addr, 1, count]
    let k' := { k with receiver := .waitIdle, waitFresh := true, frame := [] }
    s.dev.inReset = false → k.receiver = .receiving → k.frame = body ++ [check] → [check, last] = checkBytes body →
    let ignored := exec (.creditFrame last) s =
      .next (withTrunk s { k' with ignoredCredits := min 65535 (k.ignoredCredits + 1) })
    let goes := fun (c : Fin 8) (v : Consumer) (p : Pool) => exec (.creditFrame last) s = .next { s with dev := { s.dev with
      delivery := { s.dev.delivery with consumers := s.dev.delivery.consumers.set c v }, pool := p, trunk := k' } }
    (7 < addr.toNat → ignored) ∧
    ∀ c : Fin 8, addr = num c →
      let x := s.dev.delivery.consumers[c]
      (x.state = .inactive → ignored) ∧
      (x.state = .active → ConsumersSound s.dev →
        goes c { x with credit := min 255 (x.credit + count.toNat)
                        stallTimer := if x.credit + count.toNat = 0 then x.stallTimer else none } s.dev.pool) ∧
      (x.state = .stalled → ConsumersSound s.dev → room s.dev deviceQueue 1 →
        goes c { x with state := .active, credit := count.toNat }
          (queued s.dev deviceQueue .consumerRevived none c count.toNat))

/-- R184: the receiver between frames, within one, and when a frame is abandoned.

R186: a complete frame that fails a test is discarded and counted: a check word that differs, then an unknown kind, then
a kind that travels up, then a CREDIT frame whose payload length is not 1. -/
def Obligations.ReceiverAndRejects : Prop :=
  (∀ (s : State) (b : Byte), s.dev.inReset = false →
    let k := s.dev.trunk
    let goes := fun (v : Trunk) => (.next (withTrunk s v) : Host.Outcome State Fault Refusal)
    let abandoned := { k with receiver := .waitIdle, waitFresh := false, frame := []
                              malformed := min 65535 (k.malformed + 1) }
    (k.receiver = .waitIdle →
      exec .receiverIdle s = goes { k with receiver := .idle, waitFresh := false } ∧
      exec .waitIdleCharacter s =
        (if k.waitFresh then goes { k with waitFresh := false, malformed := min 65535 (k.malformed + 1) } else .next s)) ∧
    (k.receiver = .idle → k.frame = [] →
      exec (.trunkCharacterStored b) s = goes { k with receiver := .receiving, frame := [b] }) ∧
    (k.receiver = .receiving →
      ((k.frame.length = 2 → b.toNat ≤ 64) →
        (∀ n, k.frame[2]? = some n → k.frame.length + 1 < 5 + n.toNat) →
        exec (.trunkCharacterStored b) s = goes { k with frame := k.frame ++ [b] }) ∧
      (k.frame.length = 2 → 64 < b.toNat → exec (.frameAbandoned (.lengthAbove64 b)) s = goes abandoned) ∧
      exec (.frameAbandoned .idleGap) s = goes abandoned) ∧
    (k.receiver ≠ .waitIdle → exec (.frameAbandoned .badStopBit) s = goes abandoned)) ∧
  (∀ (s : State) (kind addr check last : Byte) (payload : List Byte),
    let k := s.dev.trunk
    let body := [kind, addr, num payload.length] ++ payload
    let k' := { k with receiver := .waitIdle, waitFresh := true, frame := [] }
    let goes := fun (v : Trunk) => exec (.frameRejected last) s = .next (withTrunk s v)
    s.dev.inReset = false → k.receiver = .receiving → payload.length ≤ 64 → k.frame = body ++ [check] →
    if [check, last] ≠ checkBytes body then goes { k' with checkErrors := min 65535 (k.checkErrors + 1) }
    else if kind ≠ 0xA1 ∧ kind ≠ 0xA2 ∧ kind ≠ 0xC1 ∧ kind ≠ 0xE1 then
      goes { k' with malformed := min 65535 (k.malformed + 1) }
    else if kind = 0xA2 ∨ kind = 0xE1 then goes { k' with wrongDirection := min 65535 (k.wrongDirection + 1) }
    else if kind = 0xC1 ∧ payload.length ≠ 1 then goes { k' with malformed := min 65535 (k.malformed + 1) }
    else True)

/-- R144, R145, R190: at FREE the oldest reply is sent; else the chosen consumer's head reference, as a frame with the
slot's record, the consumer's loss flag in AFTER-LOSS and URGENT as its queue says, the credit one less, the flag
cleared, the consumer last served and the reference given up; else nothing.

R190, R194: after the last check byte the transmitter is in GAP, and FREE at the gap's end; after the DONE reply of
DEVICE-RESET the part starts up with cause TRUNK. -/
def Obligations.Transmitter : Prop :=
  (∀ s : State, s.dev.inReset = false → s.dev.trunk.transmitter = .free →
    let k := s.dev.trunk
    (∀ r rest, k.replies = r :: rest → exec .transmitChoice s = .next { s with dev := { s.dev with trunk :=
      { k with replies := rest, transmitter := .sending (.reply r) } } }) ∧
    (k.replies = [] → s.dev.delivery.chooseFrame = none → exec .transmitChoice s = .next s) ∧
    (∀ c ref urgent slot, k.replies = [] → s.dev.delivery.chooseFrame = some (c, ref, urgent) →
      s.dev.pool.slots[ref] = some slot →
      let x := s.dev.delivery.consumers[c]
      ∃ t, exec .transmitChoice s = .next t ∧ t.pending = s.pending ∧
        (let ev := { slot.ev with afterLoss := slot.ev.afterLoss || x.lossFlag }
         t.dev.trunk = { k with transmitter := .sending (.event c ev slot.body urgent) }) ∧
        (let y := t.dev.delivery.consumers[c]
         y.credit = x.credit - 1 ∧ y.lossFlag = false ∧ y.state = x.state ∧ y.drops = x.drops ∧ y.depth = x.depth ∧
         y.urgentQ = (if urgent then x.urgentQ.tail else x.urgentQ) ∧
         y.routineQ = (if urgent then x.routineQ else x.routineQ.tail)) ∧
        (∀ m : Fin 8, m ≠ c → t.dev.delivery.consumers[m] = s.dev.delivery.consumers[m]) ∧
        t.dev.delivery = { s.dev.delivery with lastServed := c, consumers := t.dev.delivery.consumers } ∧
        (slot.refs ≤ 1 → t.dev.pool =
          { s.dev.pool with slots := s.dev.pool.slots.set ref none, freeList := s.dev.pool.freeList ++ [ref] }) ∧
        (1 < slot.refs → t.dev.pool =
          { s.dev.pool with slots := s.dev.pool.slots.set ref (some { slot with refs := slot.refs - 1 }) }) ∧
        t.dev = { s.dev with trunk := t.dev.trunk, pool := t.dev.pool, delivery := t.dev.delivery })) ∧
  (∀ (s : State) (i : Inputs) (f : OutFrame) (tag : Byte) (fields : List Byte), s.dev.inReset = false →
    let k := s.dev.trunk
    (k.transmitter = .sending f → (∀ r, f = .reply r → r.request ≠ 0x62 ∨ r.code ≠ .done) →
      exec (.transmitFrameEnd i) s = .next { s with dev := { s.dev with trunk := { k with transmitter := .gap } } }) ∧
    (k.transmitter = .sending (.reply { tag := tag, request := 0x62, code := .done, fields := fields }) →
      i.supplyHigh = true → exec (.transmitFrameEnd i) s = .next { s with dev := startedUp .trunk i }) ∧
    (k.transmitter = .gap →
      exec .transmitGapEnd s = .next { s with dev := { s.dev with trunk := { k with transmitter := .free } } }))

/-! ## Requests that report -/

/-- R22, R46, R52, R89, R102, R120, R133, R146, R167, R198: what each request that reports carries, field by field; it
changes nothing but the counters that its clear flag names, and for READ-POOL the low-water mark. The codes of the
enumerated fields without given codes, the fixed character format's byte and the 4 bytes of a received count are the
model's reading (notes/assumptions/12.md), as are the record marks of a port with no record in progress
(notes/assumptions/25.md). -/
def Obligations.ReportContents : Prop :=
  ∀ (s : State) (tag lo hi : Byte) (l : Fin 16) (row : Fin 8) (i : Fin 8) (count : Nat) (p n : Fin 32) (bank : Bool)
    (x : Fin 64) (c : Fin 8) (clear : Bool),
    let d := s.dev
    let r := d.lanes[l]
    let m := d.scanner.lanes[l]
    let image := d.keymaps.images[i]
    let lanesWith := fun f : Fin 16 → Bool => ((List.finRange 16).map fun k => if f k then 2 ^ k.val else 0).sum
    let port := d.ports[p]
    let buffer := fun v : Buffer =>
      num v.state.code :: four (if v.state = .free then 0xFFFFFFFF else v.received)
    let place := if bank then d.rules.shadow[n] else d.rules.active[n]
    let k := d.delivery.consumers[c]
    let u := d.drawers
    let w := u.drawers[n]
    let reports := fun (cmd : Instr) (q : Request) (code : ReplyCode) (fields : List Byte) (d' : Device) => Waits s q →
      exec cmd s = .next { s with dev := { d' with trunk := answered d.trunk q code fields } }
    let cleared := fun (d' : Device) => if clear then d' else d
    let noRecords := { port with cRecords := 0, cDamaged := 0, cOverlength := 0, cOverrun := 0, cDiscarded := 0 }
    let noHits := if bank then { d.rules with shadow := d.rules.shadow.set n { place with hits := 0 } }
      else { d.rules with active := d.rules.active.set n { place with hits := 0 } }
    let noLosses := { d.pool with lanes := d.pool.lanes.map fun q => { q with lossCount := 0 }
                                  unwanted := 0, lowWater := d.pool.freeList.length }
    reports .readLane (request tag 0x07 [num l, flag clear]) .done
      ([num r.state.code, num r.keyLock.code, flag r.settled, if r.windowOpen then 0 else 1] ++ two r.tenderTimer ++
        two r.wakeHoldOff ++ [flag r.pendingSet.isSome] ++
        settingBytes (if clear then r.pendingSet.getD r.active else r.active)) d ∧
    reports .readKeys (request tag 0x11 [num l, num row, flag clear]) .done
      ([flag m.waiting + 2 * flag (d.scanner.laneInPass == some l)] ++ two m.missCount ++
        [num (m.countKeys .pressed), num (m.countKeys .blocked), num (m.countKeys .latched), num d.scanner.dwell] ++
        (List.finRange 16).flatMap fun j =>
          let at' : Fin 128 := ⟨row.val * 16 + j.val, by omega⟩
          [num m.keys[at'].code, num m.integ[at']])
      (cleared { d with scanner := { d.scanner with lanes := d.scanner.lanes.set l { m with missCount := 0 } } }) ∧
    (let first := lo.toNat + 256 * hi.toNat
     1 ≤ count → count ≤ 16 → first + count ≤ 512 →
      reports .readKeymap (request tag 0x19 [num i, lo, hi, num count]) .done
        ([num image.state.code] ++ two (lanesWith fun k => d.keymaps.lanes[k].active == some i) ++
          two (lanesWith fun k => d.keymaps.lanes[k].pendingImg == some i) ++
          ((image.entries.toList.drop first).take count).flatMap keyBytes) d) ∧
    reports .readPort (request tag 0x21 [num p, flag clear]) .done
      ([num port.state.code, if port.state = .active ∧ port.current.isSome then 0 else 1,
          match port.current with | some .x => 0 | some .y => 1 | none => 0xFF] ++
        buffer port.bufX ++ buffer port.bufY ++
        [flag port.markDamaged, flag port.markOverlength, flag port.markOverrun, flag port.overrun,
          num port.bitRate.code, 0, port.terminator.getD 0xFF, num port.idleGap, flag port.enable] ++
        two port.cRecords ++ two port.cDamaged ++ two port.cOverlength ++ two port.cOverrun ++ two port.cDiscarded)
      (cleared { d with ports := d.ports.set p noRecords }) ∧
    reports .readRule (request tag 0x29 [flag bank, num n, flag clear]) .done (ruleBytes place.rule ++ two place.hits)
      (cleared { d with rules := noHits }) ∧
    reports .readPool (request tag 0x31 [flag clear]) .done
      (two d.pool.freeList.length ++ two d.pool.lowWater ++ [num d.pool.reserve, num d.pool.limit] ++
        two d.pool.unwanted ++ (List.finRange 17).flatMap fun q =>
          two d.pool.lanes[q].lossCount ++
            [num (d.pool.lanes[q].queue.length + if d.pool.lanes[q].waiting then 128 else 0)])
      (cleared { d with pool := noLosses }) ∧
    (d.delivery.table[x].valid = true →
      reports .tableRead (request tag 0x38 [num x]) .donePresent (entryBytes d.delivery.table[x]) d) ∧
    (d.delivery.table[x].valid = false → reports .tableRead (request tag 0x38 [num x]) .doneAbsent [] d) ∧
    reports .readConsumer (request tag 0x41 [num c, flag clear]) .done
      ([num k.state.code, num k.credit, num k.depth, num k.urgentQ.length, num k.routineQ.length, flag k.lossFlag] ++
        two k.drops ++ four (k.stallTimer.getD 0xFFFFFFFF) ++
        [num d.delivery.lastServed, flag d.delivery.chooseFrame.isSome])
      (cleared { d with delivery := { d.delivery with consumers := d.delivery.consumers.set c { k with drops := 0 } } }) ∧
    reports .readDrawer (request tag 0x4B [num n]) .done
      ([flag w.present, num w.position.code, flag w.settled, if w.senseInput = .opened then 0 else 1, num w.kick.code,
          orNone (w.unitHeld.map Fin.val)] ++
        two (w.kickTimer.getD 0xFFFF) ++ [flag w.openedInPulse, orNone ((u.waitList.idxOf? n).map (· + 1))] ++
        four w.openTime ++ two (w.limitTimer.getD 0xFFFF) ++ two w.limitsPassed ++ two w.openCount ++
        [num w.pulseWidth, num w.confirmTime, num w.openLimit] ++ (u.units.toList.map fun v => num v.state.code) ++
        [num u.supplyLimit, orNone u.pendingLimit, num u.supplyGap, num u.waitList.length, flag u.inhibit,
          flag u.monitor, if u.supplyHigh then 0 else 1]) d

/-! ## The whole part -/

/-- R188, R189: a request that is answered with a REFUSED code other than VERIFY-KEYMAP's REFUSED-CHECK changes nothing but
the trunk's two FIFOs; KICK is not among these rows, since its refusals queue KICK-REFUSED (R151). R196: a request whose
payload has not its one length, or holds a field that its list or range does not admit, is refused REFUSED-MALFORMED,
KICK among them; WRITE-KEYMAP and the two forms of SET-DRAWER likewise, by their own layouts (notes/assumptions/8.md says
which row takes a SET-DRAWER without a scope). -/
def Obligations.RefusalsChangeNothing : Prop :=
  ∀ (s t : State) (c : Instr) (r : Request) (tag scope : Byte) (fs : List Byte),
    let turnsAway := fun (cmd : Instr) (q : Request) =>
      exec cmd s = .next (onlyAnswered s q .refusedMalformed [])
    (isRequestRow c = true → s.dev.trunk.inProgress = none → exec c s = .next t →
      (∃ a, t.dev.trunk.replies = s.dev.trunk.replies ++ [a] ∧ 0x80 ≤ a.code.code) →
      t = { s with dev := { s.dev with trunk := { s.dev.trunk with
        requests := s.dev.trunk.requests.tail, replies := t.dev.trunk.replies } } }) ∧
    (∀ code len, (code, c, len) ∈ fixedLength → Waits s r → r.code? = some code →
      r.payload.length ≠ len ∨ badFields code r.fields → turnsAway c r) ∧
    (Waits s (request tag 0x18 fs) → ¬ keymapFields fs → turnsAway .writeKeymap (request tag 0x18 fs)) ∧
    (Waits s (request tag 0x4A []) → turnsAway .setDrawerDrawer (request tag 0x4A [])) ∧
    (Waits s (request tag 0x4A (scope :: fs)) →
      (2 ≤ scope.toNat ∨ (scope = 0 ∧ ¬ drawerFields fs) →
        turnsAway .setDrawerDrawer (request tag 0x4A (scope :: fs))) ∧
      (scope = 1 ∧ ¬ supplyFields fs → turnsAway .setDrawerSupply (request tag 0x4A (scope :: fs))))

/-- 1.2: no command but the lane requests, a due point and the resets changes any lane's state. -/
def Obligations.LaneStateChangers : Prop :=
  ∀ (s t : State) (c : Instr) (l : Fin 16), mayChangeLaneState c = false → exec c s = .next t →
    t.dev.lanes[l].state = s.dev.lanes[l].state

/-- 11.4, R197, R198: what the part writes it reads back: a keymap entry, a delivery table entry, a scan rule, a setting
set; and a frame it would send as a REQUEST is judged to be that request. -/
def Obligations.EncodingsRoundTrip : Prop :=
  (∀ e : KeyEntry, ∃ a b c, outKeyEntry e = [a, b, c] ∧ inKeyEntry a b c = some e) ∧
  (∀ e : TableEntry, e.valid = true → inTableEntry (outTableEntry e) = some e) ∧
  (∀ r : ScanRule, r.clamped = r → rawRule (outRule r) = some r) ∧
  (∀ g : Settings, g.clamped = g → rawSettings (outSettings g) = some g) ∧
  (∀ (tag : Byte) (payload : List Byte), payload.length ≤ 64 →
    let body := [0xA1, tag, num payload.length] ++ payload
    judge (body ++ checkBytes body) = .request { tag := tag, payload := payload }) ∧
  (∀ f : OutFrame, f.payload.length ≤ 64 →
    frameComplete f.bytes = true ∧ (judge f.bytes = .rejected .wrongDirection))

/-! ## What every step keeps -/

/-- Every step keeps the bounds of the queues (R107, R182, R187). -/
def Obligations.StepKeepsQueueBounds : Prop :=
  ∀ s t : State, QueuesBounded s.dev → step s = .next t → QueuesBounded t.dev

/-- Every step keeps the supply sound: no more units in use than K, the inhibit, the wait list (R154, R155, R158). -/
def Obligations.StepKeepsSupply : Prop :=
  ∀ s t : State, SupplySound s.dev → step s = .next t → SupplySound t.dev

/-- Every step keeps the slots' reference counts and the consumers' queues sound (R110, R122, R128, R140). -/
def Obligations.StepKeepsSlots : Prop :=
  ∀ s t : State, SlotsSound s.dev → ConsumersSound s.dev → step s = .next t →
    SlotsSound t.dev ∧ ConsumersSound t.dev

/-- Every step keeps lanes and keyboards sound (R12, R15, R16, R18, R36, R39, R61). A wake reading is due only in a lane
whose wake monitor runs, so the end of a pass takes a reading for no other lane. -/
def Obligations.StepKeepsLanes : Prop :=
  ∀ s t : State, KeyboardSound s.dev → LaneSound s.dev → step s = .next t →
    KeyboardSound t.dev ∧ LaneSound t.dev

/-- Every step keeps the ports' buffers sound, and each HELD buffer referred to by one entry of its lane (R75, R79,
R80). -/
def Obligations.StepKeepsBuffers : Prop :=
  ∀ s t : State, PortsSound s.dev → HeldBuffersSound s.dev → step s = .next t →
    PortsSound t.dev ∧ HeldBuffersSound t.dev

/-- Every step keeps settings and keymap assignments sound (R20, R21, R49, R55, R56). -/
def Obligations.StepKeepsAssignments : Prop :=
  ∀ s t : State, step s = .next t →
    (SettingsInRange s.dev → SettingsInRange t.dev) ∧ (KeymapsSound s.dev → KeymapsSound t.dev)

/-- Every step keeps the receiver, the tones and lamps, and the counters within their ranges (R171, R180, R182, R184). -/
def Obligations.StepKeepsCounts : Prop :=
  ∀ s t : State, step s = .next t →
    (ReceiverSound s.dev → ReceiverSound t.dev) ∧ (TonesSound s.dev → TonesSound t.dev) ∧
    (CountersBounded s.dev → CountersBounded t.dev)

/-- The part just started meets every one of these invariants, for every cause and all inputs. -/
def Obligations.StartMeetsInvariants : Prop :=
  ∀ (cause : ResetCause) (i : Inputs),
    let d := startUp cause i
    QueuesBounded d ∧ SupplySound d ∧ SlotsSound d ∧ ConsumersSound d ∧ KeyboardSound d ∧ LaneSound d ∧
    PortsSound d ∧ HeldBuffersSound d ∧ SettingsInRange d ∧ KeymapsSound d ∧ ReceiverSound d ∧ TonesSound d ∧
    CountersBounded d
end

