-- ==== Sys2Proof/Laws/State.lean ====
section
/-! SUPPORT. One lemma per field of the part per update of it, and the laws of tables: no later proof unfolds a record
update. -/

namespace Sys2Proof.Machine

/-! ## Tables -/

@[simp] theorem upd_getElem_nat {α : Type} {n : Nat} (v : Table α n) (i : Fin n) (f : α → α) (j : Nat) (h : j < n) :
    (upd v i f)[j] = if j = i.val then f v[j] else v[j] := by
  simp only [upd, Fin.getElem_fin, Vector.getElem_set]
  by_cases e : i.val = j
  · subst e; simp
  · simp [e, Ne.symm e]

@[simp] theorem tab_getElem_nat {α : Type} {n : Nat} (f : Fin n → α) (j : Nat) (h : j < n) :
    (tab f)[j] = f ⟨j, h⟩ := by simp [tab]

@[simp] theorem mapTab_getElem_nat {α β : Type} {n : Nat} (v : Table α n) (f : α → β) (j : Nat) (h : j < n) :
    (mapTab v f)[j] = f v[j] := by simp [mapTab]

theorem upd_getElem {α : Type} {n : Nat} (v : Table α n) (i j : Fin n) (f : α → α) :
    (upd v i f)[j] = if j = i then f v[j] else v[j] := by simp [Fin.ext_iff]

theorem upd_getElem_self {α : Type} {n : Nat} (v : Table α n) (i : Fin n) (f : α → α) : (upd v i f)[i] = f v[i] := by
  simp

theorem upd_getElem_ne {α : Type} {n : Nat} (v : Table α n) {i j : Fin n} (f : α → α) (h : j ≠ i) :
    (upd v i f)[j] = v[j] := by rw [upd_getElem, if_neg h]

theorem tab_getElem {α : Type} {n : Nat} (f : Fin n → α) (i : Fin n) : (tab f)[i] = f i := by simp

theorem mapTab_getElem {α β : Type} {n : Nat} (v : Table α n) (f : α → β) (i : Fin n) :
    (mapTab v f)[i] = f v[i] := by simp

/-- The rotation meets every number (R27, R112, R144). -/
theorem mem_rotation {n : Nat} [NeZero n] (last i : Fin n) : i ∈ rotation last := by
  simp only [rotation, List.mem_map, List.mem_finRange, true_and]
  exact ⟨i - (last + 1), by abel⟩

/-- The rotation meets the last served at its end. -/
theorem rotation_length {n : Nat} [NeZero n] (last : Fin n) : (rotation last).length = n := by simp [rotation]

/-! ## Fields of the part after an update -/

@[simp] theorem Device.updLane_lanes (d : Device) (l : Fin 16) (f : LaneRec → LaneRec) :
    (d.updLane l f).lanes = upd d.lanes l f := rfl

@[simp] theorem Device.updLane_scanner (d : Device) (l : Fin 16) (f : LaneRec → LaneRec) :
    (d.updLane l f).scanner = d.scanner := rfl

@[simp] theorem Device.updLane_trans (d : Device) (l : Fin 16) (f : LaneRec → LaneRec) :
    (d.updLane l f).trans = d.trans := rfl

@[simp] theorem Device.updLane_keymaps (d : Device) (l : Fin 16) (f : LaneRec → LaneRec) :
    (d.updLane l f).keymaps = d.keymaps := rfl

@[simp] theorem Device.updLane_ports (d : Device) (l : Fin 16) (f : LaneRec → LaneRec) :
    (d.updLane l f).ports = d.ports := rfl

@[simp] theorem Device.updLane_rules (d : Device) (l : Fin 16) (f : LaneRec → LaneRec) :
    (d.updLane l f).rules = d.rules := rfl

@[simp] theorem Device.updLane_pool (d : Device) (l : Fin 16) (f : LaneRec → LaneRec) :
    (d.updLane l f).pool = d.pool := rfl

@[simp] theorem Device.updLane_delivery (d : Device) (l : Fin 16) (f : LaneRec → LaneRec) :
    (d.updLane l f).delivery = d.delivery := rfl

@[simp] theorem Device.updLane_drawers (d : Device) (l : Fin 16) (f : LaneRec → LaneRec) :
    (d.updLane l f).drawers = d.drawers := rfl

@[simp] theorem Device.updLane_tlu (d : Device) (l : Fin 16) (f : LaneRec → LaneRec) :
    (d.updLane l f).tlu = d.tlu := rfl

@[simp] theorem Device.updLane_trunk (d : Device) (l : Fin 16) (f : LaneRec → LaneRec) :
    (d.updLane l f).trunk = d.trunk := rfl

@[simp] theorem Device.updLane_inReset (d : Device) (l : Fin 16) (f : LaneRec → LaneRec) :
    (d.updLane l f).inReset = d.inReset := rfl

@[simp] theorem Device.updLane_usPhase (d : Device) (l : Fin 16) (f : LaneRec → LaneRec) :
    (d.updLane l f).usPhase = d.usPhase := rfl

@[simp] theorem Device.updScanner_lanes (d : Device) (f : Scanner → Scanner) :
    (d.updScanner f).lanes = d.lanes := rfl

@[simp] theorem Device.updScanner_scanner (d : Device) (f : Scanner → Scanner) :
    (d.updScanner f).scanner = f d.scanner := rfl

@[simp] theorem Device.updScanner_trans (d : Device) (f : Scanner → Scanner) :
    (d.updScanner f).trans = d.trans := rfl

@[simp] theorem Device.updScanner_keymaps (d : Device) (f : Scanner → Scanner) :
    (d.updScanner f).keymaps = d.keymaps := rfl

@[simp] theorem Device.updScanner_ports (d : Device) (f : Scanner → Scanner) :
    (d.updScanner f).ports = d.ports := rfl

@[simp] theorem Device.updScanner_rules (d : Device) (f : Scanner → Scanner) :
    (d.updScanner f).rules = d.rules := rfl

@[simp] theorem Device.updScanner_pool (d : Device) (f : Scanner → Scanner) :
    (d.updScanner f).pool = d.pool := rfl

@[simp] theorem Device.updScanner_delivery (d : Device) (f : Scanner → Scanner) :
    (d.updScanner f).delivery = d.delivery := rfl

@[simp] theorem Device.updScanner_drawers (d : Device) (f : Scanner → Scanner) :
    (d.updScanner f).drawers = d.drawers := rfl

@[simp] theorem Device.updScanner_tlu (d : Device) (f : Scanner → Scanner) :
    (d.updScanner f).tlu = d.tlu := rfl

@[simp] theorem Device.updScanner_trunk (d : Device) (f : Scanner → Scanner) :
    (d.updScanner f).trunk = d.trunk := rfl

@[simp] theorem Device.updScanner_inReset (d : Device) (f : Scanner → Scanner) :
    (d.updScanner f).inReset = d.inReset := rfl

@[simp] theorem Device.updScanner_usPhase (d : Device) (f : Scanner → Scanner) :
    (d.updScanner f).usPhase = d.usPhase := rfl

@[simp] theorem Device.updScan_lanes (d : Device) (l : Fin 16) (f : LaneScan → LaneScan) :
    (d.updScan l f).lanes = d.lanes := rfl

@[simp] theorem Device.updScan_scanner (d : Device) (l : Fin 16) (f : LaneScan → LaneScan) :
    (d.updScan l f).scanner = { d.scanner with lanes := upd d.scanner.lanes l f } := rfl

@[simp] theorem Device.updScan_trans (d : Device) (l : Fin 16) (f : LaneScan → LaneScan) :
    (d.updScan l f).trans = d.trans := rfl

@[simp] theorem Device.updScan_keymaps (d : Device) (l : Fin 16) (f : LaneScan → LaneScan) :
    (d.updScan l f).keymaps = d.keymaps := rfl

@[simp] theorem Device.updScan_ports (d : Device) (l : Fin 16) (f : LaneScan → LaneScan) :
    (d.updScan l f).ports = d.ports := rfl

@[simp] theorem Device.updScan_rules (d : Device) (l : Fin 16) (f : LaneScan → LaneScan) :
    (d.updScan l f).rules = d.rules := rfl

@[simp] theorem Device.updScan_pool (d : Device) (l : Fin 16) (f : LaneScan → LaneScan) :
    (d.updScan l f).pool = d.pool := rfl

@[simp] theorem Device.updScan_delivery (d : Device) (l : Fin 16) (f : LaneScan → LaneScan) :
    (d.updScan l f).delivery = d.delivery := rfl

@[simp] theorem Device.updScan_drawers (d : Device) (l : Fin 16) (f : LaneScan → LaneScan) :
    (d.updScan l f).drawers = d.drawers := rfl

@[simp] theorem Device.updScan_tlu (d : Device) (l : Fin 16) (f : LaneScan → LaneScan) :
    (d.updScan l f).tlu = d.tlu := rfl

@[simp] theorem Device.updScan_trunk (d : Device) (l : Fin 16) (f : LaneScan → LaneScan) :
    (d.updScan l f).trunk = d.trunk := rfl

@[simp] theorem Device.updScan_inReset (d : Device) (l : Fin 16) (f : LaneScan → LaneScan) :
    (d.updScan l f).inReset = d.inReset := rfl

@[simp] theorem Device.updScan_usPhase (d : Device) (l : Fin 16) (f : LaneScan → LaneScan) :
    (d.updScan l f).usPhase = d.usPhase := rfl

@[simp] theorem Device.updTrans_lanes (d : Device) (l : Fin 16) (f : KeyTrans → KeyTrans) :
    (d.updTrans l f).lanes = d.lanes := rfl

@[simp] theorem Device.updTrans_scanner (d : Device) (l : Fin 16) (f : KeyTrans → KeyTrans) :
    (d.updTrans l f).scanner = d.scanner := rfl

@[simp] theorem Device.updTrans_trans (d : Device) (l : Fin 16) (f : KeyTrans → KeyTrans) :
    (d.updTrans l f).trans = upd d.trans l f := rfl

@[simp] theorem Device.updTrans_keymaps (d : Device) (l : Fin 16) (f : KeyTrans → KeyTrans) :
    (d.updTrans l f).keymaps = d.keymaps := rfl

@[simp] theorem Device.updTrans_ports (d : Device) (l : Fin 16) (f : KeyTrans → KeyTrans) :
    (d.updTrans l f).ports = d.ports := rfl

@[simp] theorem Device.updTrans_rules (d : Device) (l : Fin 16) (f : KeyTrans → KeyTrans) :
    (d.updTrans l f).rules = d.rules := rfl

@[simp] theorem Device.updTrans_pool (d : Device) (l : Fin 16) (f : KeyTrans → KeyTrans) :
    (d.updTrans l f).pool = d.pool := rfl

@[simp] theorem Device.updTrans_delivery (d : Device) (l : Fin 16) (f : KeyTrans → KeyTrans) :
    (d.updTrans l f).delivery = d.delivery := rfl

@[simp] theorem Device.updTrans_drawers (d : Device) (l : Fin 16) (f : KeyTrans → KeyTrans) :
    (d.updTrans l f).drawers = d.drawers := rfl

@[simp] theorem Device.updTrans_tlu (d : Device) (l : Fin 16) (f : KeyTrans → KeyTrans) :
    (d.updTrans l f).tlu = d.tlu := rfl

@[simp] theorem Device.updTrans_trunk (d : Device) (l : Fin 16) (f : KeyTrans → KeyTrans) :
    (d.updTrans l f).trunk = d.trunk := rfl

@[simp] theorem Device.updTrans_inReset (d : Device) (l : Fin 16) (f : KeyTrans → KeyTrans) :
    (d.updTrans l f).inReset = d.inReset := rfl

@[simp] theorem Device.updTrans_usPhase (d : Device) (l : Fin 16) (f : KeyTrans → KeyTrans) :
    (d.updTrans l f).usPhase = d.usPhase := rfl

@[simp] theorem Device.updKeymaps_lanes (d : Device) (f : KeymapStore → KeymapStore) :
    (d.updKeymaps f).lanes = d.lanes := rfl

@[simp] theorem Device.updKeymaps_scanner (d : Device) (f : KeymapStore → KeymapStore) :
    (d.updKeymaps f).scanner = d.scanner := rfl

@[simp] theorem Device.updKeymaps_trans (d : Device) (f : KeymapStore → KeymapStore) :
    (d.updKeymaps f).trans = d.trans := rfl

@[simp] theorem Device.updKeymaps_keymaps (d : Device) (f : KeymapStore → KeymapStore) :
    (d.updKeymaps f).keymaps = f d.keymaps := rfl

@[simp] theorem Device.updKeymaps_ports (d : Device) (f : KeymapStore → KeymapStore) :
    (d.updKeymaps f).ports = d.ports := rfl

@[simp] theorem Device.updKeymaps_rules (d : Device) (f : KeymapStore → KeymapStore) :
    (d.updKeymaps f).rules = d.rules := rfl

@[simp] theorem Device.updKeymaps_pool (d : Device) (f : KeymapStore → KeymapStore) :
    (d.updKeymaps f).pool = d.pool := rfl

@[simp] theorem Device.updKeymaps_delivery (d : Device) (f : KeymapStore → KeymapStore) :
    (d.updKeymaps f).delivery = d.delivery := rfl

@[simp] theorem Device.updKeymaps_drawers (d : Device) (f : KeymapStore → KeymapStore) :
    (d.updKeymaps f).drawers = d.drawers := rfl

@[simp] theorem Device.updKeymaps_tlu (d : Device) (f : KeymapStore → KeymapStore) :
    (d.updKeymaps f).tlu = d.tlu := rfl

@[simp] theorem Device.updKeymaps_trunk (d : Device) (f : KeymapStore → KeymapStore) :
    (d.updKeymaps f).trunk = d.trunk := rfl

@[simp] theorem Device.updKeymaps_inReset (d : Device) (f : KeymapStore → KeymapStore) :
    (d.updKeymaps f).inReset = d.inReset := rfl

@[simp] theorem Device.updKeymaps_usPhase (d : Device) (f : KeymapStore → KeymapStore) :
    (d.updKeymaps f).usPhase = d.usPhase := rfl

@[simp] theorem Device.updMap_lanes (d : Device) (l : Fin 16) (f : LaneMap → LaneMap) :
    (d.updMap l f).lanes = d.lanes := rfl

@[simp] theorem Device.updMap_scanner (d : Device) (l : Fin 16) (f : LaneMap → LaneMap) :
    (d.updMap l f).scanner = d.scanner := rfl

@[simp] theorem Device.updMap_trans (d : Device) (l : Fin 16) (f : LaneMap → LaneMap) :
    (d.updMap l f).trans = d.trans := rfl

@[simp] theorem Device.updMap_keymaps (d : Device) (l : Fin 16) (f : LaneMap → LaneMap) :
    (d.updMap l f).keymaps = { d.keymaps with lanes := upd d.keymaps.lanes l f } := rfl

@[simp] theorem Device.updMap_ports (d : Device) (l : Fin 16) (f : LaneMap → LaneMap) :
    (d.updMap l f).ports = d.ports := rfl

@[simp] theorem Device.updMap_rules (d : Device) (l : Fin 16) (f : LaneMap → LaneMap) :
    (d.updMap l f).rules = d.rules := rfl

@[simp] theorem Device.updMap_pool (d : Device) (l : Fin 16) (f : LaneMap → LaneMap) :
    (d.updMap l f).pool = d.pool := rfl

@[simp] theorem Device.updMap_delivery (d : Device) (l : Fin 16) (f : LaneMap → LaneMap) :
    (d.updMap l f).delivery = d.delivery := rfl

@[simp] theorem Device.updMap_drawers (d : Device) (l : Fin 16) (f : LaneMap → LaneMap) :
    (d.updMap l f).drawers = d.drawers := rfl

@[simp] theorem Device.updMap_tlu (d : Device) (l : Fin 16) (f : LaneMap → LaneMap) :
    (d.updMap l f).tlu = d.tlu := rfl

@[simp] theorem Device.updMap_trunk (d : Device) (l : Fin 16) (f : LaneMap → LaneMap) :
    (d.updMap l f).trunk = d.trunk := rfl

@[simp] theorem Device.updMap_inReset (d : Device) (l : Fin 16) (f : LaneMap → LaneMap) :
    (d.updMap l f).inReset = d.inReset := rfl

@[simp] theorem Device.updMap_usPhase (d : Device) (l : Fin 16) (f : LaneMap → LaneMap) :
    (d.updMap l f).usPhase = d.usPhase := rfl

@[simp] theorem Device.updImage_lanes (d : Device) (i : Fin 8) (f : Image → Image) :
    (d.updImage i f).lanes = d.lanes := rfl

@[simp] theorem Device.updImage_scanner (d : Device) (i : Fin 8) (f : Image → Image) :
    (d.updImage i f).scanner = d.scanner := rfl

@[simp] theorem Device.updImage_trans (d : Device) (i : Fin 8) (f : Image → Image) :
    (d.updImage i f).trans = d.trans := rfl

@[simp] theorem Device.updImage_keymaps (d : Device) (i : Fin 8) (f : Image → Image) :
    (d.updImage i f).keymaps = { d.keymaps with images := upd d.keymaps.images i f } := rfl

@[simp] theorem Device.updImage_ports (d : Device) (i : Fin 8) (f : Image → Image) :
    (d.updImage i f).ports = d.ports := rfl

@[simp] theorem Device.updImage_rules (d : Device) (i : Fin 8) (f : Image → Image) :
    (d.updImage i f).rules = d.rules := rfl

@[simp] theorem Device.updImage_pool (d : Device) (i : Fin 8) (f : Image → Image) :
    (d.updImage i f).pool = d.pool := rfl

@[simp] theorem Device.updImage_delivery (d : Device) (i : Fin 8) (f : Image → Image) :
    (d.updImage i f).delivery = d.delivery := rfl

@[simp] theorem Device.updImage_drawers (d : Device) (i : Fin 8) (f : Image → Image) :
    (d.updImage i f).drawers = d.drawers := rfl

@[simp] theorem Device.updImage_tlu (d : Device) (i : Fin 8) (f : Image → Image) :
    (d.updImage i f).tlu = d.tlu := rfl

@[simp] theorem Device.updImage_trunk (d : Device) (i : Fin 8) (f : Image → Image) :
    (d.updImage i f).trunk = d.trunk := rfl

@[simp] theorem Device.updImage_inReset (d : Device) (i : Fin 8) (f : Image → Image) :
    (d.updImage i f).inReset = d.inReset := rfl

@[simp] theorem Device.updImage_usPhase (d : Device) (i : Fin 8) (f : Image → Image) :
    (d.updImage i f).usPhase = d.usPhase := rfl

@[simp] theorem Device.updPort_lanes (d : Device) (n : Fin 32) (f : Port → Port) :
    (d.updPort n f).lanes = d.lanes := rfl

@[simp] theorem Device.updPort_scanner (d : Device) (n : Fin 32) (f : Port → Port) :
    (d.updPort n f).scanner = d.scanner := rfl

@[simp] theorem Device.updPort_trans (d : Device) (n : Fin 32) (f : Port → Port) :
    (d.updPort n f).trans = d.trans := rfl

@[simp] theorem Device.updPort_keymaps (d : Device) (n : Fin 32) (f : Port → Port) :
    (d.updPort n f).keymaps = d.keymaps := rfl

@[simp] theorem Device.updPort_ports (d : Device) (n : Fin 32) (f : Port → Port) :
    (d.updPort n f).ports = upd d.ports n f := rfl

@[simp] theorem Device.updPort_rules (d : Device) (n : Fin 32) (f : Port → Port) :
    (d.updPort n f).rules = d.rules := rfl

@[simp] theorem Device.updPort_pool (d : Device) (n : Fin 32) (f : Port → Port) :
    (d.updPort n f).pool = d.pool := rfl

@[simp] theorem Device.updPort_delivery (d : Device) (n : Fin 32) (f : Port → Port) :
    (d.updPort n f).delivery = d.delivery := rfl

@[simp] theorem Device.updPort_drawers (d : Device) (n : Fin 32) (f : Port → Port) :
    (d.updPort n f).drawers = d.drawers := rfl

@[simp] theorem Device.updPort_tlu (d : Device) (n : Fin 32) (f : Port → Port) :
    (d.updPort n f).tlu = d.tlu := rfl

@[simp] theorem Device.updPort_trunk (d : Device) (n : Fin 32) (f : Port → Port) :
    (d.updPort n f).trunk = d.trunk := rfl

@[simp] theorem Device.updPort_inReset (d : Device) (n : Fin 32) (f : Port → Port) :
    (d.updPort n f).inReset = d.inReset := rfl

@[simp] theorem Device.updPort_usPhase (d : Device) (n : Fin 32) (f : Port → Port) :
    (d.updPort n f).usPhase = d.usPhase := rfl

@[simp] theorem Device.updRules_lanes (d : Device) (f : Classifier → Classifier) :
    (d.updRules f).lanes = d.lanes := rfl

@[simp] theorem Device.updRules_scanner (d : Device) (f : Classifier → Classifier) :
    (d.updRules f).scanner = d.scanner := rfl

@[simp] theorem Device.updRules_trans (d : Device) (f : Classifier → Classifier) :
    (d.updRules f).trans = d.trans := rfl

@[simp] theorem Device.updRules_keymaps (d : Device) (f : Classifier → Classifier) :
    (d.updRules f).keymaps = d.keymaps := rfl

@[simp] theorem Device.updRules_ports (d : Device) (f : Classifier → Classifier) :
    (d.updRules f).ports = d.ports := rfl

@[simp] theorem Device.updRules_rules (d : Device) (f : Classifier → Classifier) :
    (d.updRules f).rules = f d.rules := rfl

@[simp] theorem Device.updRules_pool (d : Device) (f : Classifier → Classifier) :
    (d.updRules f).pool = d.pool := rfl

@[simp] theorem Device.updRules_delivery (d : Device) (f : Classifier → Classifier) :
    (d.updRules f).delivery = d.delivery := rfl

@[simp] theorem Device.updRules_drawers (d : Device) (f : Classifier → Classifier) :
    (d.updRules f).drawers = d.drawers := rfl

@[simp] theorem Device.updRules_tlu (d : Device) (f : Classifier → Classifier) :
    (d.updRules f).tlu = d.tlu := rfl

@[simp] theorem Device.updRules_trunk (d : Device) (f : Classifier → Classifier) :
    (d.updRules f).trunk = d.trunk := rfl

@[simp] theorem Device.updRules_inReset (d : Device) (f : Classifier → Classifier) :
    (d.updRules f).inReset = d.inReset := rfl

@[simp] theorem Device.updRules_usPhase (d : Device) (f : Classifier → Classifier) :
    (d.updRules f).usPhase = d.usPhase := rfl

@[simp] theorem Device.updPool_lanes (d : Device) (f : Pool → Pool) :
    (d.updPool f).lanes = d.lanes := rfl

@[simp] theorem Device.updPool_scanner (d : Device) (f : Pool → Pool) :
    (d.updPool f).scanner = d.scanner := rfl

@[simp] theorem Device.updPool_trans (d : Device) (f : Pool → Pool) :
    (d.updPool f).trans = d.trans := rfl

@[simp] theorem Device.updPool_keymaps (d : Device) (f : Pool → Pool) :
    (d.updPool f).keymaps = d.keymaps := rfl

@[simp] theorem Device.updPool_ports (d : Device) (f : Pool → Pool) :
    (d.updPool f).ports = d.ports := rfl

@[simp] theorem Device.updPool_rules (d : Device) (f : Pool → Pool) :
    (d.updPool f).rules = d.rules := rfl

@[simp] theorem Device.updPool_pool (d : Device) (f : Pool → Pool) :
    (d.updPool f).pool = f d.pool := rfl

@[simp] theorem Device.updPool_delivery (d : Device) (f : Pool → Pool) :
    (d.updPool f).delivery = d.delivery := rfl

@[simp] theorem Device.updPool_drawers (d : Device) (f : Pool → Pool) :
    (d.updPool f).drawers = d.drawers := rfl

@[simp] theorem Device.updPool_tlu (d : Device) (f : Pool → Pool) :
    (d.updPool f).tlu = d.tlu := rfl

@[simp] theorem Device.updPool_trunk (d : Device) (f : Pool → Pool) :
    (d.updPool f).trunk = d.trunk := rfl

@[simp] theorem Device.updPool_inReset (d : Device) (f : Pool → Pool) :
    (d.updPool f).inReset = d.inReset := rfl

@[simp] theorem Device.updPool_usPhase (d : Device) (f : Pool → Pool) :
    (d.updPool f).usPhase = d.usPhase := rfl

@[simp] theorem Device.updPend_lanes (d : Device) (q : Fin 17) (f : PendLane → PendLane) :
    (d.updPend q f).lanes = d.lanes := rfl

@[simp] theorem Device.updPend_scanner (d : Device) (q : Fin 17) (f : PendLane → PendLane) :
    (d.updPend q f).scanner = d.scanner := rfl

@[simp] theorem Device.updPend_trans (d : Device) (q : Fin 17) (f : PendLane → PendLane) :
    (d.updPend q f).trans = d.trans := rfl

@[simp] theorem Device.updPend_keymaps (d : Device) (q : Fin 17) (f : PendLane → PendLane) :
    (d.updPend q f).keymaps = d.keymaps := rfl

@[simp] theorem Device.updPend_ports (d : Device) (q : Fin 17) (f : PendLane → PendLane) :
    (d.updPend q f).ports = d.ports := rfl

@[simp] theorem Device.updPend_rules (d : Device) (q : Fin 17) (f : PendLane → PendLane) :
    (d.updPend q f).rules = d.rules := rfl

@[simp] theorem Device.updPend_pool (d : Device) (q : Fin 17) (f : PendLane → PendLane) :
    (d.updPend q f).pool = { d.pool with lanes := upd d.pool.lanes q f } := rfl

@[simp] theorem Device.updPend_delivery (d : Device) (q : Fin 17) (f : PendLane → PendLane) :
    (d.updPend q f).delivery = d.delivery := rfl

@[simp] theorem Device.updPend_drawers (d : Device) (q : Fin 17) (f : PendLane → PendLane) :
    (d.updPend q f).drawers = d.drawers := rfl

@[simp] theorem Device.updPend_tlu (d : Device) (q : Fin 17) (f : PendLane → PendLane) :
    (d.updPend q f).tlu = d.tlu := rfl

@[simp] theorem Device.updPend_trunk (d : Device) (q : Fin 17) (f : PendLane → PendLane) :
    (d.updPend q f).trunk = d.trunk := rfl

@[simp] theorem Device.updPend_inReset (d : Device) (q : Fin 17) (f : PendLane → PendLane) :
    (d.updPend q f).inReset = d.inReset := rfl

@[simp] theorem Device.updPend_usPhase (d : Device) (q : Fin 17) (f : PendLane → PendLane) :
    (d.updPend q f).usPhase = d.usPhase := rfl

@[simp] theorem Device.updDelivery_lanes (d : Device) (f : Delivery → Delivery) :
    (d.updDelivery f).lanes = d.lanes := rfl

@[simp] theorem Device.updDelivery_scanner (d : Device) (f : Delivery → Delivery) :
    (d.updDelivery f).scanner = d.scanner := rfl

@[simp] theorem Device.updDelivery_trans (d : Device) (f : Delivery → Delivery) :
    (d.updDelivery f).trans = d.trans := rfl

@[simp] theorem Device.updDelivery_keymaps (d : Device) (f : Delivery → Delivery) :
    (d.updDelivery f).keymaps = d.keymaps := rfl

@[simp] theorem Device.updDelivery_ports (d : Device) (f : Delivery → Delivery) :
    (d.updDelivery f).ports = d.ports := rfl

@[simp] theorem Device.updDelivery_rules (d : Device) (f : Delivery → Delivery) :
    (d.updDelivery f).rules = d.rules := rfl

@[simp] theorem Device.updDelivery_pool (d : Device) (f : Delivery → Delivery) :
    (d.updDelivery f).pool = d.pool := rfl

@[simp] theorem Device.updDelivery_delivery (d : Device) (f : Delivery → Delivery) :
    (d.updDelivery f).delivery = f d.delivery := rfl

@[simp] theorem Device.updDelivery_drawers (d : Device) (f : Delivery → Delivery) :
    (d.updDelivery f).drawers = d.drawers := rfl

@[simp] theorem Device.updDelivery_tlu (d : Device) (f : Delivery → Delivery) :
    (d.updDelivery f).tlu = d.tlu := rfl

@[simp] theorem Device.updDelivery_trunk (d : Device) (f : Delivery → Delivery) :
    (d.updDelivery f).trunk = d.trunk := rfl

@[simp] theorem Device.updDelivery_inReset (d : Device) (f : Delivery → Delivery) :
    (d.updDelivery f).inReset = d.inReset := rfl

@[simp] theorem Device.updDelivery_usPhase (d : Device) (f : Delivery → Delivery) :
    (d.updDelivery f).usPhase = d.usPhase := rfl

@[simp] theorem Device.updConsumer_lanes (d : Device) (c : Fin 8) (f : Consumer → Consumer) :
    (d.updConsumer c f).lanes = d.lanes := rfl

@[simp] theorem Device.updConsumer_scanner (d : Device) (c : Fin 8) (f : Consumer → Consumer) :
    (d.updConsumer c f).scanner = d.scanner := rfl

@[simp] theorem Device.updConsumer_trans (d : Device) (c : Fin 8) (f : Consumer → Consumer) :
    (d.updConsumer c f).trans = d.trans := rfl

@[simp] theorem Device.updConsumer_keymaps (d : Device) (c : Fin 8) (f : Consumer → Consumer) :
    (d.updConsumer c f).keymaps = d.keymaps := rfl

@[simp] theorem Device.updConsumer_ports (d : Device) (c : Fin 8) (f : Consumer → Consumer) :
    (d.updConsumer c f).ports = d.ports := rfl

@[simp] theorem Device.updConsumer_rules (d : Device) (c : Fin 8) (f : Consumer → Consumer) :
    (d.updConsumer c f).rules = d.rules := rfl

@[simp] theorem Device.updConsumer_pool (d : Device) (c : Fin 8) (f : Consumer → Consumer) :
    (d.updConsumer c f).pool = d.pool := rfl

@[simp] theorem Device.updConsumer_delivery (d : Device) (c : Fin 8) (f : Consumer → Consumer) :
    (d.updConsumer c f).delivery = { d.delivery with consumers := upd d.delivery.consumers c f } := rfl

@[simp] theorem Device.updConsumer_drawers (d : Device) (c : Fin 8) (f : Consumer → Consumer) :
    (d.updConsumer c f).drawers = d.drawers := rfl

@[simp] theorem Device.updConsumer_tlu (d : Device) (c : Fin 8) (f : Consumer → Consumer) :
    (d.updConsumer c f).tlu = d.tlu := rfl

@[simp] theorem Device.updConsumer_trunk (d : Device) (c : Fin 8) (f : Consumer → Consumer) :
    (d.updConsumer c f).trunk = d.trunk := rfl

@[simp] theorem Device.updConsumer_inReset (d : Device) (c : Fin 8) (f : Consumer → Consumer) :
    (d.updConsumer c f).inReset = d.inReset := rfl

@[simp] theorem Device.updConsumer_usPhase (d : Device) (c : Fin 8) (f : Consumer → Consumer) :
    (d.updConsumer c f).usPhase = d.usPhase := rfl

@[simp] theorem Device.updDrawers_lanes (d : Device) (f : DrawerUnit → DrawerUnit) :
    (d.updDrawers f).lanes = d.lanes := rfl

@[simp] theorem Device.updDrawers_scanner (d : Device) (f : DrawerUnit → DrawerUnit) :
    (d.updDrawers f).scanner = d.scanner := rfl

@[simp] theorem Device.updDrawers_trans (d : Device) (f : DrawerUnit → DrawerUnit) :
    (d.updDrawers f).trans = d.trans := rfl

@[simp] theorem Device.updDrawers_keymaps (d : Device) (f : DrawerUnit → DrawerUnit) :
    (d.updDrawers f).keymaps = d.keymaps := rfl

@[simp] theorem Device.updDrawers_ports (d : Device) (f : DrawerUnit → DrawerUnit) :
    (d.updDrawers f).ports = d.ports := rfl

@[simp] theorem Device.updDrawers_rules (d : Device) (f : DrawerUnit → DrawerUnit) :
    (d.updDrawers f).rules = d.rules := rfl

@[simp] theorem Device.updDrawers_pool (d : Device) (f : DrawerUnit → DrawerUnit) :
    (d.updDrawers f).pool = d.pool := rfl

@[simp] theorem Device.updDrawers_delivery (d : Device) (f : DrawerUnit → DrawerUnit) :
    (d.updDrawers f).delivery = d.delivery := rfl

@[simp] theorem Device.updDrawers_drawers (d : Device) (f : DrawerUnit → DrawerUnit) :
    (d.updDrawers f).drawers = f d.drawers := rfl

@[simp] theorem Device.updDrawers_tlu (d : Device) (f : DrawerUnit → DrawerUnit) :
    (d.updDrawers f).tlu = d.tlu := rfl

@[simp] theorem Device.updDrawers_trunk (d : Device) (f : DrawerUnit → DrawerUnit) :
    (d.updDrawers f).trunk = d.trunk := rfl

@[simp] theorem Device.updDrawers_inReset (d : Device) (f : DrawerUnit → DrawerUnit) :
    (d.updDrawers f).inReset = d.inReset := rfl

@[simp] theorem Device.updDrawers_usPhase (d : Device) (f : DrawerUnit → DrawerUnit) :
    (d.updDrawers f).usPhase = d.usPhase := rfl

@[simp] theorem Device.updDrawer_lanes (d : Device) (n : Fin 32) (f : Drawer → Drawer) :
    (d.updDrawer n f).lanes = d.lanes := rfl

@[simp] theorem Device.updDrawer_scanner (d : Device) (n : Fin 32) (f : Drawer → Drawer) :
    (d.updDrawer n f).scanner = d.scanner := rfl

@[simp] theorem Device.updDrawer_trans (d : Device) (n : Fin 32) (f : Drawer → Drawer) :
    (d.updDrawer n f).trans = d.trans := rfl

@[simp] theorem Device.updDrawer_keymaps (d : Device) (n : Fin 32) (f : Drawer → Drawer) :
    (d.updDrawer n f).keymaps = d.keymaps := rfl

@[simp] theorem Device.updDrawer_ports (d : Device) (n : Fin 32) (f : Drawer → Drawer) :
    (d.updDrawer n f).ports = d.ports := rfl

@[simp] theorem Device.updDrawer_rules (d : Device) (n : Fin 32) (f : Drawer → Drawer) :
    (d.updDrawer n f).rules = d.rules := rfl

@[simp] theorem Device.updDrawer_pool (d : Device) (n : Fin 32) (f : Drawer → Drawer) :
    (d.updDrawer n f).pool = d.pool := rfl

@[simp] theorem Device.updDrawer_delivery (d : Device) (n : Fin 32) (f : Drawer → Drawer) :
    (d.updDrawer n f).delivery = d.delivery := rfl

@[simp] theorem Device.updDrawer_drawers (d : Device) (n : Fin 32) (f : Drawer → Drawer) :
    (d.updDrawer n f).drawers = { d.drawers with drawers := upd d.drawers.drawers n f } := rfl

@[simp] theorem Device.updDrawer_tlu (d : Device) (n : Fin 32) (f : Drawer → Drawer) :
    (d.updDrawer n f).tlu = d.tlu := rfl

@[simp] theorem Device.updDrawer_trunk (d : Device) (n : Fin 32) (f : Drawer → Drawer) :
    (d.updDrawer n f).trunk = d.trunk := rfl

@[simp] theorem Device.updDrawer_inReset (d : Device) (n : Fin 32) (f : Drawer → Drawer) :
    (d.updDrawer n f).inReset = d.inReset := rfl

@[simp] theorem Device.updDrawer_usPhase (d : Device) (n : Fin 32) (f : Drawer → Drawer) :
    (d.updDrawer n f).usPhase = d.usPhase := rfl

@[simp] theorem Device.updTlu_lanes (d : Device) (f : ToneUnit → ToneUnit) :
    (d.updTlu f).lanes = d.lanes := rfl

@[simp] theorem Device.updTlu_scanner (d : Device) (f : ToneUnit → ToneUnit) :
    (d.updTlu f).scanner = d.scanner := rfl

@[simp] theorem Device.updTlu_trans (d : Device) (f : ToneUnit → ToneUnit) :
    (d.updTlu f).trans = d.trans := rfl

@[simp] theorem Device.updTlu_keymaps (d : Device) (f : ToneUnit → ToneUnit) :
    (d.updTlu f).keymaps = d.keymaps := rfl

@[simp] theorem Device.updTlu_ports (d : Device) (f : ToneUnit → ToneUnit) :
    (d.updTlu f).ports = d.ports := rfl

@[simp] theorem Device.updTlu_rules (d : Device) (f : ToneUnit → ToneUnit) :
    (d.updTlu f).rules = d.rules := rfl

@[simp] theorem Device.updTlu_pool (d : Device) (f : ToneUnit → ToneUnit) :
    (d.updTlu f).pool = d.pool := rfl

@[simp] theorem Device.updTlu_delivery (d : Device) (f : ToneUnit → ToneUnit) :
    (d.updTlu f).delivery = d.delivery := rfl

@[simp] theorem Device.updTlu_drawers (d : Device) (f : ToneUnit → ToneUnit) :
    (d.updTlu f).drawers = d.drawers := rfl

@[simp] theorem Device.updTlu_tlu (d : Device) (f : ToneUnit → ToneUnit) :
    (d.updTlu f).tlu = f d.tlu := rfl

@[simp] theorem Device.updTlu_trunk (d : Device) (f : ToneUnit → ToneUnit) :
    (d.updTlu f).trunk = d.trunk := rfl

@[simp] theorem Device.updTlu_inReset (d : Device) (f : ToneUnit → ToneUnit) :
    (d.updTlu f).inReset = d.inReset := rfl

@[simp] theorem Device.updTlu_usPhase (d : Device) (f : ToneUnit → ToneUnit) :
    (d.updTlu f).usPhase = d.usPhase := rfl

@[simp] theorem Device.updGen_lanes (d : Device) (l : Fin 16) (f : Generator → Generator) :
    (d.updGen l f).lanes = d.lanes := rfl

@[simp] theorem Device.updGen_scanner (d : Device) (l : Fin 16) (f : Generator → Generator) :
    (d.updGen l f).scanner = d.scanner := rfl

@[simp] theorem Device.updGen_trans (d : Device) (l : Fin 16) (f : Generator → Generator) :
    (d.updGen l f).trans = d.trans := rfl

@[simp] theorem Device.updGen_keymaps (d : Device) (l : Fin 16) (f : Generator → Generator) :
    (d.updGen l f).keymaps = d.keymaps := rfl

@[simp] theorem Device.updGen_ports (d : Device) (l : Fin 16) (f : Generator → Generator) :
    (d.updGen l f).ports = d.ports := rfl

@[simp] theorem Device.updGen_rules (d : Device) (l : Fin 16) (f : Generator → Generator) :
    (d.updGen l f).rules = d.rules := rfl

@[simp] theorem Device.updGen_pool (d : Device) (l : Fin 16) (f : Generator → Generator) :
    (d.updGen l f).pool = d.pool := rfl

@[simp] theorem Device.updGen_delivery (d : Device) (l : Fin 16) (f : Generator → Generator) :
    (d.updGen l f).delivery = d.delivery := rfl

@[simp] theorem Device.updGen_drawers (d : Device) (l : Fin 16) (f : Generator → Generator) :
    (d.updGen l f).drawers = d.drawers := rfl

@[simp] theorem Device.updGen_tlu (d : Device) (l : Fin 16) (f : Generator → Generator) :
    (d.updGen l f).tlu = { d.tlu with generators := upd d.tlu.generators l f } := rfl

@[simp] theorem Device.updGen_trunk (d : Device) (l : Fin 16) (f : Generator → Generator) :
    (d.updGen l f).trunk = d.trunk := rfl

@[simp] theorem Device.updGen_inReset (d : Device) (l : Fin 16) (f : Generator → Generator) :
    (d.updGen l f).inReset = d.inReset := rfl

@[simp] theorem Device.updGen_usPhase (d : Device) (l : Fin 16) (f : Generator → Generator) :
    (d.updGen l f).usPhase = d.usPhase := rfl

@[simp] theorem Device.updLamp_lanes (d : Device) (l : Fin 16) (f : Lamp → Lamp) :
    (d.updLamp l f).lanes = d.lanes := rfl

@[simp] theorem Device.updLamp_scanner (d : Device) (l : Fin 16) (f : Lamp → Lamp) :
    (d.updLamp l f).scanner = d.scanner := rfl

@[simp] theorem Device.updLamp_trans (d : Device) (l : Fin 16) (f : Lamp → Lamp) :
    (d.updLamp l f).trans = d.trans := rfl

@[simp] theorem Device.updLamp_keymaps (d : Device) (l : Fin 16) (f : Lamp → Lamp) :
    (d.updLamp l f).keymaps = d.keymaps := rfl

@[simp] theorem Device.updLamp_ports (d : Device) (l : Fin 16) (f : Lamp → Lamp) :
    (d.updLamp l f).ports = d.ports := rfl

@[simp] theorem Device.updLamp_rules (d : Device) (l : Fin 16) (f : Lamp → Lamp) :
    (d.updLamp l f).rules = d.rules := rfl

@[simp] theorem Device.updLamp_pool (d : Device) (l : Fin 16) (f : Lamp → Lamp) :
    (d.updLamp l f).pool = d.pool := rfl

@[simp] theorem Device.updLamp_delivery (d : Device) (l : Fin 16) (f : Lamp → Lamp) :
    (d.updLamp l f).delivery = d.delivery := rfl

@[simp] theorem Device.updLamp_drawers (d : Device) (l : Fin 16) (f : Lamp → Lamp) :
    (d.updLamp l f).drawers = d.drawers := rfl

@[simp] theorem Device.updLamp_tlu (d : Device) (l : Fin 16) (f : Lamp → Lamp) :
    (d.updLamp l f).tlu = { d.tlu with lamps := upd d.tlu.lamps l f } := rfl

@[simp] theorem Device.updLamp_trunk (d : Device) (l : Fin 16) (f : Lamp → Lamp) :
    (d.updLamp l f).trunk = d.trunk := rfl

@[simp] theorem Device.updLamp_inReset (d : Device) (l : Fin 16) (f : Lamp → Lamp) :
    (d.updLamp l f).inReset = d.inReset := rfl

@[simp] theorem Device.updLamp_usPhase (d : Device) (l : Fin 16) (f : Lamp → Lamp) :
    (d.updLamp l f).usPhase = d.usPhase := rfl

@[simp] theorem Device.updTrunk_lanes (d : Device) (f : Trunk → Trunk) :
    (d.updTrunk f).lanes = d.lanes := rfl

@[simp] theorem Device.updTrunk_scanner (d : Device) (f : Trunk → Trunk) :
    (d.updTrunk f).scanner = d.scanner := rfl

@[simp] theorem Device.updTrunk_trans (d : Device) (f : Trunk → Trunk) :
    (d.updTrunk f).trans = d.trans := rfl

@[simp] theorem Device.updTrunk_keymaps (d : Device) (f : Trunk → Trunk) :
    (d.updTrunk f).keymaps = d.keymaps := rfl

@[simp] theorem Device.updTrunk_ports (d : Device) (f : Trunk → Trunk) :
    (d.updTrunk f).ports = d.ports := rfl

@[simp] theorem Device.updTrunk_rules (d : Device) (f : Trunk → Trunk) :
    (d.updTrunk f).rules = d.rules := rfl

@[simp] theorem Device.updTrunk_pool (d : Device) (f : Trunk → Trunk) :
    (d.updTrunk f).pool = d.pool := rfl

@[simp] theorem Device.updTrunk_delivery (d : Device) (f : Trunk → Trunk) :
    (d.updTrunk f).delivery = d.delivery := rfl

@[simp] theorem Device.updTrunk_drawers (d : Device) (f : Trunk → Trunk) :
    (d.updTrunk f).drawers = d.drawers := rfl

@[simp] theorem Device.updTrunk_tlu (d : Device) (f : Trunk → Trunk) :
    (d.updTrunk f).tlu = d.tlu := rfl

@[simp] theorem Device.updTrunk_trunk (d : Device) (f : Trunk → Trunk) :
    (d.updTrunk f).trunk = f d.trunk := rfl

@[simp] theorem Device.updTrunk_inReset (d : Device) (f : Trunk → Trunk) :
    (d.updTrunk f).inReset = d.inReset := rfl

@[simp] theorem Device.updTrunk_usPhase (d : Device) (f : Trunk → Trunk) :
    (d.updTrunk f).usPhase = d.usPhase := rfl

end Sys2Proof.Machine
end

