-- ==== Sys2Proof/Laws/Frames.lean ====
section
/-! SUPPORT. For each operation that commands share, what it can do, said once: the blocks it leaves alone (one lemma
per block, tagged for simp), and its result in each case. -/

namespace Sys2Proof.Machine

/-! ## The blocks each operation leaves alone -/

@[simp] theorem Device.releaseBody_lanes (d : Device) (b : BodyRef) :
    (d.releaseBody b).lanes = d.lanes := by cases b <;> rfl

@[simp] theorem Device.releaseBody_scanner (d : Device) (b : BodyRef) :
    (d.releaseBody b).scanner = d.scanner := by cases b <;> rfl

@[simp] theorem Device.releaseBody_trans (d : Device) (b : BodyRef) :
    (d.releaseBody b).trans = d.trans := by cases b <;> rfl

@[simp] theorem Device.releaseBody_keymaps (d : Device) (b : BodyRef) :
    (d.releaseBody b).keymaps = d.keymaps := by cases b <;> rfl

@[simp] theorem Device.releaseBody_rules (d : Device) (b : BodyRef) :
    (d.releaseBody b).rules = d.rules := by cases b <;> rfl

@[simp] theorem Device.releaseBody_pool (d : Device) (b : BodyRef) :
    (d.releaseBody b).pool = d.pool := by cases b <;> rfl

@[simp] theorem Device.releaseBody_delivery (d : Device) (b : BodyRef) :
    (d.releaseBody b).delivery = d.delivery := by cases b <;> rfl

@[simp] theorem Device.releaseBody_drawers (d : Device) (b : BodyRef) :
    (d.releaseBody b).drawers = d.drawers := by cases b <;> rfl

@[simp] theorem Device.releaseBody_tlu (d : Device) (b : BodyRef) :
    (d.releaseBody b).tlu = d.tlu := by cases b <;> rfl

@[simp] theorem Device.releaseBody_trunk (d : Device) (b : BodyRef) :
    (d.releaseBody b).trunk = d.trunk := by cases b <;> rfl

@[simp] theorem Device.releaseBody_inReset (d : Device) (b : BodyRef) :
    (d.releaseBody b).inReset = d.inReset := by cases b <;> rfl

@[simp] theorem Device.releaseBody_usPhase (d : Device) (b : BodyRef) :
    (d.releaseBody b).usPhase = d.usPhase := by cases b <;> rfl

@[simp] theorem Device.loseEntry_lanes (d : Device) (q : Fin 17) (e : Entry) :
    (d.loseEntry q e).lanes = d.lanes := by simp [Device.loseEntry]

@[simp] theorem Device.loseEntry_scanner (d : Device) (q : Fin 17) (e : Entry) :
    (d.loseEntry q e).scanner = d.scanner := by simp [Device.loseEntry]

@[simp] theorem Device.loseEntry_trans (d : Device) (q : Fin 17) (e : Entry) :
    (d.loseEntry q e).trans = d.trans := by simp [Device.loseEntry]

@[simp] theorem Device.loseEntry_keymaps (d : Device) (q : Fin 17) (e : Entry) :
    (d.loseEntry q e).keymaps = d.keymaps := by simp [Device.loseEntry]

@[simp] theorem Device.loseEntry_rules (d : Device) (q : Fin 17) (e : Entry) :
    (d.loseEntry q e).rules = d.rules := by simp [Device.loseEntry]

@[simp] theorem Device.loseEntry_delivery (d : Device) (q : Fin 17) (e : Entry) :
    (d.loseEntry q e).delivery = d.delivery := by simp [Device.loseEntry]

@[simp] theorem Device.loseEntry_drawers (d : Device) (q : Fin 17) (e : Entry) :
    (d.loseEntry q e).drawers = d.drawers := by simp [Device.loseEntry]

@[simp] theorem Device.loseEntry_tlu (d : Device) (q : Fin 17) (e : Entry) :
    (d.loseEntry q e).tlu = d.tlu := by simp [Device.loseEntry]

@[simp] theorem Device.loseEntry_trunk (d : Device) (q : Fin 17) (e : Entry) :
    (d.loseEntry q e).trunk = d.trunk := by simp [Device.loseEntry]

@[simp] theorem Device.loseEntry_inReset (d : Device) (q : Fin 17) (e : Entry) :
    (d.loseEntry q e).inReset = d.inReset := by simp [Device.loseEntry]

@[simp] theorem Device.loseEntry_usPhase (d : Device) (q : Fin 17) (e : Entry) :
    (d.loseEntry q e).usPhase = d.usPhase := by simp [Device.loseEntry]

@[simp] theorem Device.offer_lanes (d : Device) (q : Fin 17) (n : Notice) :
    (d.offer q n).lanes = d.lanes := by simp only [Device.offer]; split <;> simp

@[simp] theorem Device.offer_scanner (d : Device) (q : Fin 17) (n : Notice) :
    (d.offer q n).scanner = d.scanner := by simp only [Device.offer]; split <;> simp

@[simp] theorem Device.offer_trans (d : Device) (q : Fin 17) (n : Notice) :
    (d.offer q n).trans = d.trans := by simp only [Device.offer]; split <;> simp

@[simp] theorem Device.offer_keymaps (d : Device) (q : Fin 17) (n : Notice) :
    (d.offer q n).keymaps = d.keymaps := by simp only [Device.offer]; split <;> simp

@[simp] theorem Device.offer_rules (d : Device) (q : Fin 17) (n : Notice) :
    (d.offer q n).rules = d.rules := by simp only [Device.offer]; split <;> simp

@[simp] theorem Device.offer_delivery (d : Device) (q : Fin 17) (n : Notice) :
    (d.offer q n).delivery = d.delivery := by simp only [Device.offer]; split <;> simp

@[simp] theorem Device.offer_drawers (d : Device) (q : Fin 17) (n : Notice) :
    (d.offer q n).drawers = d.drawers := by simp only [Device.offer]; split <;> simp

@[simp] theorem Device.offer_tlu (d : Device) (q : Fin 17) (n : Notice) :
    (d.offer q n).tlu = d.tlu := by simp only [Device.offer]; split <;> simp

@[simp] theorem Device.offer_trunk (d : Device) (q : Fin 17) (n : Notice) :
    (d.offer q n).trunk = d.trunk := by simp only [Device.offer]; split <;> simp

@[simp] theorem Device.offer_inReset (d : Device) (q : Fin 17) (n : Notice) :
    (d.offer q n).inReset = d.inReset := by simp only [Device.offer]; split <;> simp

@[simp] theorem Device.offer_usPhase (d : Device) (q : Fin 17) (n : Notice) :
    (d.offer q n).usPhase = d.usPhase := by simp only [Device.offer]; split <;> simp

@[simp] theorem Device.changeConsumer_lanes (d : Device) (c : Fin 8) (f : Consumer → Consumer) :
    (d.changeConsumer c f).lanes = d.lanes := by rfl

@[simp] theorem Device.changeConsumer_scanner (d : Device) (c : Fin 8) (f : Consumer → Consumer) :
    (d.changeConsumer c f).scanner = d.scanner := by rfl

@[simp] theorem Device.changeConsumer_trans (d : Device) (c : Fin 8) (f : Consumer → Consumer) :
    (d.changeConsumer c f).trans = d.trans := by rfl

@[simp] theorem Device.changeConsumer_keymaps (d : Device) (c : Fin 8) (f : Consumer → Consumer) :
    (d.changeConsumer c f).keymaps = d.keymaps := by rfl

@[simp] theorem Device.changeConsumer_ports (d : Device) (c : Fin 8) (f : Consumer → Consumer) :
    (d.changeConsumer c f).ports = d.ports := by rfl

@[simp] theorem Device.changeConsumer_rules (d : Device) (c : Fin 8) (f : Consumer → Consumer) :
    (d.changeConsumer c f).rules = d.rules := by rfl

@[simp] theorem Device.changeConsumer_pool (d : Device) (c : Fin 8) (f : Consumer → Consumer) :
    (d.changeConsumer c f).pool = d.pool := by rfl

@[simp] theorem Device.changeConsumer_drawers (d : Device) (c : Fin 8) (f : Consumer → Consumer) :
    (d.changeConsumer c f).drawers = d.drawers := by rfl

@[simp] theorem Device.changeConsumer_tlu (d : Device) (c : Fin 8) (f : Consumer → Consumer) :
    (d.changeConsumer c f).tlu = d.tlu := by rfl

@[simp] theorem Device.changeConsumer_trunk (d : Device) (c : Fin 8) (f : Consumer → Consumer) :
    (d.changeConsumer c f).trunk = d.trunk := by rfl

@[simp] theorem Device.changeConsumer_inReset (d : Device) (c : Fin 8) (f : Consumer → Consumer) :
    (d.changeConsumer c f).inReset = d.inReset := by rfl

@[simp] theorem Device.changeConsumer_usPhase (d : Device) (c : Fin 8) (f : Consumer → Consumer) :
    (d.changeConsumer c f).usPhase = d.usPhase := by rfl

@[simp] theorem Device.giveUpAll_lanes (d : Device) (rs : List (Fin 512)) :
    (d.giveUpAll rs).lanes = d.lanes := by rfl

@[simp] theorem Device.giveUpAll_scanner (d : Device) (rs : List (Fin 512)) :
    (d.giveUpAll rs).scanner = d.scanner := by rfl

@[simp] theorem Device.giveUpAll_trans (d : Device) (rs : List (Fin 512)) :
    (d.giveUpAll rs).trans = d.trans := by rfl

@[simp] theorem Device.giveUpAll_keymaps (d : Device) (rs : List (Fin 512)) :
    (d.giveUpAll rs).keymaps = d.keymaps := by rfl

@[simp] theorem Device.giveUpAll_ports (d : Device) (rs : List (Fin 512)) :
    (d.giveUpAll rs).ports = d.ports := by rfl

@[simp] theorem Device.giveUpAll_rules (d : Device) (rs : List (Fin 512)) :
    (d.giveUpAll rs).rules = d.rules := by rfl

@[simp] theorem Device.giveUpAll_delivery (d : Device) (rs : List (Fin 512)) :
    (d.giveUpAll rs).delivery = d.delivery := by rfl

@[simp] theorem Device.giveUpAll_drawers (d : Device) (rs : List (Fin 512)) :
    (d.giveUpAll rs).drawers = d.drawers := by rfl

@[simp] theorem Device.giveUpAll_tlu (d : Device) (rs : List (Fin 512)) :
    (d.giveUpAll rs).tlu = d.tlu := by rfl

@[simp] theorem Device.giveUpAll_trunk (d : Device) (rs : List (Fin 512)) :
    (d.giveUpAll rs).trunk = d.trunk := by rfl

@[simp] theorem Device.giveUpAll_inReset (d : Device) (rs : List (Fin 512)) :
    (d.giveUpAll rs).inReset = d.inReset := by rfl

@[simp] theorem Device.giveUpAll_usPhase (d : Device) (rs : List (Fin 512)) :
    (d.giveUpAll rs).usPhase = d.usPhase := by rfl

@[simp] theorem Device.flush_lanes (d : Device) (c : Fin 8) :
    (d.flush c).lanes = d.lanes := by rfl

@[simp] theorem Device.flush_scanner (d : Device) (c : Fin 8) :
    (d.flush c).scanner = d.scanner := by rfl

@[simp] theorem Device.flush_trans (d : Device) (c : Fin 8) :
    (d.flush c).trans = d.trans := by rfl

@[simp] theorem Device.flush_keymaps (d : Device) (c : Fin 8) :
    (d.flush c).keymaps = d.keymaps := by rfl

@[simp] theorem Device.flush_ports (d : Device) (c : Fin 8) :
    (d.flush c).ports = d.ports := by rfl

@[simp] theorem Device.flush_rules (d : Device) (c : Fin 8) :
    (d.flush c).rules = d.rules := by rfl

@[simp] theorem Device.flush_drawers (d : Device) (c : Fin 8) :
    (d.flush c).drawers = d.drawers := by rfl

@[simp] theorem Device.flush_tlu (d : Device) (c : Fin 8) :
    (d.flush c).tlu = d.tlu := by rfl

@[simp] theorem Device.flush_trunk (d : Device) (c : Fin 8) :
    (d.flush c).trunk = d.trunk := by rfl

@[simp] theorem Device.flush_inReset (d : Device) (c : Fin 8) :
    (d.flush c).inReset = d.inReset := by rfl

@[simp] theorem Device.flush_usPhase (d : Device) (c : Fin 8) :
    (d.flush c).usPhase = d.usPhase := by rfl

@[simp] theorem Device.requestTone_lanes (d : Device) (l : Fin 16) (e : Fin 8) :
    (d.requestTone l e).lanes = d.lanes := by simp only [Device.requestTone]; split <;> rfl

@[simp] theorem Device.requestTone_scanner (d : Device) (l : Fin 16) (e : Fin 8) :
    (d.requestTone l e).scanner = d.scanner := by simp only [Device.requestTone]; split <;> rfl

@[simp] theorem Device.requestTone_trans (d : Device) (l : Fin 16) (e : Fin 8) :
    (d.requestTone l e).trans = d.trans := by simp only [Device.requestTone]; split <;> rfl

@[simp] theorem Device.requestTone_keymaps (d : Device) (l : Fin 16) (e : Fin 8) :
    (d.requestTone l e).keymaps = d.keymaps := by simp only [Device.requestTone]; split <;> rfl

@[simp] theorem Device.requestTone_ports (d : Device) (l : Fin 16) (e : Fin 8) :
    (d.requestTone l e).ports = d.ports := by simp only [Device.requestTone]; split <;> rfl

@[simp] theorem Device.requestTone_rules (d : Device) (l : Fin 16) (e : Fin 8) :
    (d.requestTone l e).rules = d.rules := by simp only [Device.requestTone]; split <;> rfl

@[simp] theorem Device.requestTone_pool (d : Device) (l : Fin 16) (e : Fin 8) :
    (d.requestTone l e).pool = d.pool := by simp only [Device.requestTone]; split <;> rfl

@[simp] theorem Device.requestTone_delivery (d : Device) (l : Fin 16) (e : Fin 8) :
    (d.requestTone l e).delivery = d.delivery := by simp only [Device.requestTone]; split <;> rfl

@[simp] theorem Device.requestTone_drawers (d : Device) (l : Fin 16) (e : Fin 8) :
    (d.requestTone l e).drawers = d.drawers := by simp only [Device.requestTone]; split <;> rfl

@[simp] theorem Device.requestTone_trunk (d : Device) (l : Fin 16) (e : Fin 8) :
    (d.requestTone l e).trunk = d.trunk := by simp only [Device.requestTone]; split <;> rfl

@[simp] theorem Device.requestTone_inReset (d : Device) (l : Fin 16) (e : Fin 8) :
    (d.requestTone l e).inReset = d.inReset := by simp only [Device.requestTone]; split <;> rfl

@[simp] theorem Device.requestTone_usPhase (d : Device) (l : Fin 16) (e : Fin 8) :
    (d.requestTone l e).usPhase = d.usPhase := by simp only [Device.requestTone]; split <;> rfl

@[simp] theorem Device.requestToneOpt_lanes (d : Device) (l : Fin 16) (e : Option (Fin 8)) :
    (d.requestToneOpt l e).lanes = d.lanes := by cases e <;> simp [Device.requestToneOpt]

@[simp] theorem Device.requestToneOpt_scanner (d : Device) (l : Fin 16) (e : Option (Fin 8)) :
    (d.requestToneOpt l e).scanner = d.scanner := by cases e <;> simp [Device.requestToneOpt]

@[simp] theorem Device.requestToneOpt_trans (d : Device) (l : Fin 16) (e : Option (Fin 8)) :
    (d.requestToneOpt l e).trans = d.trans := by cases e <;> simp [Device.requestToneOpt]

@[simp] theorem Device.requestToneOpt_keymaps (d : Device) (l : Fin 16) (e : Option (Fin 8)) :
    (d.requestToneOpt l e).keymaps = d.keymaps := by cases e <;> simp [Device.requestToneOpt]

@[simp] theorem Device.requestToneOpt_ports (d : Device) (l : Fin 16) (e : Option (Fin 8)) :
    (d.requestToneOpt l e).ports = d.ports := by cases e <;> simp [Device.requestToneOpt]

@[simp] theorem Device.requestToneOpt_rules (d : Device) (l : Fin 16) (e : Option (Fin 8)) :
    (d.requestToneOpt l e).rules = d.rules := by cases e <;> simp [Device.requestToneOpt]

@[simp] theorem Device.requestToneOpt_pool (d : Device) (l : Fin 16) (e : Option (Fin 8)) :
    (d.requestToneOpt l e).pool = d.pool := by cases e <;> simp [Device.requestToneOpt]

@[simp] theorem Device.requestToneOpt_delivery (d : Device) (l : Fin 16) (e : Option (Fin 8)) :
    (d.requestToneOpt l e).delivery = d.delivery := by cases e <;> simp [Device.requestToneOpt]

@[simp] theorem Device.requestToneOpt_drawers (d : Device) (l : Fin 16) (e : Option (Fin 8)) :
    (d.requestToneOpt l e).drawers = d.drawers := by cases e <;> simp [Device.requestToneOpt]

@[simp] theorem Device.requestToneOpt_trunk (d : Device) (l : Fin 16) (e : Option (Fin 8)) :
    (d.requestToneOpt l e).trunk = d.trunk := by cases e <;> simp [Device.requestToneOpt]

@[simp] theorem Device.requestToneOpt_inReset (d : Device) (l : Fin 16) (e : Option (Fin 8)) :
    (d.requestToneOpt l e).inReset = d.inReset := by cases e <;> simp [Device.requestToneOpt]

@[simp] theorem Device.requestToneOpt_usPhase (d : Device) (l : Fin 16) (e : Option (Fin 8)) :
    (d.requestToneOpt l e).usPhase = d.usPhase := by cases e <;> simp [Device.requestToneOpt]

@[simp] theorem Device.settleLamp_lanes (d : Device) (l : Fin 16) :
    (d.settleLamp l).lanes = d.lanes := by simp only [Device.settleLamp]; split <;> rfl

@[simp] theorem Device.settleLamp_scanner (d : Device) (l : Fin 16) :
    (d.settleLamp l).scanner = d.scanner := by simp only [Device.settleLamp]; split <;> rfl

@[simp] theorem Device.settleLamp_trans (d : Device) (l : Fin 16) :
    (d.settleLamp l).trans = d.trans := by simp only [Device.settleLamp]; split <;> rfl

@[simp] theorem Device.settleLamp_keymaps (d : Device) (l : Fin 16) :
    (d.settleLamp l).keymaps = d.keymaps := by simp only [Device.settleLamp]; split <;> rfl

@[simp] theorem Device.settleLamp_ports (d : Device) (l : Fin 16) :
    (d.settleLamp l).ports = d.ports := by simp only [Device.settleLamp]; split <;> rfl

@[simp] theorem Device.settleLamp_rules (d : Device) (l : Fin 16) :
    (d.settleLamp l).rules = d.rules := by simp only [Device.settleLamp]; split <;> rfl

@[simp] theorem Device.settleLamp_pool (d : Device) (l : Fin 16) :
    (d.settleLamp l).pool = d.pool := by simp only [Device.settleLamp]; split <;> rfl

@[simp] theorem Device.settleLamp_delivery (d : Device) (l : Fin 16) :
    (d.settleLamp l).delivery = d.delivery := by simp only [Device.settleLamp]; split <;> rfl

@[simp] theorem Device.settleLamp_drawers (d : Device) (l : Fin 16) :
    (d.settleLamp l).drawers = d.drawers := by simp only [Device.settleLamp]; split <;> rfl

@[simp] theorem Device.settleLamp_trunk (d : Device) (l : Fin 16) :
    (d.settleLamp l).trunk = d.trunk := by simp only [Device.settleLamp]; split <;> rfl

@[simp] theorem Device.settleLamp_inReset (d : Device) (l : Fin 16) :
    (d.settleLamp l).inReset = d.inReset := by simp only [Device.settleLamp]; split <;> rfl

@[simp] theorem Device.settleLamp_usPhase (d : Device) (l : Fin 16) :
    (d.settleLamp l).usPhase = d.usPhase := by simp only [Device.settleLamp]; split <;> rfl

@[simp] theorem Device.setLaneState_scanner (d : Device) (l : Fin 16) (s : LaneState) :
    (d.setLaneState l s).scanner = d.scanner := by simp [Device.setLaneState]

@[simp] theorem Device.setLaneState_trans (d : Device) (l : Fin 16) (s : LaneState) :
    (d.setLaneState l s).trans = d.trans := by simp [Device.setLaneState]

@[simp] theorem Device.setLaneState_keymaps (d : Device) (l : Fin 16) (s : LaneState) :
    (d.setLaneState l s).keymaps = d.keymaps := by simp [Device.setLaneState]

@[simp] theorem Device.setLaneState_ports (d : Device) (l : Fin 16) (s : LaneState) :
    (d.setLaneState l s).ports = d.ports := by simp [Device.setLaneState]

@[simp] theorem Device.setLaneState_rules (d : Device) (l : Fin 16) (s : LaneState) :
    (d.setLaneState l s).rules = d.rules := by simp [Device.setLaneState]

@[simp] theorem Device.setLaneState_pool (d : Device) (l : Fin 16) (s : LaneState) :
    (d.setLaneState l s).pool = d.pool := by simp [Device.setLaneState]

@[simp] theorem Device.setLaneState_delivery (d : Device) (l : Fin 16) (s : LaneState) :
    (d.setLaneState l s).delivery = d.delivery := by simp [Device.setLaneState]

@[simp] theorem Device.setLaneState_drawers (d : Device) (l : Fin 16) (s : LaneState) :
    (d.setLaneState l s).drawers = d.drawers := by simp [Device.setLaneState]

@[simp] theorem Device.setLaneState_trunk (d : Device) (l : Fin 16) (s : LaneState) :
    (d.setLaneState l s).trunk = d.trunk := by simp [Device.setLaneState]

@[simp] theorem Device.setLaneState_inReset (d : Device) (l : Fin 16) (s : LaneState) :
    (d.setLaneState l s).inReset = d.inReset := by simp [Device.setLaneState]

@[simp] theorem Device.setLaneState_usPhase (d : Device) (l : Fin 16) (s : LaneState) :
    (d.setLaneState l s).usPhase = d.usPhase := by simp [Device.setLaneState]

@[simp] theorem Device.testAndConsume_scanner (d : Device) (l : Fin 16) :
    ((d.testAndConsume l).1).scanner = d.scanner := by simp only [Device.testAndConsume]; split <;> rfl

@[simp] theorem Device.testAndConsume_trans (d : Device) (l : Fin 16) :
    ((d.testAndConsume l).1).trans = d.trans := by simp only [Device.testAndConsume]; split <;> rfl

@[simp] theorem Device.testAndConsume_keymaps (d : Device) (l : Fin 16) :
    ((d.testAndConsume l).1).keymaps = d.keymaps := by simp only [Device.testAndConsume]; split <;> rfl

@[simp] theorem Device.testAndConsume_ports (d : Device) (l : Fin 16) :
    ((d.testAndConsume l).1).ports = d.ports := by simp only [Device.testAndConsume]; split <;> rfl

@[simp] theorem Device.testAndConsume_rules (d : Device) (l : Fin 16) :
    ((d.testAndConsume l).1).rules = d.rules := by simp only [Device.testAndConsume]; split <;> rfl

@[simp] theorem Device.testAndConsume_pool (d : Device) (l : Fin 16) :
    ((d.testAndConsume l).1).pool = d.pool := by simp only [Device.testAndConsume]; split <;> rfl

@[simp] theorem Device.testAndConsume_delivery (d : Device) (l : Fin 16) :
    ((d.testAndConsume l).1).delivery = d.delivery := by simp only [Device.testAndConsume]; split <;> rfl

@[simp] theorem Device.testAndConsume_drawers (d : Device) (l : Fin 16) :
    ((d.testAndConsume l).1).drawers = d.drawers := by simp only [Device.testAndConsume]; split <;> rfl

@[simp] theorem Device.testAndConsume_tlu (d : Device) (l : Fin 16) :
    ((d.testAndConsume l).1).tlu = d.tlu := by simp only [Device.testAndConsume]; split <;> rfl

@[simp] theorem Device.testAndConsume_trunk (d : Device) (l : Fin 16) :
    ((d.testAndConsume l).1).trunk = d.trunk := by simp only [Device.testAndConsume]; split <;> rfl

@[simp] theorem Device.testAndConsume_inReset (d : Device) (l : Fin 16) :
    ((d.testAndConsume l).1).inReset = d.inReset := by simp only [Device.testAndConsume]; split <;> rfl

@[simp] theorem Device.testAndConsume_usPhase (d : Device) (l : Fin 16) :
    ((d.testAndConsume l).1).usPhase = d.usPhase := by simp only [Device.testAndConsume]; split <;> rfl

@[simp] theorem Device.interlock_scanner (d : Device) (l : Fin 16) :
    ((d.interlock l).1).scanner = d.scanner := by simp only [Device.interlock]; split <;> (try split) <;> simp

@[simp] theorem Device.interlock_trans (d : Device) (l : Fin 16) :
    ((d.interlock l).1).trans = d.trans := by simp only [Device.interlock]; split <;> (try split) <;> simp

@[simp] theorem Device.interlock_keymaps (d : Device) (l : Fin 16) :
    ((d.interlock l).1).keymaps = d.keymaps := by simp only [Device.interlock]; split <;> (try split) <;> simp

@[simp] theorem Device.interlock_ports (d : Device) (l : Fin 16) :
    ((d.interlock l).1).ports = d.ports := by simp only [Device.interlock]; split <;> (try split) <;> simp

@[simp] theorem Device.interlock_rules (d : Device) (l : Fin 16) :
    ((d.interlock l).1).rules = d.rules := by simp only [Device.interlock]; split <;> (try split) <;> simp

@[simp] theorem Device.interlock_pool (d : Device) (l : Fin 16) :
    ((d.interlock l).1).pool = d.pool := by simp only [Device.interlock]; split <;> (try split) <;> simp

@[simp] theorem Device.interlock_delivery (d : Device) (l : Fin 16) :
    ((d.interlock l).1).delivery = d.delivery := by simp only [Device.interlock]; split <;> (try split) <;> simp

@[simp] theorem Device.interlock_drawers (d : Device) (l : Fin 16) :
    ((d.interlock l).1).drawers = d.drawers := by simp only [Device.interlock]; split <;> (try split) <;> simp

@[simp] theorem Device.interlock_tlu (d : Device) (l : Fin 16) :
    ((d.interlock l).1).tlu = d.tlu := by simp only [Device.interlock]; split <;> (try split) <;> simp

@[simp] theorem Device.interlock_trunk (d : Device) (l : Fin 16) :
    ((d.interlock l).1).trunk = d.trunk := by simp only [Device.interlock]; split <;> (try split) <;> simp

@[simp] theorem Device.interlock_inReset (d : Device) (l : Fin 16) :
    ((d.interlock l).1).inReset = d.inReset := by simp only [Device.interlock]; split <;> (try split) <;> simp

@[simp] theorem Device.interlock_usPhase (d : Device) (l : Fin 16) :
    ((d.interlock l).1).usPhase = d.usPhase := by simp only [Device.interlock]; split <;> (try split) <;> simp

@[simp] theorem Device.refuseKick_lanes (d : Device) (n : Fin 32) (o : Origin) (w : KickRefusal) :
    (d.refuseKick n o w).lanes = d.lanes := by simp [Device.refuseKick]

@[simp] theorem Device.refuseKick_scanner (d : Device) (n : Fin 32) (o : Origin) (w : KickRefusal) :
    (d.refuseKick n o w).scanner = d.scanner := by simp [Device.refuseKick]

@[simp] theorem Device.refuseKick_trans (d : Device) (n : Fin 32) (o : Origin) (w : KickRefusal) :
    (d.refuseKick n o w).trans = d.trans := by simp [Device.refuseKick]

@[simp] theorem Device.refuseKick_keymaps (d : Device) (n : Fin 32) (o : Origin) (w : KickRefusal) :
    (d.refuseKick n o w).keymaps = d.keymaps := by simp [Device.refuseKick]

@[simp] theorem Device.refuseKick_rules (d : Device) (n : Fin 32) (o : Origin) (w : KickRefusal) :
    (d.refuseKick n o w).rules = d.rules := by simp [Device.refuseKick]

@[simp] theorem Device.refuseKick_delivery (d : Device) (n : Fin 32) (o : Origin) (w : KickRefusal) :
    (d.refuseKick n o w).delivery = d.delivery := by simp [Device.refuseKick]

@[simp] theorem Device.refuseKick_drawers (d : Device) (n : Fin 32) (o : Origin) (w : KickRefusal) :
    (d.refuseKick n o w).drawers = d.drawers := by simp [Device.refuseKick]

@[simp] theorem Device.refuseKick_tlu (d : Device) (n : Fin 32) (o : Origin) (w : KickRefusal) :
    (d.refuseKick n o w).tlu = d.tlu := by simp [Device.refuseKick]

@[simp] theorem Device.refuseKick_trunk (d : Device) (n : Fin 32) (o : Origin) (w : KickRefusal) :
    (d.refuseKick n o w).trunk = d.trunk := by simp [Device.refuseKick]

@[simp] theorem Device.refuseKick_inReset (d : Device) (n : Fin 32) (o : Origin) (w : KickRefusal) :
    (d.refuseKick n o w).inReset = d.inReset := by simp [Device.refuseKick]

@[simp] theorem Device.refuseKick_usPhase (d : Device) (n : Fin 32) (o : Origin) (w : KickRefusal) :
    (d.refuseKick n o w).usPhase = d.usPhase := by simp [Device.refuseKick]

@[simp] theorem Device.acceptKick_lanes (d : Device) (n : Fin 32) :
    (d.acceptKick n).lanes = d.lanes := by rfl

@[simp] theorem Device.acceptKick_scanner (d : Device) (n : Fin 32) :
    (d.acceptKick n).scanner = d.scanner := by rfl

@[simp] theorem Device.acceptKick_trans (d : Device) (n : Fin 32) :
    (d.acceptKick n).trans = d.trans := by rfl

@[simp] theorem Device.acceptKick_keymaps (d : Device) (n : Fin 32) :
    (d.acceptKick n).keymaps = d.keymaps := by rfl

@[simp] theorem Device.acceptKick_ports (d : Device) (n : Fin 32) :
    (d.acceptKick n).ports = d.ports := by rfl

@[simp] theorem Device.acceptKick_rules (d : Device) (n : Fin 32) :
    (d.acceptKick n).rules = d.rules := by rfl

@[simp] theorem Device.acceptKick_pool (d : Device) (n : Fin 32) :
    (d.acceptKick n).pool = d.pool := by rfl

@[simp] theorem Device.acceptKick_delivery (d : Device) (n : Fin 32) :
    (d.acceptKick n).delivery = d.delivery := by rfl

@[simp] theorem Device.acceptKick_tlu (d : Device) (n : Fin 32) :
    (d.acceptKick n).tlu = d.tlu := by rfl

@[simp] theorem Device.acceptKick_trunk (d : Device) (n : Fin 32) :
    (d.acceptKick n).trunk = d.trunk := by rfl

@[simp] theorem Device.acceptKick_inReset (d : Device) (n : Fin 32) :
    (d.acceptKick n).inReset = d.inReset := by rfl

@[simp] theorem Device.acceptKick_usPhase (d : Device) (n : Fin 32) :
    (d.acceptKick n).usPhase = d.usPhase := by rfl

@[simp] theorem Device.requestKick_scanner (d : Device) (n : Fin 32) (o : Origin) :
    ((d.requestKick n o).1).scanner = d.scanner := by simp only [Device.requestKick]; split_ifs <;> simp

@[simp] theorem Device.requestKick_trans (d : Device) (n : Fin 32) (o : Origin) :
    ((d.requestKick n o).1).trans = d.trans := by simp only [Device.requestKick]; split_ifs <;> simp

@[simp] theorem Device.requestKick_keymaps (d : Device) (n : Fin 32) (o : Origin) :
    ((d.requestKick n o).1).keymaps = d.keymaps := by simp only [Device.requestKick]; split_ifs <;> simp

@[simp] theorem Device.requestKick_rules (d : Device) (n : Fin 32) (o : Origin) :
    ((d.requestKick n o).1).rules = d.rules := by simp only [Device.requestKick]; split_ifs <;> simp

@[simp] theorem Device.requestKick_delivery (d : Device) (n : Fin 32) (o : Origin) :
    ((d.requestKick n o).1).delivery = d.delivery := by simp only [Device.requestKick]; split_ifs <;> simp

@[simp] theorem Device.requestKick_tlu (d : Device) (n : Fin 32) (o : Origin) :
    ((d.requestKick n o).1).tlu = d.tlu := by simp only [Device.requestKick]; split_ifs <;> simp

@[simp] theorem Device.requestKick_trunk (d : Device) (n : Fin 32) (o : Origin) :
    ((d.requestKick n o).1).trunk = d.trunk := by simp only [Device.requestKick]; split_ifs <;> simp

@[simp] theorem Device.requestKick_inReset (d : Device) (n : Fin 32) (o : Origin) :
    ((d.requestKick n o).1).inReset = d.inReset := by simp only [Device.requestKick]; split_ifs <;> simp

@[simp] theorem Device.requestKick_usPhase (d : Device) (n : Fin 32) (o : Origin) :
    ((d.requestKick n o).1).usPhase = d.usPhase := by simp only [Device.requestKick]; split_ifs <;> simp

@[simp] theorem Device.cutPulse_lanes (d : Device) (n : Fin 32) :
    (d.cutPulse n).lanes = d.lanes := by simp [Device.cutPulse]

@[simp] theorem Device.cutPulse_scanner (d : Device) (n : Fin 32) :
    (d.cutPulse n).scanner = d.scanner := by simp [Device.cutPulse]

@[simp] theorem Device.cutPulse_trans (d : Device) (n : Fin 32) :
    (d.cutPulse n).trans = d.trans := by simp [Device.cutPulse]

@[simp] theorem Device.cutPulse_keymaps (d : Device) (n : Fin 32) :
    (d.cutPulse n).keymaps = d.keymaps := by simp [Device.cutPulse]

@[simp] theorem Device.cutPulse_rules (d : Device) (n : Fin 32) :
    (d.cutPulse n).rules = d.rules := by simp [Device.cutPulse]

@[simp] theorem Device.cutPulse_delivery (d : Device) (n : Fin 32) :
    (d.cutPulse n).delivery = d.delivery := by simp [Device.cutPulse]

@[simp] theorem Device.cutPulse_tlu (d : Device) (n : Fin 32) :
    (d.cutPulse n).tlu = d.tlu := by simp [Device.cutPulse]

@[simp] theorem Device.cutPulse_trunk (d : Device) (n : Fin 32) :
    (d.cutPulse n).trunk = d.trunk := by simp [Device.cutPulse]

@[simp] theorem Device.cutPulse_inReset (d : Device) (n : Fin 32) :
    (d.cutPulse n).inReset = d.inReset := by simp [Device.cutPulse]

@[simp] theorem Device.cutPulse_usPhase (d : Device) (n : Fin 32) :
    (d.cutPulse n).usPhase = d.usPhase := by simp [Device.cutPulse]

@[simp] theorem Device.abortWaiting_lanes (d : Device) (n : Fin 32) (c : Nat) :
    (d.abortWaiting n c).lanes = d.lanes := by simp [Device.abortWaiting]

@[simp] theorem Device.abortWaiting_scanner (d : Device) (n : Fin 32) (c : Nat) :
    (d.abortWaiting n c).scanner = d.scanner := by simp [Device.abortWaiting]

@[simp] theorem Device.abortWaiting_trans (d : Device) (n : Fin 32) (c : Nat) :
    (d.abortWaiting n c).trans = d.trans := by simp [Device.abortWaiting]

@[simp] theorem Device.abortWaiting_keymaps (d : Device) (n : Fin 32) (c : Nat) :
    (d.abortWaiting n c).keymaps = d.keymaps := by simp [Device.abortWaiting]

@[simp] theorem Device.abortWaiting_rules (d : Device) (n : Fin 32) (c : Nat) :
    (d.abortWaiting n c).rules = d.rules := by simp [Device.abortWaiting]

@[simp] theorem Device.abortWaiting_delivery (d : Device) (n : Fin 32) (c : Nat) :
    (d.abortWaiting n c).delivery = d.delivery := by simp [Device.abortWaiting]

@[simp] theorem Device.abortWaiting_tlu (d : Device) (n : Fin 32) (c : Nat) :
    (d.abortWaiting n c).tlu = d.tlu := by simp [Device.abortWaiting]

@[simp] theorem Device.abortWaiting_trunk (d : Device) (n : Fin 32) (c : Nat) :
    (d.abortWaiting n c).trunk = d.trunk := by simp [Device.abortWaiting]

@[simp] theorem Device.abortWaiting_inReset (d : Device) (n : Fin 32) (c : Nat) :
    (d.abortWaiting n c).inReset = d.inReset := by simp [Device.abortWaiting]

@[simp] theorem Device.abortWaiting_usPhase (d : Device) (n : Fin 32) (c : Nat) :
    (d.abortWaiting n c).usPhase = d.usPhase := by simp [Device.abortWaiting]

@[simp] theorem Device.offerLaneState_lanes (d : Device) (l : Fin 16) (s : LaneState) (c : LaneCause) :
    (d.offerLaneState l s c).lanes = d.lanes := by simp [Device.offerLaneState]

@[simp] theorem Device.offerLaneState_scanner (d : Device) (l : Fin 16) (s : LaneState) (c : LaneCause) :
    (d.offerLaneState l s c).scanner = d.scanner := by simp [Device.offerLaneState]

@[simp] theorem Device.offerLaneState_trans (d : Device) (l : Fin 16) (s : LaneState) (c : LaneCause) :
    (d.offerLaneState l s c).trans = d.trans := by simp [Device.offerLaneState]

@[simp] theorem Device.offerLaneState_keymaps (d : Device) (l : Fin 16) (s : LaneState) (c : LaneCause) :
    (d.offerLaneState l s c).keymaps = d.keymaps := by simp [Device.offerLaneState]

@[simp] theorem Device.offerLaneState_rules (d : Device) (l : Fin 16) (s : LaneState) (c : LaneCause) :
    (d.offerLaneState l s c).rules = d.rules := by simp [Device.offerLaneState]

@[simp] theorem Device.offerLaneState_delivery (d : Device) (l : Fin 16) (s : LaneState) (c : LaneCause) :
    (d.offerLaneState l s c).delivery = d.delivery := by simp [Device.offerLaneState]

@[simp] theorem Device.offerLaneState_drawers (d : Device) (l : Fin 16) (s : LaneState) (c : LaneCause) :
    (d.offerLaneState l s c).drawers = d.drawers := by simp [Device.offerLaneState]

@[simp] theorem Device.offerLaneState_tlu (d : Device) (l : Fin 16) (s : LaneState) (c : LaneCause) :
    (d.offerLaneState l s c).tlu = d.tlu := by simp [Device.offerLaneState]

@[simp] theorem Device.offerLaneState_trunk (d : Device) (l : Fin 16) (s : LaneState) (c : LaneCause) :
    (d.offerLaneState l s c).trunk = d.trunk := by simp [Device.offerLaneState]

@[simp] theorem Device.offerLaneState_inReset (d : Device) (l : Fin 16) (s : LaneState) (c : LaneCause) :
    (d.offerLaneState l s c).inReset = d.inReset := by simp [Device.offerLaneState]

@[simp] theorem Device.offerLaneState_usPhase (d : Device) (l : Fin 16) (s : LaneState) (c : LaneCause) :
    (d.offerLaneState l s c).usPhase = d.usPhase := by simp [Device.offerLaneState]

@[simp] theorem Device.offerDrawer_lanes (d : Device) (n : Fin 32) (v : Notice) :
    (d.offerDrawer n v).lanes = d.lanes := by simp [Device.offerDrawer]

@[simp] theorem Device.offerDrawer_scanner (d : Device) (n : Fin 32) (v : Notice) :
    (d.offerDrawer n v).scanner = d.scanner := by simp [Device.offerDrawer]

@[simp] theorem Device.offerDrawer_trans (d : Device) (n : Fin 32) (v : Notice) :
    (d.offerDrawer n v).trans = d.trans := by simp [Device.offerDrawer]

@[simp] theorem Device.offerDrawer_keymaps (d : Device) (n : Fin 32) (v : Notice) :
    (d.offerDrawer n v).keymaps = d.keymaps := by simp [Device.offerDrawer]

@[simp] theorem Device.offerDrawer_rules (d : Device) (n : Fin 32) (v : Notice) :
    (d.offerDrawer n v).rules = d.rules := by simp [Device.offerDrawer]

@[simp] theorem Device.offerDrawer_delivery (d : Device) (n : Fin 32) (v : Notice) :
    (d.offerDrawer n v).delivery = d.delivery := by simp [Device.offerDrawer]

@[simp] theorem Device.offerDrawer_drawers (d : Device) (n : Fin 32) (v : Notice) :
    (d.offerDrawer n v).drawers = d.drawers := by simp [Device.offerDrawer]

@[simp] theorem Device.offerDrawer_tlu (d : Device) (n : Fin 32) (v : Notice) :
    (d.offerDrawer n v).tlu = d.tlu := by simp [Device.offerDrawer]

@[simp] theorem Device.offerDrawer_trunk (d : Device) (n : Fin 32) (v : Notice) :
    (d.offerDrawer n v).trunk = d.trunk := by simp [Device.offerDrawer]

@[simp] theorem Device.offerDrawer_inReset (d : Device) (n : Fin 32) (v : Notice) :
    (d.offerDrawer n v).inReset = d.inReset := by simp [Device.offerDrawer]

@[simp] theorem Device.offerDrawer_usPhase (d : Device) (n : Fin 32) (v : Notice) :
    (d.offerDrawer n v).usPhase = d.usPhase := by simp [Device.offerDrawer]

@[simp] theorem Device.adopt_scanner (d : Device) (l : Fin 16) :
    (d.adopt l).scanner = d.scanner := by simp only [Device.adopt]; split <;> rfl

@[simp] theorem Device.adopt_keymaps (d : Device) (l : Fin 16) :
    (d.adopt l).keymaps = d.keymaps := by simp only [Device.adopt]; split <;> rfl

@[simp] theorem Device.adopt_ports (d : Device) (l : Fin 16) :
    (d.adopt l).ports = d.ports := by simp only [Device.adopt]; split <;> rfl

@[simp] theorem Device.adopt_rules (d : Device) (l : Fin 16) :
    (d.adopt l).rules = d.rules := by simp only [Device.adopt]; split <;> rfl

@[simp] theorem Device.adopt_pool (d : Device) (l : Fin 16) :
    (d.adopt l).pool = d.pool := by simp only [Device.adopt]; split <;> rfl

@[simp] theorem Device.adopt_delivery (d : Device) (l : Fin 16) :
    (d.adopt l).delivery = d.delivery := by simp only [Device.adopt]; split <;> rfl

@[simp] theorem Device.adopt_drawers (d : Device) (l : Fin 16) :
    (d.adopt l).drawers = d.drawers := by simp only [Device.adopt]; split <;> rfl

@[simp] theorem Device.adopt_tlu (d : Device) (l : Fin 16) :
    (d.adopt l).tlu = d.tlu := by simp only [Device.adopt]; split <;> rfl

@[simp] theorem Device.adopt_trunk (d : Device) (l : Fin 16) :
    (d.adopt l).trunk = d.trunk := by simp only [Device.adopt]; split <;> rfl

@[simp] theorem Device.adopt_inReset (d : Device) (l : Fin 16) :
    (d.adopt l).inReset = d.inReset := by simp only [Device.adopt]; split <;> rfl

@[simp] theorem Device.adopt_usPhase (d : Device) (l : Fin 16) :
    (d.adopt l).usPhase = d.usPhase := by simp only [Device.adopt]; split <;> rfl

@[simp] theorem Device.withdrawPass_lanes (d : Device) (l : Fin 16) :
    (d.withdrawPass l).lanes = d.lanes := by rfl

@[simp] theorem Device.withdrawPass_trans (d : Device) (l : Fin 16) :
    (d.withdrawPass l).trans = d.trans := by rfl

@[simp] theorem Device.withdrawPass_keymaps (d : Device) (l : Fin 16) :
    (d.withdrawPass l).keymaps = d.keymaps := by rfl

@[simp] theorem Device.withdrawPass_ports (d : Device) (l : Fin 16) :
    (d.withdrawPass l).ports = d.ports := by rfl

@[simp] theorem Device.withdrawPass_rules (d : Device) (l : Fin 16) :
    (d.withdrawPass l).rules = d.rules := by rfl

@[simp] theorem Device.withdrawPass_pool (d : Device) (l : Fin 16) :
    (d.withdrawPass l).pool = d.pool := by rfl

@[simp] theorem Device.withdrawPass_delivery (d : Device) (l : Fin 16) :
    (d.withdrawPass l).delivery = d.delivery := by rfl

@[simp] theorem Device.withdrawPass_drawers (d : Device) (l : Fin 16) :
    (d.withdrawPass l).drawers = d.drawers := by rfl

@[simp] theorem Device.withdrawPass_tlu (d : Device) (l : Fin 16) :
    (d.withdrawPass l).tlu = d.tlu := by rfl

@[simp] theorem Device.withdrawPass_trunk (d : Device) (l : Fin 16) :
    (d.withdrawPass l).trunk = d.trunk := by rfl

@[simp] theorem Device.withdrawPass_inReset (d : Device) (l : Fin 16) :
    (d.withdrawPass l).inReset = d.inReset := by rfl

@[simp] theorem Device.withdrawPass_usPhase (d : Device) (l : Fin 16) :
    (d.withdrawPass l).usPhase = d.usPhase := by rfl

@[simp] theorem Device.tellPorts_lanes (d : Device) (l : Fin 16) (o : Bool) :
    (d.tellPorts l o).lanes = d.lanes := by rfl

@[simp] theorem Device.tellPorts_scanner (d : Device) (l : Fin 16) (o : Bool) :
    (d.tellPorts l o).scanner = d.scanner := by rfl

@[simp] theorem Device.tellPorts_trans (d : Device) (l : Fin 16) (o : Bool) :
    (d.tellPorts l o).trans = d.trans := by rfl

@[simp] theorem Device.tellPorts_keymaps (d : Device) (l : Fin 16) (o : Bool) :
    (d.tellPorts l o).keymaps = d.keymaps := by rfl

@[simp] theorem Device.tellPorts_rules (d : Device) (l : Fin 16) (o : Bool) :
    (d.tellPorts l o).rules = d.rules := by rfl

@[simp] theorem Device.tellPorts_pool (d : Device) (l : Fin 16) (o : Bool) :
    (d.tellPorts l o).pool = d.pool := by rfl

@[simp] theorem Device.tellPorts_delivery (d : Device) (l : Fin 16) (o : Bool) :
    (d.tellPorts l o).delivery = d.delivery := by rfl

@[simp] theorem Device.tellPorts_drawers (d : Device) (l : Fin 16) (o : Bool) :
    (d.tellPorts l o).drawers = d.drawers := by rfl

@[simp] theorem Device.tellPorts_tlu (d : Device) (l : Fin 16) (o : Bool) :
    (d.tellPorts l o).tlu = d.tlu := by rfl

@[simp] theorem Device.tellPorts_trunk (d : Device) (l : Fin 16) (o : Bool) :
    (d.tellPorts l o).trunk = d.trunk := by rfl

@[simp] theorem Device.tellPorts_inReset (d : Device) (l : Fin 16) (o : Bool) :
    (d.tellPorts l o).inReset = d.inReset := by rfl

@[simp] theorem Device.tellPorts_usPhase (d : Device) (l : Fin 16) (o : Bool) :
    (d.tellPorts l o).usPhase = d.usPhase := by rfl

@[simp] theorem Device.switchKeymap_lanes (d : Device) (l : Fin 16) (i : Fin 8) (o : Bool) :
    (d.switchKeymap l i o).lanes = d.lanes := by simp [Device.switchKeymap]

@[simp] theorem Device.switchKeymap_scanner (d : Device) (l : Fin 16) (i : Fin 8) (o : Bool) :
    (d.switchKeymap l i o).scanner = d.scanner := by simp [Device.switchKeymap]

@[simp] theorem Device.switchKeymap_trans (d : Device) (l : Fin 16) (i : Fin 8) (o : Bool) :
    (d.switchKeymap l i o).trans = d.trans := by simp [Device.switchKeymap]

@[simp] theorem Device.switchKeymap_rules (d : Device) (l : Fin 16) (i : Fin 8) (o : Bool) :
    (d.switchKeymap l i o).rules = d.rules := by simp [Device.switchKeymap]

@[simp] theorem Device.switchKeymap_delivery (d : Device) (l : Fin 16) (i : Fin 8) (o : Bool) :
    (d.switchKeymap l i o).delivery = d.delivery := by simp [Device.switchKeymap]

@[simp] theorem Device.switchKeymap_drawers (d : Device) (l : Fin 16) (i : Fin 8) (o : Bool) :
    (d.switchKeymap l i o).drawers = d.drawers := by simp [Device.switchKeymap]

@[simp] theorem Device.switchKeymap_tlu (d : Device) (l : Fin 16) (i : Fin 8) (o : Bool) :
    (d.switchKeymap l i o).tlu = d.tlu := by simp [Device.switchKeymap]

@[simp] theorem Device.switchKeymap_trunk (d : Device) (l : Fin 16) (i : Fin 8) (o : Bool) :
    (d.switchKeymap l i o).trunk = d.trunk := by simp [Device.switchKeymap]

@[simp] theorem Device.switchKeymap_inReset (d : Device) (l : Fin 16) (i : Fin 8) (o : Bool) :
    (d.switchKeymap l i o).inReset = d.inReset := by simp [Device.switchKeymap]

@[simp] theorem Device.switchKeymap_usPhase (d : Device) (l : Fin 16) (i : Fin 8) (o : Bool) :
    (d.switchKeymap l i o).usPhase = d.usPhase := by simp [Device.switchKeymap]

@[simp] theorem Device.departKeymap_lanes (d : Device) (l : Fin 16) :
    (d.departKeymap l).lanes = d.lanes := by simp only [Device.departKeymap]; split <;> simp

@[simp] theorem Device.departKeymap_scanner (d : Device) (l : Fin 16) :
    (d.departKeymap l).scanner = d.scanner := by simp only [Device.departKeymap]; split <;> simp

@[simp] theorem Device.departKeymap_trans (d : Device) (l : Fin 16) :
    (d.departKeymap l).trans = d.trans := by simp only [Device.departKeymap]; split <;> simp

@[simp] theorem Device.departKeymap_rules (d : Device) (l : Fin 16) :
    (d.departKeymap l).rules = d.rules := by simp only [Device.departKeymap]; split <;> simp

@[simp] theorem Device.departKeymap_delivery (d : Device) (l : Fin 16) :
    (d.departKeymap l).delivery = d.delivery := by simp only [Device.departKeymap]; split <;> simp

@[simp] theorem Device.departKeymap_drawers (d : Device) (l : Fin 16) :
    (d.departKeymap l).drawers = d.drawers := by simp only [Device.departKeymap]; split <;> simp

@[simp] theorem Device.departKeymap_tlu (d : Device) (l : Fin 16) :
    (d.departKeymap l).tlu = d.tlu := by simp only [Device.departKeymap]; split <;> simp

@[simp] theorem Device.departKeymap_trunk (d : Device) (l : Fin 16) :
    (d.departKeymap l).trunk = d.trunk := by simp only [Device.departKeymap]; split <;> simp

@[simp] theorem Device.departKeymap_inReset (d : Device) (l : Fin 16) :
    (d.departKeymap l).inReset = d.inReset := by simp only [Device.departKeymap]; split <;> simp

@[simp] theorem Device.departKeymap_usPhase (d : Device) (l : Fin 16) :
    (d.departKeymap l).usPhase = d.usPhase := by simp only [Device.departKeymap]; split <;> simp

@[simp] theorem Device.tenderPress_scanner (d : Device) (l : Fin 16) :
    (d.tenderPress l).scanner = d.scanner := by simp only [Device.tenderPress]; split <;> simp

@[simp] theorem Device.tenderPress_trans (d : Device) (l : Fin 16) :
    (d.tenderPress l).trans = d.trans := by simp only [Device.tenderPress]; split <;> simp

@[simp] theorem Device.tenderPress_keymaps (d : Device) (l : Fin 16) :
    (d.tenderPress l).keymaps = d.keymaps := by simp only [Device.tenderPress]; split <;> simp

@[simp] theorem Device.tenderPress_rules (d : Device) (l : Fin 16) :
    (d.tenderPress l).rules = d.rules := by simp only [Device.tenderPress]; split <;> simp

@[simp] theorem Device.tenderPress_delivery (d : Device) (l : Fin 16) :
    (d.tenderPress l).delivery = d.delivery := by simp only [Device.tenderPress]; split <;> simp

@[simp] theorem Device.tenderPress_tlu (d : Device) (l : Fin 16) :
    (d.tenderPress l).tlu = d.tlu := by simp only [Device.tenderPress]; split <;> simp

@[simp] theorem Device.tenderPress_trunk (d : Device) (l : Fin 16) :
    (d.tenderPress l).trunk = d.trunk := by simp only [Device.tenderPress]; split <;> simp

@[simp] theorem Device.tenderPress_inReset (d : Device) (l : Fin 16) :
    (d.tenderPress l).inReset = d.inReset := by simp only [Device.tenderPress]; split <;> simp

@[simp] theorem Device.tenderPress_usPhase (d : Device) (l : Fin 16) :
    (d.tenderPress l).usPhase = d.usPhase := by simp only [Device.tenderPress]; split <;> simp

@[simp] theorem Device.translateRelease_lanes (d : Device) (l : Fin 16) (p : Fin 128) :
    (d.translateRelease l p).lanes = d.lanes := by simp only [Device.translateRelease]; split <;> (try split) <;> simp

@[simp] theorem Device.translateRelease_scanner (d : Device) (l : Fin 16) (p : Fin 128) :
    (d.translateRelease l p).scanner = d.scanner := by simp only [Device.translateRelease]; split <;> (try split) <;> simp

@[simp] theorem Device.translateRelease_keymaps (d : Device) (l : Fin 16) (p : Fin 128) :
    (d.translateRelease l p).keymaps = d.keymaps := by simp only [Device.translateRelease]; split <;> (try split) <;> simp

@[simp] theorem Device.translateRelease_rules (d : Device) (l : Fin 16) (p : Fin 128) :
    (d.translateRelease l p).rules = d.rules := by simp only [Device.translateRelease]; split <;> (try split) <;> simp

@[simp] theorem Device.translateRelease_delivery (d : Device) (l : Fin 16) (p : Fin 128) :
    (d.translateRelease l p).delivery = d.delivery := by simp only [Device.translateRelease]; split <;> (try split) <;> simp

@[simp] theorem Device.translateRelease_drawers (d : Device) (l : Fin 16) (p : Fin 128) :
    (d.translateRelease l p).drawers = d.drawers := by simp only [Device.translateRelease]; split <;> (try split) <;> simp

@[simp] theorem Device.translateRelease_tlu (d : Device) (l : Fin 16) (p : Fin 128) :
    (d.translateRelease l p).tlu = d.tlu := by simp only [Device.translateRelease]; split <;> (try split) <;> simp

@[simp] theorem Device.translateRelease_trunk (d : Device) (l : Fin 16) (p : Fin 128) :
    (d.translateRelease l p).trunk = d.trunk := by simp only [Device.translateRelease]; split <;> (try split) <;> simp

@[simp] theorem Device.translateRelease_inReset (d : Device) (l : Fin 16) (p : Fin 128) :
    (d.translateRelease l p).inReset = d.inReset := by simp only [Device.translateRelease]; split <;> (try split) <;> simp

@[simp] theorem Device.translateRelease_usPhase (d : Device) (l : Fin 16) (p : Fin 128) :
    (d.translateRelease l p).usPhase = d.usPhase := by simp only [Device.translateRelease]; split <;> (try split) <;> simp

@[simp] theorem Device.translatePress_scanner (d : Device) (l : Fin 16) (p : Fin 128) (b : Bool) :
    (d.translatePress l p b).scanner = d.scanner := by simp only [Device.translatePress]; split <;> (try split_ifs) <;> simp

@[simp] theorem Device.translatePress_keymaps (d : Device) (l : Fin 16) (p : Fin 128) (b : Bool) :
    (d.translatePress l p b).keymaps = d.keymaps := by simp only [Device.translatePress]; split <;> (try split_ifs) <;> simp

@[simp] theorem Device.translatePress_rules (d : Device) (l : Fin 16) (p : Fin 128) (b : Bool) :
    (d.translatePress l p b).rules = d.rules := by simp only [Device.translatePress]; split <;> (try split_ifs) <;> simp

@[simp] theorem Device.translatePress_delivery (d : Device) (l : Fin 16) (p : Fin 128) (b : Bool) :
    (d.translatePress l p b).delivery = d.delivery := by simp only [Device.translatePress]; split <;> (try split_ifs) <;> simp

@[simp] theorem Device.translatePress_tlu (d : Device) (l : Fin 16) (p : Fin 128) (b : Bool) :
    (d.translatePress l p b).tlu = d.tlu := by simp only [Device.translatePress]; split <;> (try split_ifs) <;> simp

@[simp] theorem Device.translatePress_trunk (d : Device) (l : Fin 16) (p : Fin 128) (b : Bool) :
    (d.translatePress l p b).trunk = d.trunk := by simp only [Device.translatePress]; split <;> (try split_ifs) <;> simp

@[simp] theorem Device.translatePress_inReset (d : Device) (l : Fin 16) (p : Fin 128) (b : Bool) :
    (d.translatePress l p b).inReset = d.inReset := by simp only [Device.translatePress]; split <;> (try split_ifs) <;> simp

@[simp] theorem Device.translatePress_usPhase (d : Device) (l : Fin 16) (p : Fin 128) (b : Bool) :
    (d.translatePress l p b).usPhase = d.usPhase := by simp only [Device.translatePress]; split <;> (try split_ifs) <;> simp

@[simp] theorem Device.acceptLock_scanner (d : Device) (l : Fin 16) (k : KeyLock) :
    (d.acceptLock l k).scanner = d.scanner := by simp only [Device.acceptLock]; split <;> simp

@[simp] theorem Device.acceptLock_trans (d : Device) (l : Fin 16) (k : KeyLock) :
    (d.acceptLock l k).trans = d.trans := by simp only [Device.acceptLock]; split <;> simp

@[simp] theorem Device.acceptLock_keymaps (d : Device) (l : Fin 16) (k : KeyLock) :
    (d.acceptLock l k).keymaps = d.keymaps := by simp only [Device.acceptLock]; split <;> simp

@[simp] theorem Device.acceptLock_rules (d : Device) (l : Fin 16) (k : KeyLock) :
    (d.acceptLock l k).rules = d.rules := by simp only [Device.acceptLock]; split <;> simp

@[simp] theorem Device.acceptLock_delivery (d : Device) (l : Fin 16) (k : KeyLock) :
    (d.acceptLock l k).delivery = d.delivery := by simp only [Device.acceptLock]; split <;> simp

@[simp] theorem Device.acceptLock_drawers (d : Device) (l : Fin 16) (k : KeyLock) :
    (d.acceptLock l k).drawers = d.drawers := by simp only [Device.acceptLock]; split <;> simp

@[simp] theorem Device.acceptLock_tlu (d : Device) (l : Fin 16) (k : KeyLock) :
    (d.acceptLock l k).tlu = d.tlu := by simp only [Device.acceptLock]; split <;> simp

@[simp] theorem Device.acceptLock_trunk (d : Device) (l : Fin 16) (k : KeyLock) :
    (d.acceptLock l k).trunk = d.trunk := by simp only [Device.acceptLock]; split <;> simp

@[simp] theorem Device.acceptLock_inReset (d : Device) (l : Fin 16) (k : KeyLock) :
    (d.acceptLock l k).inReset = d.inReset := by simp only [Device.acceptLock]; split <;> simp

@[simp] theorem Device.acceptLock_usPhase (d : Device) (l : Fin 16) (k : KeyLock) :
    (d.acceptLock l k).usPhase = d.usPhase := by simp only [Device.acceptLock]; split <;> simp

@[simp] theorem Device.sampleLock_scanner (d : Device) (l : Fin 16) (k : KeyLock) :
    (d.sampleLock l k).scanner = d.scanner := by simp only [Device.sampleLock]; split_ifs <;> simp

@[simp] theorem Device.sampleLock_trans (d : Device) (l : Fin 16) (k : KeyLock) :
    (d.sampleLock l k).trans = d.trans := by simp only [Device.sampleLock]; split_ifs <;> simp

@[simp] theorem Device.sampleLock_keymaps (d : Device) (l : Fin 16) (k : KeyLock) :
    (d.sampleLock l k).keymaps = d.keymaps := by simp only [Device.sampleLock]; split_ifs <;> simp

@[simp] theorem Device.sampleLock_rules (d : Device) (l : Fin 16) (k : KeyLock) :
    (d.sampleLock l k).rules = d.rules := by simp only [Device.sampleLock]; split_ifs <;> simp

@[simp] theorem Device.sampleLock_delivery (d : Device) (l : Fin 16) (k : KeyLock) :
    (d.sampleLock l k).delivery = d.delivery := by simp only [Device.sampleLock]; split_ifs <;> simp

@[simp] theorem Device.sampleLock_drawers (d : Device) (l : Fin 16) (k : KeyLock) :
    (d.sampleLock l k).drawers = d.drawers := by simp only [Device.sampleLock]; split_ifs <;> simp

@[simp] theorem Device.sampleLock_tlu (d : Device) (l : Fin 16) (k : KeyLock) :
    (d.sampleLock l k).tlu = d.tlu := by simp only [Device.sampleLock]; split_ifs <;> simp

@[simp] theorem Device.sampleLock_trunk (d : Device) (l : Fin 16) (k : KeyLock) :
    (d.sampleLock l k).trunk = d.trunk := by simp only [Device.sampleLock]; split_ifs <;> simp

@[simp] theorem Device.sampleLock_inReset (d : Device) (l : Fin 16) (k : KeyLock) :
    (d.sampleLock l k).inReset = d.inReset := by simp only [Device.sampleLock]; split_ifs <;> simp

@[simp] theorem Device.sampleLock_usPhase (d : Device) (l : Fin 16) (k : KeyLock) :
    (d.sampleLock l k).usPhase = d.usPhase := by simp only [Device.sampleLock]; split_ifs <;> simp

@[simp] theorem Device.wakeReading_scanner (d : Device) (l : Fin 16) (r : Byte) :
    (d.wakeReading l r).scanner = d.scanner := by simp only [Device.wakeReading]; split <;> (try split_ifs) <;> simp

@[simp] theorem Device.wakeReading_trans (d : Device) (l : Fin 16) (r : Byte) :
    (d.wakeReading l r).trans = d.trans := by simp only [Device.wakeReading]; split <;> (try split_ifs) <;> simp

@[simp] theorem Device.wakeReading_keymaps (d : Device) (l : Fin 16) (r : Byte) :
    (d.wakeReading l r).keymaps = d.keymaps := by simp only [Device.wakeReading]; split <;> (try split_ifs) <;> simp

@[simp] theorem Device.wakeReading_rules (d : Device) (l : Fin 16) (r : Byte) :
    (d.wakeReading l r).rules = d.rules := by simp only [Device.wakeReading]; split <;> (try split_ifs) <;> simp

@[simp] theorem Device.wakeReading_delivery (d : Device) (l : Fin 16) (r : Byte) :
    (d.wakeReading l r).delivery = d.delivery := by simp only [Device.wakeReading]; split <;> (try split_ifs) <;> simp

@[simp] theorem Device.wakeReading_drawers (d : Device) (l : Fin 16) (r : Byte) :
    (d.wakeReading l r).drawers = d.drawers := by simp only [Device.wakeReading]; split <;> (try split_ifs) <;> simp

@[simp] theorem Device.wakeReading_tlu (d : Device) (l : Fin 16) (r : Byte) :
    (d.wakeReading l r).tlu = d.tlu := by simp only [Device.wakeReading]; split <;> (try split_ifs) <;> simp

@[simp] theorem Device.wakeReading_trunk (d : Device) (l : Fin 16) (r : Byte) :
    (d.wakeReading l r).trunk = d.trunk := by simp only [Device.wakeReading]; split <;> (try split_ifs) <;> simp

@[simp] theorem Device.wakeReading_inReset (d : Device) (l : Fin 16) (r : Byte) :
    (d.wakeReading l r).inReset = d.inReset := by simp only [Device.wakeReading]; split <;> (try split_ifs) <;> simp

@[simp] theorem Device.wakeReading_usPhase (d : Device) (l : Fin 16) (r : Byte) :
    (d.wakeReading l r).usPhase = d.usPhase := by simp only [Device.wakeReading]; split <;> (try split_ifs) <;> simp

@[simp] theorem Device.reply_lanes (d : Device) (a : Answer) :
    (d.reply a).lanes = d.lanes := by rfl

@[simp] theorem Device.reply_scanner (d : Device) (a : Answer) :
    (d.reply a).scanner = d.scanner := by rfl

@[simp] theorem Device.reply_trans (d : Device) (a : Answer) :
    (d.reply a).trans = d.trans := by rfl

@[simp] theorem Device.reply_keymaps (d : Device) (a : Answer) :
    (d.reply a).keymaps = d.keymaps := by rfl

@[simp] theorem Device.reply_ports (d : Device) (a : Answer) :
    (d.reply a).ports = d.ports := by rfl

@[simp] theorem Device.reply_rules (d : Device) (a : Answer) :
    (d.reply a).rules = d.rules := by rfl

@[simp] theorem Device.reply_pool (d : Device) (a : Answer) :
    (d.reply a).pool = d.pool := by rfl

@[simp] theorem Device.reply_delivery (d : Device) (a : Answer) :
    (d.reply a).delivery = d.delivery := by rfl

@[simp] theorem Device.reply_drawers (d : Device) (a : Answer) :
    (d.reply a).drawers = d.drawers := by rfl

@[simp] theorem Device.reply_tlu (d : Device) (a : Answer) :
    (d.reply a).tlu = d.tlu := by rfl

@[simp] theorem Device.reply_inReset (d : Device) (a : Answer) :
    (d.reply a).inReset = d.inReset := by rfl

@[simp] theorem Device.reply_usPhase (d : Device) (a : Answer) :
    (d.reply a).usPhase = d.usPhase := by rfl

@[simp] theorem Device.begin_lanes (d : Device) (r : Request) :
    (d.begin r).lanes = d.lanes := by rfl

@[simp] theorem Device.begin_scanner (d : Device) (r : Request) :
    (d.begin r).scanner = d.scanner := by rfl

@[simp] theorem Device.begin_trans (d : Device) (r : Request) :
    (d.begin r).trans = d.trans := by rfl

@[simp] theorem Device.begin_keymaps (d : Device) (r : Request) :
    (d.begin r).keymaps = d.keymaps := by rfl

@[simp] theorem Device.begin_ports (d : Device) (r : Request) :
    (d.begin r).ports = d.ports := by rfl

@[simp] theorem Device.begin_rules (d : Device) (r : Request) :
    (d.begin r).rules = d.rules := by rfl

@[simp] theorem Device.begin_pool (d : Device) (r : Request) :
    (d.begin r).pool = d.pool := by rfl

@[simp] theorem Device.begin_delivery (d : Device) (r : Request) :
    (d.begin r).delivery = d.delivery := by rfl

@[simp] theorem Device.begin_drawers (d : Device) (r : Request) :
    (d.begin r).drawers = d.drawers := by rfl

@[simp] theorem Device.begin_tlu (d : Device) (r : Request) :
    (d.begin r).tlu = d.tlu := by rfl

@[simp] theorem Device.begin_inReset (d : Device) (r : Request) :
    (d.begin r).inReset = d.inReset := by rfl

@[simp] theorem Device.begin_usPhase (d : Device) (r : Request) :
    (d.begin r).usPhase = d.usPhase := by rfl

@[simp] theorem Device.takeFrame_lanes (d : Device) (c : Fin 8) (r : Fin 512) (u : Bool) :
    (d.takeFrame c r u).lanes = d.lanes := by rfl

@[simp] theorem Device.takeFrame_scanner (d : Device) (c : Fin 8) (r : Fin 512) (u : Bool) :
    (d.takeFrame c r u).scanner = d.scanner := by rfl

@[simp] theorem Device.takeFrame_trans (d : Device) (c : Fin 8) (r : Fin 512) (u : Bool) :
    (d.takeFrame c r u).trans = d.trans := by rfl

@[simp] theorem Device.takeFrame_keymaps (d : Device) (c : Fin 8) (r : Fin 512) (u : Bool) :
    (d.takeFrame c r u).keymaps = d.keymaps := by rfl

@[simp] theorem Device.takeFrame_ports (d : Device) (c : Fin 8) (r : Fin 512) (u : Bool) :
    (d.takeFrame c r u).ports = d.ports := by rfl

@[simp] theorem Device.takeFrame_rules (d : Device) (c : Fin 8) (r : Fin 512) (u : Bool) :
    (d.takeFrame c r u).rules = d.rules := by rfl

@[simp] theorem Device.takeFrame_drawers (d : Device) (c : Fin 8) (r : Fin 512) (u : Bool) :
    (d.takeFrame c r u).drawers = d.drawers := by rfl

@[simp] theorem Device.takeFrame_tlu (d : Device) (c : Fin 8) (r : Fin 512) (u : Bool) :
    (d.takeFrame c r u).tlu = d.tlu := by rfl

@[simp] theorem Device.takeFrame_trunk (d : Device) (c : Fin 8) (r : Fin 512) (u : Bool) :
    (d.takeFrame c r u).trunk = d.trunk := by rfl

@[simp] theorem Device.takeFrame_inReset (d : Device) (c : Fin 8) (r : Fin 512) (u : Bool) :
    (d.takeFrame c r u).inReset = d.inReset := by rfl

@[simp] theorem Device.takeFrame_usPhase (d : Device) (c : Fin 8) (r : Fin 512) (u : Bool) :
    (d.takeFrame c r u).usPhase = d.usPhase := by rfl

end Sys2Proof.Machine
end

