-- ==== Sys2Proof/Laws/Ops.lean ====
section
/-! SUPPORT. What each shared operation answers, in each of its cases: running a command, taking and answering a
request, offering an event, giving up a reference, requesting a tone, testing a kick. -/

namespace Sys2Proof.Machine

/-! ## Running a command -/

theorem State.run_of_running (s : State) (f : Device → Device) (h : s.dev.inReset = false) :
    s.run f = .next { s with dev := f s.dev } := by simp [State.run, h]

theorem State.run_of_inReset (s : State) (f : Device → Device) (h : s.dev.inReset = true) : s.run f = .next s := by
  simp [State.run, h]

theorem State.run_cases (s t : State) (f : Device → Device) (h : s.run f = .next t) :
    t = s ∨ (s.dev.inReset = false ∧ t = { s with dev := f s.dev }) := by
  unfold State.run at h
  split at h <;> simp_all

theorem State.run_pending (s t : State) (f : Device → Device) (h : s.run f = .next t) : t.pending = s.pending := by
  rcases s.run_cases t f h with rfl | ⟨-, rfl⟩ <;> rfl

theorem State.runAt_of_lt (s : State) {n i : Nat} (e : Fault) (f : Fin n → Device → Device) (h : i < n) :
    s.runAt n i e f = s.run (f ⟨i, h⟩) := by simp [State.runAt, h]

theorem State.runAt_of_ge (s : State) {n i : Nat} (e : Fault) (f : Fin n → Device → Device) (h : n ≤ i) :
    s.runAt n i e f = .fault e := by simp [State.runAt, Nat.not_lt.mpr h]

/-! ## Taking and answering (R187 to R189) -/

/-- A request is takeable exactly when R188's conditions hold. -/
theorem Trunk.takeable_eq_some (t : Trunk) (r : Request) :
    t.takeable = some r ↔ t.requests.head? = some r ∧ t.inProgress = none ∧ t.takingClosed = false ∧
      t.replies.length < 4 := by
  unfold Trunk.takeable Trunk.replyRoom
  cases t.inProgress <;> cases t.takingClosed <;> simp [bit, Config.fifoDepth, and_comm]

theorem Device.take_of_takeable (d : Device) (mine : Request → Bool) (carry : List Byte → Device → Carried)
    (r : Request) (h : d.trunk.takeable = some r) (hm : mine r = true) :
    d.take mine carry = (carry r.fields (d.begin r)).finish := by simp [Device.take, h, hm]

theorem Device.take_of_other (d : Device) (mine : Request → Bool) (carry : List Byte → Device → Carried)
    (h : ∀ r, d.trunk.takeable = some r → mine r = false) : d.take mine carry = d := by
  unfold Device.take
  split
  · rename_i r hr; simp [h r hr]
  · rfl

theorem Carried.finish_answer (d : Device) (c : ReplyCode) (fs : List Byte) :
    (answer d c fs).finish = d.reply { code := c, fields := fs } := rfl

/-- The reply of the request in progress is appended and the reservation ends. -/
theorem Device.reply_of_inProgress (d : Device) (a : Answer) (r : Request) (h : d.trunk.inProgress = some r) :
    d.reply a = { d with trunk := { d.trunk with
      replies := d.trunk.replies ++ [{ tag := r.tag, request := r.replyCode, code := a.code, fields := a.fields }]
      inProgress := none } } := by simp [Device.reply, Device.updTrunk, h]

/-! ## Offering an event (R108, R109) -/

/-- With room in the queue the entry takes the next sequence number and stands at the tail. -/
theorem Device.offer_of_room (d : Device) (q : Fin 17) (n : Notice) (h : d.pool.lanes[q].queue.length < 8) :
    d.offer q n = (d.updPend q fun p => { p with seq := p.seq + 1 }).updPend q fun p =>
      { p with queue := p.queue ++ [{ ev := d.eventOf q n, body := n.body }] } := by
  unfold Device.offer
  rw [if_pos (by simpa [Config.queueDepth] using h)]

/-- Behind 8 entries it takes its number all the same and is lost. -/
theorem Device.offer_of_full (d : Device) (q : Fin 17) (n : Notice) (h : 8 ≤ d.pool.lanes[q].queue.length) :
    d.offer q n = (d.updPend q fun p => { p with seq := p.seq + 1 }).loseEntry q
      { ev := d.eventOf q n, body := n.body } := by
  unfold Device.offer
  rw [if_neg (by simpa [Config.queueDepth] using h)]

/-- Offers to one queue leave every other queue alone. -/
theorem Device.offer_other (d : Device) (q r : Fin 17) (n : Notice) (h : r ≠ q) :
    (d.offer q n).pool.lanes[r] = d.pool.lanes[r] := by
  have h' : r.val ≠ q.val := fun e => h (Fin.ext e)
  unfold Device.offer
  split
  · simp [h']
  · cases n.body <;> simp [Device.loseEntry, Device.releaseBody, h']

/-- An offer raises the queue's sequence number by one, whatever else it does. -/
theorem Device.offer_seq (d : Device) (q : Fin 17) (n : Notice) :
    (d.offer q n).pool.lanes[q].seq = d.pool.lanes[q].seq + 1 := by
  unfold Device.offer
  split
  · simp
  · cases n.body <;> simp [Device.loseEntry, Device.releaseBody]

/-- An offer touches no slot, and of the pool nothing but its queues. -/
theorem Device.offer_slots (d : Device) (q : Fin 17) (n : Notice) :
    (d.offer q n).pool = { d.pool with lanes := (d.offer q n).pool.lanes } := by
  unfold Device.offer
  split
  · rfl
  · cases n.body <;> rfl

/-! ## References (R111) -/

/-- Giving up the last reference frees the slot at the tail of the free list. -/
theorem Pool.giveUp_last (p : Pool) (k : Fin 512) (s : Slot) (h : p.slots[k] = some s) (h1 : s.refs ≤ 1) :
    p.giveUp k = { p with slots := p.slots.set k none, freeList := p.freeList ++ [k] } := by
  simp only [Pool.giveUp, h, h1, if_true]

theorem Pool.giveUp_more (p : Pool) (k : Fin 512) (s : Slot) (h : p.slots[k] = some s) (h1 : 1 < s.refs) :
    p.giveUp k = { p with slots := p.slots.set k (some { s with refs := s.refs - 1 }) } := by
  simp only [Pool.giveUp, h, Nat.not_le.mpr h1, if_false]

/-! ## Tones and kicks (R151, R173) -/

theorem Device.requestTone_of_grants (d : Device) (l : Fin 16) (e : Fin 8) (h : d.tlu.grants l e = true) :
    d.requestTone l e = d.updGen l fun _ => startTone e d.tlu.tones[e] := by
  simp only [Device.requestTone, h, if_true]

theorem Device.requestTone_of_not (d : Device) (l : Fin 16) (e : Fin 8) (h : d.tlu.grants l e = false) :
    d.requestTone l e = d := by simp [Device.requestTone, h]

/-- What a kick request can do, by the tests of R151 in their order. -/
theorem Device.requestKick_cases (d : Device) (n : Fin 32) (o : Origin) :
    (∃ w, d.requestKick n o = (d.refuseKick n o w, .refused w)) ∨
    (d.drawers.drawers[n].kick ≠ .idle ∧ d.requestKick n o = (d, .merged)) ∨
    (d.drawers.drawers[n].present = true ∧ d.drawers.drawers[n].settled = true ∧
      d.drawers.drawers[n].kick = .idle ∧ d.drawers.drawers[n].position = .closed ∧ d.drawers.inhibit = false ∧
      (((d.interlock (laneOf n)).2 = true ∧
        d.requestKick n o = ((d.interlock (laneOf n)).1.acceptKick n, .accepted)) ∨
       ((d.interlock (laneOf n)).2 = false ∧
        d.requestKick n o = ((d.interlock (laneOf n)).1.refuseKick n o .interlock, .refused .interlock)))) := by
  have hp : ∀ p : Position, p ≠ .opened → p = .closed := fun p h => by cases p <;> simp_all
  unfold Device.requestKick
  dsimp only
  split_ifs with h1 h2 h3 h4 h5
  · exact .inl ⟨.state, rfl⟩
  · exact .inr (.inl ⟨h2, rfl⟩)
  · exact .inl ⟨.state, rfl⟩
  · exact .inl ⟨.inhibited, rfl⟩
  · refine .inr (.inr ⟨?_, ?_, by simpa using h2, hp _ h3, by simpa using h4, .inl ⟨h5, rfl⟩⟩) <;> simp_all
  · refine .inr (.inr ⟨?_, ?_, by simpa using h2, hp _ h3, by simpa using h4, .inr ⟨by simpa using h5, rfl⟩⟩) <;>
      simp_all

/-! ## Supply units (R155) -/

/-- A free unit is AVAILABLE and numbered below K. -/
theorem DrawerUnit.freeUnit_spec (u : DrawerUnit) (i : Fin 8) (h : u.freeUnit = some i) :
    i.val < u.supplyLimit ∧ u.units[i].state = .available := by
  have := List.find?_some h
  simpa using this

/-- A grant takes the head of the wait list, with no inhibit and no pending limit, and a free unit. -/
theorem DrawerUnit.nextGrant_spec (u : DrawerUnit) (n : Fin 32) (i : Fin 8) (h : u.nextGrant = some (n, i)) :
    u.inhibit = false ∧ u.pendingLimit = none ∧ u.waitList.head? = some n ∧ u.freeUnit = some i := by
  unfold DrawerUnit.nextGrant at h
  split at h
  · cases h
  · rename_i hc
    simp only [Bool.or_eq_true, not_or, Bool.not_eq_true, Option.isSome_eq_false_iff, Option.isNone_iff_eq_none] at hc
    split at h
    · rename_i n' i' hn hi; cases h; exact ⟨hc.1, hc.2, hn, hi⟩
    · cases h

end Sys2Proof.Machine
end

