-- ==== Sys2Proof/Tests/Slice0.lean ====
section
/-! SUPPORT. The model's own tests: ill-formed commands are refused, the book's worked examples come out, and for each
statement of Certificates/Slice0/Obligations.lean with hypotheses a state and operands that meet them, clause by
clause. -/

namespace Sys2Proof.Tests

open Sys2Proof.Machine Sys2Proof.Safety Sys2Proof.Claims

/-! ## Small states -/

/-- The part at its reset values, with a sound supply and nothing queued. -/
def quiet : State := { dev := Device.blank .powerOn Config.inputsAtReset, pending := [] }

/-- The quiet part changed by `f`. -/
def on (f : Device → Device) : State := { quiet with dev := f quiet.dev }

/-- The part changed by `f`, with one request waiting. -/
def asks (r : Request) (f : Device → Device := id) : State :=
  on fun d => f (d.updTrunk fun k => { k with requests := [r] })

/-- An event of a lane. -/
def anEntry (q : Fin 17) : Entry :=
  { ev := { lane := q, seq := 0, kind := .laneState, afterLoss := false, overrun := false, late := false
            forced := false, time := 0, source := none, detail1 := 0, detail2 := 0 }
    body := .absent }

/-- A queue of `k` events on queue `q`. -/
def holds (q : Fin 17) (k : Nat) (d : Device) : Device :=
  d.updPend q fun p =>
    { p with queue := List.replicate k (anEntry q) }

/-- What the drawer unit holds for drawer `n`, settled and changed by `f`. -/
def drawer (n : Fin 32) (f : Drawer → Drawer) (d : Device) : Device :=
  d.updDrawer n fun w => f { w with present := true, settled := true }

/-- A lane in a state with a lock position. -/
def lane (l : Fin 16) (st : LaneState) (lock : KeyLock) (d : Device) : Device :=
  d.updLane l fun r => { r with state := st, keyLock := lock, settled := true }

/-- The reply that the last step formed. -/
def reply (o : Host.Outcome State Fault Refusal) : Option (ReplyCode × List Byte) :=
  match o with
  | .next t => t.dev.trunk.replies.getLast?.map fun r => (r.code, r.fields)
  | .fault _ | .refused _ => none

/-- A reading of the next state. -/
def after {α : Type} (o : Host.Outcome State Fault Refusal) (f : Device → α) : Option α :=
  match o with
  | .next t => some (f t.dev)
  | .fault _ | .refused _ => none

/-! ## Ill-formed commands -/

theorem test_duePoint_lane16 : Instr.wellFormed (.duePoint 16) = false := by decide
theorem test_forcedKeymapSwitch_lane16 : Instr.wellFormed (.forcedKeymapSwitch 16) = false := by decide
theorem test_watchPoint_lane16 : Instr.wellFormed (.watchPoint 16 false false 0) = false := by decide
theorem test_wakeHoldOffExpiry_lane16 : Instr.wellFormed (.wakeHoldOffExpiry 16) = false := by decide
theorem test_tenderTimerExpiry_lane16 : Instr.wellFormed (.tenderTimerExpiry 16) = false := by decide
theorem test_scannerCharacter_port32 : Instr.wellFormed (.scannerCharacter 32 0 true) = false := by decide
theorem test_idleGapExpiry_port32 : Instr.wellFormed (.idleGapExpiry 32) = false := by decide
theorem test_admissionLimitExpiry_lane17 : Instr.wellFormed (.admissionLimitExpiry 17) = false := by decide
theorem test_stallTimerExpiry_consumer8 : Instr.wellFormed (.stallTimerExpiry 8) = false := by decide
theorem test_senseChange_drawer32 : Instr.wellFormed (.senseChange 32 true) = false := by decide
theorem test_stabilityTimerExpiry_drawer32 : Instr.wellFormed (.stabilityTimerExpiry 32) = false := by decide
theorem test_pulseEnd_drawer32 : Instr.wellFormed (.pulseEnd 32) = false := by decide
theorem test_confirmTimeout_drawer32 : Instr.wellFormed (.confirmTimeout 32) = false := by decide
theorem test_unitRecovered_unit8 : Instr.wellFormed (.unitRecovered 8) = false := by decide
theorem test_openTooLong_drawer32 : Instr.wellFormed (.openTooLong 32) = false := by decide
theorem test_tonePhaseEnd_lane16 : Instr.wellFormed (.tonePhaseEnd 16) = false := by decide
theorem test_lampBoundary_lane16 : Instr.wellFormed (.lampBoundary 16) = false := by decide
theorem test_scannerStartBit_port32 : Instr.wellFormed (.scannerStartBit 32) = false := by decide
theorem test_ill_formed_faults : exec (.unitRecovered 8) quiet = .fault .noSuchUnit := by rfl

/-! ## Worked examples of the book -/

set_option maxRecDepth 10000 in
/-- "The check word, worked": the characters 1 to 9 end at 29B1h, and no bytes at FFFFh. -/
theorem test_checkWord :
    checkWord [0x31, 0x32, 0x33, 0x34, 0x35, 0x36, 0x37, 0x38, 0x39] = 0x29B1 ∧ checkWord [] = 0xFFFF := by decide

/-- "The check, worked" (R95): 8712345678906 passes. -/
theorem test_mod10_passes :
    mod10 [0x38, 0x37, 0x31, 0x32, 0x33, 0x34, 0x35, 0x36, 0x37, 0x38, 0x39, 0x30, 0x36] = .passed := by decide

/-- With another check digit, 7, it does not; 7 digits and no digits at all are a wrong length; a letter is told first. -/
theorem test_mod10_reasons :
    mod10 [0x38, 0x37, 0x31, 0x32, 0x33, 0x34, 0x35, 0x36, 0x37, 0x38, 0x39, 0x30, 0x37] = .mismatch ∧
    mod10 [0x31, 0x32, 0x33, 0x34, 0x35, 0x36, 0x37] = .badLength ∧ mod10 [] = .badLength ∧
    mod10 [0x41, 0x32] = .notNumeric := by decide

/-- The flags of a keymap entry, bit by bit (11.4): code 321h, role MOD-B, REPEAT and WAKE. -/
theorem test_keyEntry_bytes :
    inKeyEntry 0x21 0x23 0x11 =
      some { code := 0x321, role := .modB, repeats := true, tender := false, supervisor := false, silent := false
             wake := true } ∧
    inKeyEntry 0 0x30 0 = none ∧ inKeyEntry 0 0x40 0 = none ∧ inKeyEntry 0 0 0x20 = none := by decide

/-- Bytes with reserved bits or an unlisted kind make no table entry (R131, 11.4). -/
theorem test_tableEntry_reserved :
    inTableEntry [0, 0, 2, 0, 0, 0, 0] = none ∧ inTableEntry [0, 0, 0, 0x20, 0, 0, 0] = none ∧
    inTableEntry [0, 0, 0, 0, 0x14, 0, 0] = none ∧ inTableEntry [0, 0, 0, 0, 0, 0, 4] = none := by decide

/-- Nd and Nr at the defaults (R61): 250 and 50 passes. -/
theorem test_repeat_passes : defaultSettings.delayPasses = 250 ∧ defaultSettings.periodPasses = 50 := by decide

set_option maxRecDepth 20000 in
/-- "Delivery sets, worked": a BLOCKED entry takes consumer 0 out, and the unmatched policy is not asked. -/
theorem test_delivery_blocked :
    let entry := fun (lanes : BitVec 17) (cls : BitVec 5) (cs : Byte) (blocked : Bool) =>
      ({ valid := true, laneMask := lanes, classMask := cls, kind := none, consumers := cs, urgent := false
         blocked := blocked } : TableEntry)
    let table := ((resetDelivery.table.set 0 (entry 0xFFFF 3 1 false)).set 4 (entry 0x80 2 1 true)).set 5
      (entry 0x80 2 0x20 false)
    ({ resetDelivery with table := table }.computeSet 7 .scanGood)[(0 : Fin 8)] = .out ∧
    ({ resetDelivery with table := table }.computeSet 7 .scanGood)[(5 : Fin 8)] = .out ∧
    ({ resetDelivery with table := table }.computeSet 3 .keyPress)[(0 : Fin 8)] = .taking .routine := by decide

/-- READ-LANE after a device reset (R1, R22, 11.4): CLOSED, LOCKED, not settled, window closed, then the defaults. -/
theorem test_readLane : reply (exec .readLane (asks (request 1 0x07 [15, 0]))) = some (.done,
    [0, 0, 0, 1, 0, 0, 0, 0, 0, 8, 8, 16, 3, 4, 1, 0, 50, 10, 5, 15, 0xFF, 0xFF, 0xFF, 0, 1]) := by decide

/-- READ-CONSUMER after a device reset: consumer 0 ACTIVE, credit 0, depth limit 64, last served 7. -/
theorem test_readConsumer : reply (exec .readConsumer (asks (request 1 0x41 [0, 0]))) = some (.done,
    [1, 0, 64, 0, 0, 0, 0, 0, 0xFF, 0xFF, 0xFF, 0xFF, 7, 0]) := by decide

set_option maxRecDepth 20000 in
/-- STATUS after a power-on: cause 1, clock 0, 250 kbit/s, no counts, 512 slots free. -/
theorem test_status : reply (exec .status (asks (request 1 0x60 [0]))) = some (.done,
    [1, 0, 0, 0, 0, 0] ++ List.replicate 12 0 ++ [0, 0, 0, 2, 0, 0]) := by decide

/-- The table of R170: a divider of 185 gives 2702 Hz, rounded down. -/
theorem test_writeTone_frequency :
    reply (exec .writeTone (asks (request 1 0x50 [3, 185, 0, 6, 0, 1, 0]))) = some (.done, [0x8E, 0x0A]) := by decide

/-- "Competing tones, worked": PLAY-TONE of entry 0 while entry 1 plays is ignored, and the reply names entry 1. -/
theorem test_playTone_ignored :
    reply (exec .playTone (asks (request 1 0x51 [5, 0]) fun d => d.requestTone 5 1)) =
      some (.doneIgnored, [1, 2]) := by decide

/-- R20: a scan period of 1 is clamped to 2, and the request answered DONE-CLAMPED. -/
theorem test_setLane_clamped :
    let o := exec .setLane (asks (request 1 0x06
      [0, 1, 8, 16, 3, 4, 1, 0, 50, 10, 5, 15, 0xFF, 0xFF, 0xFF, 0, 1]))
    reply o = some (.doneClamped, []) ∧ after o (fun d => d.lanes[0].active.scanPeriod) = some 2 := by decide

/-- R152: the interlock at every lock position in OPEN with the window closed, and in CLOSED. -/
theorem test_interlock :
    ([KeyLock.locked, .reg, .supv, .mgr].map fun k => ((lane 2 .opened k quiet.dev).interlock 2).2) =
      [false, false, true, true] ∧
    ([KeyLock.locked, .reg, .supv, .mgr].map fun k => ((lane 2 .closed k quiet.dev).interlock 2).2) =
      [false, false, false, true] := by decide

/-- R13: the third equal sample is accepted, and the first acceptance is silent. -/
theorem test_lock_third_sample :
    let d := quiet.dev.updLane 15 fun r => { r with lockCandidate := some .supv, lockCount := 2 }
    let d' := d.sampleLock 15 .supv
    d'.lanes[15].keyLock = .supv ∧ d'.lanes[15].settled = true ∧ d'.pool.lanes[15].queue = [] := by decide

/-- "A full request FIFO, worked": a request that arrives at a full FIFO is refused, or dropped without reply room. -/
theorem test_fifo_full :
    let r := request 9 7 [0, 0]
    let k := { quiet.dev.trunk with requests := List.replicate 4 r }
    (k.arrive r).busyRefusals = 1 ∧ (k.arrive r).replies.length = 1 ∧
    ({ k with replies := List.replicate 4 { tag := 0, request := 0, code := .done, fields := [] } }.arrive r).dropped =
      1 := by decide

/-- The bytes of a REFUSED-BUSY reply frame: kind A2h, tag, length 2, request code, 80h, and two check bytes (R189). -/
theorem test_reply_frame :
    ((OutFrame.reply { tag := 6, request := 7, code := .refusedBusy, fields := [] }).bytes).take 5 =
      [0xA2, 6, 2, 7, 0x80] ∧
    (OutFrame.reply { tag := 6, request := 7, code := .refusedBusy, fields := [] }).bytes.length = 7 := by decide

/-- No word of the table spells a command (notes/assumptions/1.md). -/
theorem test_no_words : decodeTableWord 8 0 = none := by rfl

/-! ## Witnesses

For each statement with hypotheses, states and operands that meet them, one for each clause, at a boundary of its range
where it has one. -/

/-- `EmptyQueueLetsTimePass`: within a millisecond, and at its last µs. -/
theorem witness_emptyQueue :
    let s := on fun d => { d with usPhase := 999 }
    (quiet.pending = [] ∧ quiet.dev.inReset = false ∧ quiet.dev.usPhase < 999) ∧
    (s.pending = [] ∧ s.dev.inReset = false ∧ ¬ s.dev.usPhase < 999) := by decide

/-- `WellFormedCommandsComplete`: the last lane, and the one above it. -/
theorem witness_wellFormed :
    Instr.wellFormed (.duePoint 15) = true ∧ Instr.wellFormed (.duePoint 16) = false ∧
    Instr.wellFormed (.admissionLimitExpiry 16) = true ∧ Instr.wellFormed (.admissionLimitExpiry 17) = false := by decide

/-- `ResetHoldsThePart`. -/
theorem witness_reset :
    (on fun d => { d with inReset := true }).dev.inReset = true ∧ Instr.wellFormed .kick = true ∧
    (∀ i, Instr.kick ≠ .powerOn i) ∧ (∀ i, Instr.kick ≠ .resetPinRise i) :=
  ⟨rfl, rfl, nofun, nofun⟩

/-- `ResetsAndStartUp`: a sound supply with the part running, in reset, and sending its last reply; and no supply. -/
theorem witness_resets :
    let i := Config.inputsAtReset
    let last := on fun d => d.updTrunk fun k =>
      { k with transmitter := .sending (.reply { tag := 3, request := 0x62, code := .done, fields := [] }) }
    i.supplyHigh = true ∧ quiet.dev.inReset = false ∧ (on fun d => { d with inReset := true }).dev.inReset = true ∧
    (last.dev.inReset = false ∧ last.dev.trunk.transmitter =
      .sending (.reply { tag := 3, request := 0x62, code := .done, fields := [] })) ∧
    { i with supplyHigh := false }.supplyHigh = false := by decide

/-- A lane with an active image. -/
def assigned (l : Fin 16) (d : Device) : Device := d.updMap l fun m => { m with active := some 7 }

/-- `OpenLane`: no image; an image, and 7 events queued; each other state. -/
theorem witness_openLane :
    let r := request 1 0x01 [num 15]
    let c := request 1 0x02 [num 15, 1]
    let p := request 1 0x03 [num 15]
    let m := request 1 0x04 [num 15]
    (Waits (asks r) r ∧ (asks r).dev.lanes[15].state = .closed ∧ (asks r).dev.keymaps.lanes[15].active = none) ∧
    (let s := asks r fun d => holds 15 7 (assigned 15 d)
     Waits s r ∧ s.dev.lanes[15].state = .closed ∧ s.dev.keymaps.lanes[15].active.isSome ∧ room s.dev 15 1) ∧
    (let s := asks r (lane 15 .opened .reg)
     Waits s r ∧ s.dev.lanes[15].state = .opened) ∧
    (let s := asks r (lane 15 .suspended .reg)
     Waits s r ∧ s.dev.lanes[15].state = .suspended) ∧
    (Waits (asks c) c ∧ (1 : Byte).toNat ≤ 1 ∧ (asks c).dev.lanes[15].state = .closed) ∧
    (Waits (asks p) p ∧ (asks p).dev.lanes[15].state ≠ .opened) ∧
    (Waits (asks m) m ∧ (asks m).dev.lanes[15].state ≠ .suspended) := by decide

/-- `SuspendAndResume`. -/
theorem witness_suspend :
    let p := request 1 0x03 [num 15]
    let m := request 1 0x04 [num 15]
    (let s := asks p fun d => holds 15 7 (lane 15 .opened .reg d)
     room s.dev 15 1 ∧ Waits s p ∧ s.dev.lanes[15].state = .opened) ∧
    (let s := asks m fun d => holds 15 7 (lane 15 .suspended .reg d)
     room s.dev 15 1 ∧ Waits s m ∧ s.dev.lanes[15].state = .suspended) := by decide

/-- Lane 15 holds position 127 PRESSED, with a REPORTED record, and position 126 LATCHED. -/
def keyDown (d : Device) : Device :=
  let h : Held := { layer := 3, code := 0xFFF, role := .none, repeats := true, wake := true, fate := .reported }
  (d.updScan 15 fun m =>
    { m with keys := (m.keys.set 127 .pressed).set 126 .latched, integ := m.integ.set 127 3 }).updTrans 15 fun t =>
    { t with held := t.held.set 127 (some h), owner := some 127 }

/-- Lane 15 OPEN with that key down, an image pending, a record under way at port 31, and `k` events queued. -/
def busyLane (k : Nat) (d : Device) : Device :=
  ((keyDown (holds 15 k (lane 15 .opened .reg (assigned 15 d)))).updMap 15 fun m =>
    { m with pendingImg := some 0 }).updPort 31 fun p =>
      { p with state := .active, bufX := { state := .filling, chars := [0x31], received := 1 } }

set_option maxRecDepth 20000 in
/-- `CloseLane`: an open drawer without force; with force, a key down, an image pending and room for just the three
events; a FAULT lane. -/
theorem witness_closeLane :
    let r0 := request 1 0x02 [num 15, 0]
    let r1 := request 1 0x02 [num 15, 1]
    let ajar := fun d => drawer 31 (fun w => { w with position := .opened }) (busyLane 5 d)
    (Waits (asks r0 ajar) r0 ∧ (asks r0 ajar).dev.lanes[15].state.scanning = true ∧ (0 : Byte).toNat ≤ 1 ∧
      laneOf 31 = 15 ∧ (asks r0 ajar).dev.drawers.drawers[31].present = true ∧
      (asks r0 ajar).dev.drawers.drawers[31].settled = true ∧
      (asks r0 ajar).dev.drawers.drawers[31].position = .opened) ∧
    (Waits (asks r1 ajar) r1 ∧ (asks r1 ajar).dev.lanes[15].state.scanning = true ∧ (1 : Byte).toNat = 1 ∧
      pressedKeys (asks r1 ajar).dev 15 = [127] ∧ (departing (asks r1 ajar).dev 15 0 0).length = 3 ∧
      room (asks r1 ajar).dev 15 3) ∧
    (let s := asks r0 (lane 15 .faulted .reg)
     Waits s r0 ∧ s.dev.lanes[15].state = .faulted ∧ room s.dev 15 1) := by decide

/-- `ResetLane`: a FAULT lane; and a busy one whose head is WAITING with its last computed set, whose two drawers have
kicks WAITING, and which tells four events. -/
theorem witness_resetLane :
    let r := request 1 0x05 [num 15]
    let waits := fun w : Drawer => { w with kick := .waiting }
    let s := asks r fun d =>
      (drawer 30 waits (drawer 31 waits (busyLane 8 d))).updDrawers (fun u => { u with waitList := [31, 30] })
        |>.updPend 15 fun p =>
          { p with waiting := true, waitTimer := some 0
                   lastSet := some ((Vector.replicate 8 Member.out).set 0 (.taking .routine)) }
    Waits (asks r (lane 15 .faulted .reg)) r ∧ Waits s r ∧
    (s.dev.drawers.waitList.filter fun k => laneOf k == 15) = [31, 30] ∧ (switchTold s.dev 15).length = 1 ∧
    (s.dev.pool.lanes[15].waiting = true ∧
      (s.dev.pool.lanes[15].lastSet.any fun set => set[(0 : Fin 8)] != .out) = true ∧
      s.dev.delivery.consumers[0].state ≠ .inactive) ∧
    (∀ e ∈ s.dev.pool.lanes[15].queue, e.body = .absent) := by decide

/-- A setting set at its lower limits, as SET-LANE carries it, with wake detection OFF or ON. -/
def leastSet (wake : Byte) : List Byte := [2, 1, 1, 1, 2, 0, 1, 10, 3, 1, 1, 0, 0, 0, 1, wake]

/-- `SetLane`: a scanning lane; a CLOSED one with wake OFF, and with wake ON and its monitor stopped; a FAULT lane. -/
theorem witness_setLane :
    let r := fun w : Byte => request 1 0x06 (num 15 :: leastSet w)
    let stopped := fun d : Device => d.updLane 15 fun x => { x with wakeMonitor := false }
    let s := asks (r 0) (lane 15 .suspended .reg)
    (Waits s (r 0) ∧ (rawSettings (leastSet 0)).isSome ∧ s.dev.lanes[15].state.scanning = true) ∧
    (Waits (asks (r 0)) (r 0) ∧ (asks (r 0)).dev.lanes[15].state.scanning = false) ∧
    (Waits (asks (r 1) stopped) (r 1) ∧ (rawSettings (leastSet 1)).map (·.wake) = some true ∧
      (asks (r 1) stopped).dev.lanes[15].state = .closed ∧
      (asks (r 1) stopped).dev.lanes[15].wakeMonitor = false) ∧
    (Waits (asks (r 1) (lane 15 .faulted .reg)) (r 1) ∧
      (asks (r 1) (lane 15 .faulted .reg)).dev.lanes[15].state = .faulted) := by decide

/-- `LaneTimers`: the four cases of the lock filter, with the wake monitor off; with it running in CLOSED and the third
sample of another position, the driver idle and a pass in progress; a due reading taken at the end of a pass of another
lane, and of a discarded pass; both expiries. -/
theorem witness_laneTimers :
    let off := fun (f : LaneRec → LaneRec) (d : Device) =>
      holds 15 6 (d.updLane 15 fun r => f { r with watchTimer := some 0, wakeMonitor := false, settled := true })
    let third := fun r : LaneRec => { r with lockCandidate := some .mgr, lockCount := 2 }
    let s := on (off id)
    let c := on (off fun r => { r with lockCandidate := some .mgr, lockCount := 1 })
    let a := on (off third)
    let w := on (off fun r => { third r with wakeMonitor := true, wakeRef := some 1, wakeDue := true })
    let runs := fun (p : Fin 16) (e : Bool) => on fun d => (off
      (fun r => { third r with wakeMonitor := true, wakeRef := some 1, wakeDue := true }) d).updScanner fun m =>
        { m with laneInPass := some p, lanes := upd m.lanes p fun n => { n with discard := e } }
    (s.dev.inReset = false ∧ s.dev.lanes[15].watchTimer.isSome ∧ s.dev.lanes[15].wakeMonitor = false ∧
      room s.dev 15 2 ∧ s.dev.lanes[15].settled = true ∧ KeyLock.ofLines false false = s.dev.lanes[15].keyLock ∧
      KeyLock.ofLines false true ≠ s.dev.lanes[15].keyLock ∧ s.dev.lanes[15].lockCandidate ≠ some .mgr) ∧
    (c.dev.lanes[15].lockCandidate = some (KeyLock.ofLines false true) ∧ ¬ 2 ≤ c.dev.lanes[15].lockCount) ∧
    lockAccepts a.dev.lanes[15] (KeyLock.ofLines false true) ∧
    (w.dev.lanes[15].watchTimer.isSome ∧ w.dev.lanes[15].state = .closed ∧ w.dev.lanes[15].wakeMonitor = true ∧
      w.dev.scanner.laneInPass = none ∧ lockAccepts w.dev.lanes[15] (KeyLock.ofLines false true) ∧ room w.dev 15 2 ∧
      w.dev.lanes[15].wakeRef = some 1 ∧ w.dev.lanes[15].wakeHoldOff = 0) ∧
    ((runs 0 false).dev.inReset = false ∧ (runs 0 false).dev.lanes[15].state = .closed ∧
      (runs 0 false).dev.lanes[15].wakeMonitor = true ∧ (runs 0 false).dev.scanner.laneInPass = some 0 ∧
      (runs 0 false).dev.lanes[15].wakeDue = true ∧ room (runs 0 false).dev 15 2) ∧
    ((runs 15 true).dev.scanner.laneInPass = some 15 ∧ (runs 15 true).dev.scanner.lanes[15].discard = true ∧
      (runs 15 true).dev.lanes[15].wakeDue = true) ∧
    (quiet.dev.lanes[15].wakeRef = none ∧ quiet.dev.lanes[15].windowOpen = false) ∧
    (on fun d => d.updLane 15 LaneRec.openWindow).dev.lanes[15].windowOpen = true := by decide

set_option maxRecDepth 20000 in
/-- `DueAndPassStart`: a due point in time, one missed under each policy, the second with a key down and an image pending;
no pass waiting, one running, one to start with and without pending settings, the first with three keys PRESSED and a new
N of 2. -/
theorem witness_duePoint :
    let due := fun (w : Bool) (f : LaneRec → LaneRec) (d : Device) =>
      ((busyLane 5 d).updLane 15 f).updScan 15 fun m => { m with dueTimer := some 0, waiting := w }
    let s := on (due false id)
    let h := on (due true id)
    let x := on (due true fun r => { r with active := { r.active with missPolicy := .fault } })
    let p := on fun d => (due true (fun r =>
      { r with pendingSet := some { r.active with debounce := 1, rollover := 2 } }) d).updScan 15 fun m =>
        { m with keys := (m.keys.set 0 .pressed).set 64 .pressed }
    (s.dev.inReset = false ∧ s.dev.scanner.lanes[15].dueTimer.isSome ∧ s.dev.scanner.lanes[15].waiting = false) ∧
    (h.dev.scanner.lanes[15].waiting = true ∧ h.dev.lanes[15].active.missPolicy = .hold) ∧
    (x.dev.scanner.lanes[15].waiting = true ∧ x.dev.lanes[15].active.missPolicy = .fault ∧
      x.dev.lanes[15].state.scanning = true ∧ (departing x.dev 15 3 1).length = 3 ∧ room x.dev 15 3) ∧
    (∀ l : Fin 16, s.dev.scanner.lanes[l].waiting = false) ∧
    (on fun d => d.updScanner fun m => { m with laneInPass := some 0 }).dev.scanner.laneInPass.isSome ∧
    (h.dev.scanner.laneInPass = none ∧ (∀ m : Fin 16, h.dev.scanner.lanes[m].waiting = true →
      distance 16 h.dev.scanner.lastServed 15 ≤ distance 16 h.dev.scanner.lastServed m) ∧
      h.dev.lanes[15].pendingSet = none) ∧
    (p.dev.scanner.laneInPass = none ∧ p.dev.lanes[15].pendingSet.map (·.rollover) = some 2 ∧
      pressedKeys p.dev 15 = [0, 64, 127] ∧ (releasesOf p.dev 15 [127]).length = 1 ∧ room p.dev 15 1) := by decide

/-- A pass that runs for lane 15. -/
def inPass (discard : Bool) (d : Device) : Device :=
  (lane 15 .opened .reg (assigned 15 d)).updScanner fun m =>
    { m with laneInPass := some 15, lanes := upd m.lanes 15 fun n => { n with discard := discard } }

/-- `PassEndIntegrators`: a pass to be discarded, and one that counts, with a closed, an open and an ambiguous
position. -/
theorem witness_passEnd :
    let g := (on (inPass false)).dev.lanes[15].active
    (on (inPass true)).dev.scanner.laneInPass = some 15 ∧ (on (inPass true)).dev.scanner.lanes[15].discard = true ∧
    (on (inPass false)).dev.scanner.laneInPass = some 15 ∧ (on (inPass false)).dev.scanner.lanes[15].discard = false ∧
    closedAt g 0x1 0 0 ∧ ¬ closedAt g 0x1 0 1 ∧ ghostAt g 0x30003 0 0 := by
  refine ⟨by decide, by decide, by decide, by decide, by decide, by decide, by decide, by decide, 1, 1, by decide,
    by decide, by decide, by decide, by decide⟩

/-- `PassEndKeyStates`. -/
theorem witness_passKeys :
    let s := on (inPass false)
    s.dev.inReset = false ∧ s.dev.scanner.laneInPass = some 15 ∧ s.dev.scanner.lanes[15].discard = false ∧
    1 ≤ s.dev.lanes[15].active.debounce ∧
    s.dev.scanner.lanes[15].countKeys .pressed ≤ s.dev.lanes[15].active.rollover ∧
    (after (exec (.passEnd 1 false false 0) s) fun _ => ()).isSome = true ∧
    (let k := on fun d => (inPass false d).updScan 15 fun m =>
       { m with keys := ((m.keys.set 0 .pressed).set 1 .latched).set 2 .blocked
                integ := ((m.integ.set 0 3).set 1 1).set 2 3 }
     k.dev.scanner.lanes[15].keys[0] = .pressed ∧ k.dev.scanner.lanes[15].keys[1] = .latched ∧
     k.dev.scanner.lanes[15].keys[2] = .blocked ∧ k.dev.scanner.lanes[15].keys[3] = .released ∧
     k.dev.scanner.lanes[15].countKeys .pressed ≤ k.dev.lanes[15].active.rollover) := by decide

/-- A pass that runs for lane 15, which holds position 127 PRESSED as its repeat owner. -/
def owning (countdown : Nat) : State :=
  let h : Held := { layer := 0, code := 1, role := .none, repeats := true, wake := true, fate := .reported }
  on fun d => ((holds 15 7 (inPass false d)).updScan 15 fun m =>
    { m with keys := m.keys.set 127 .pressed, integ := m.integ.set 127 3 }).updTrans 15 fun t =>
      { t with held := t.held.set 127 (some h), owner := some 127, countdown := countdown }

set_option maxRecDepth 40000 in
/-- `PassEndKeyStates`, the repeat and the switch: a pass that leaves no key down with an image pending; one that changes no key
state, before the repeat and at it. -/
theorem witness_passRepeat :
    let s := on fun d => (inPass false d).updMap 15 fun m => { m with pendingImg := some 0 }
    let keys := fun d : Device => d.scanner.lanes[15].keys
    (s.dev.keymaps.lanes[15].pendingImg = some 0 ∧
      after (exec (.passEnd 0 false true 0) s) keys = some (Vector.replicate 128 .released)) ∧
    (∀ n ∈ [1, 2], (owning n).dev.trans[15].owner = some 127 ∧ (owning n).dev.trans[15].held[127].isSome ∧
      (owning n).dev.scanner.lanes[15].keys[127] = .pressed ∧ (owning n).dev.trans[15].countdown = n ∧
      (owning n).dev.lanes[15].settled = true ∧ KeyLock.ofLines false false = .locked ∧
      KeyLock.ofLines true false = (owning n).dev.lanes[15].keyLock ∧ (owning n).dev.lanes[15].wakeDue = false ∧
      room (owning n).dev 15 1) ∧
    after (exec (.passEnd 0 true false 0) (owning 1)) keys = some (keys (owning 1).dev) ∧
    after (exec (.passEnd 0 true false 0) (owning 2)) keys = some (keys (owning 2).dev) := by
  refine ⟨by decide +kernel, by decide, by decide +kernel, by decide +kernel⟩

/-- Image 7 with one entry: position 127 on layer 0. -/
def image7 (e : KeyEntry) (d : Device) : Device :=
  d.updKeymaps fun k => { k with images := upd k.images 7 fun m => { m with entries := m.entries.set 127 e } }

/-- A key entry with a code and the given attributes. -/
def aKey (tender supervisor silent wake : Bool) : KeyEntry :=
  { code := 0xFFF, role := .none, repeats := tender, tender := tender, supervisor := supervisor, silent := silent
    wake := wake }

set_option maxRecDepth 40000 in
/-- `PassEndKeyStates`, the translation: position 127 is released, position 2, which was BLOCKED, is pressed LATE, and
position 0 is pressed after it, in a queue that holds one event. -/
theorem witness_passTranslates :
    let mapped := fun d : Device => d.updKeymaps fun k =>
      { k with images := upd k.images 7 fun m => { m with entries := m.entries.set 0 (aKey false false false false) } }
    let s := on fun d => ((keyDown (holds 15 1 (inPass false (mapped d)))).updScan 15 fun m =>
      { m with keys := m.keys.set 2 .blocked, integ := ((m.integ.set 127 1).set 2 3).set 0 2 }).updLane 15 fun r =>
        { r with active := { r.active with ghostCheck := false } }
    let presses : List (Fin 128 × Bool) := [(2, true), (0, false)]
    let released := s.dev.translateRelease 15 127
    (s.dev.inReset = false ∧ s.dev.scanner.laneInPass = some 15 ∧ s.dev.scanner.lanes[15].discard = false ∧
      1 ≤ s.dev.lanes[15].active.debounce ∧ s.dev.lanes[15].wakeDue = false ∧
      s.dev.scanner.lanes[15].countKeys .pressed ≤ s.dev.lanes[15].active.rollover ∧
      KeyLock.ofLines true false = s.dev.lanes[15].keyLock ∧ room s.dev 15 1) ∧
    after (exec (.passEnd 5 true false 0) s) (fun d => pressedKeys d 15) = some [0, 2] ∧
    room (presses.foldl (fun d x => d.translatePress 15 x.1 x.2) released) 15 2 := by
  refine ⟨by decide, by decide +kernel, by decide +kernel⟩

set_option maxRecDepth 20000 in
/-- `PressAndRelease`: a press of position 127 on layer 0, in OPEN and SUSPENDED, of each fate; a tender key with and
without auto-kick; and a held key of an owner. -/
theorem witness_press :
    let open' := fun (e : KeyEntry) (k : KeyLock) => image7 e (holds 15 7 (assigned 15 (lane 15 .opened k quiet.dev)))
    let d := open' (aKey false true false true) .reg
    let kicks := drawer 30 id ((open' (aKey true false false false) .reg).updLane 15 fun r =>
      { r with active := { r.active with autoKick := some 0 } })
    let h : Held := { layer := 0, code := 1, role := .none, repeats := false, wake := false, fate := .reported }
    let held := d.updTrans 15 fun t => { t with held := t.held.set 127 (some h), owner := some 127 }
    (d.keymaps.lanes[15].active = some 7 ∧ (0 : Fin 4).val = layerOf d.trans[15] ∧ room d 15 1 ∧
      d.lanes[15].state.scanning = true ∧ d.lanes[15].keyLock = .reg ∧
      d.keymaps.images[7].entries[127].supervisor = true ∧ d.keymaps.images[7].entries[127].code ≠ 0 ∧
      d.keymaps.images[7].entries[127].silent = false) ∧
    ((open' (aKey false false false false) .locked).lanes[15].keyLock = .locked ∧
      (open' (aKey false false false false) .mgr).lanes[15].keyLock = .mgr ∧
      (open' (aKey false false true false) .mgr).keymaps.images[7].entries[127].silent = true) ∧
    ((lane 15 .suspended .reg d).lanes[15].state = .suspended ∧
      (image7 (aKey false false false false) d).keymaps.images[7].entries[127].wake = false) ∧
    (kicks.keymaps.images[7].entries[127].tender = true ∧ kicks.lanes[15].active.autoKick = some 0 ∧
      (30 : Fin 32).val = 2 * 15 + 0 ∧ kicks.drawers.drawers[30].present = true ∧
      kicks.drawers.drawers[30].settled = true ∧ kicks.drawers.drawers[30].kick = .idle ∧
      kicks.drawers.drawers[30].position = .closed ∧ kicks.drawers.inhibit = false) ∧
    (held.trans[15].held[127] = some h ∧ held.trans[15].owner = some 127 ∧ room held 15 1) := by
  refine ⟨⟨by decide, ?_, by decide, by decide, by decide, by decide, by decide, by decide⟩, by decide, by decide,
    by decide, by decide⟩
  simp [layerOf, image7, holds, assigned, lane, quiet, Device.blank, Device.updKeymaps, Device.updPend, Device.updPool,
    Device.updMap, Device.updLane, resetKeyTrans]

set_option maxRecDepth 20000 in
/-- `WriteAndEraseKeymap`: the last entry of an image that is in use, and of one that is not. -/
theorem witness_writeKeymap :
    let w := request 1 0x18 (num 7 :: 0xFF :: 1 :: 1 :: [0, 0, 0])
    let e := request 1 0x1B [num 7]
    (Waits (asks w) w ∧ (inKeyEntries [0, 0, 0]).isSome ∧ 1 ≤ (1 : Byte).toNat ∧
      (0xFF : Byte).toNat + 256 * (1 : Byte).toNat + (1 : Byte).toNat ≤ 512) ∧
    (Waits (asks w (assigned 0)) w ∧ (asks w (assigned 0)).dev.keymaps.lanes[0].active = some 7) ∧
    (∀ l : Fin 16, (asks w).dev.keymaps.lanes[l].active ≠ some 7 ∧
      (asks w).dev.keymaps.lanes[l].pendingImg ≠ some 7) ∧
    Waits (asks e) e ∧ Waits (asks e (assigned 0)) e := by decide

/-- `VerifyKeymap`: an EMPTY image, an OPEN one, and the end of its walk. -/
theorem witness_verifyKeymap :
    let r := request 1 0x1A [num 7, 0, 0]
    let opened := fun d : Device => d.updKeymaps fun k =>
      { k with images := upd k.images 7 fun m => { m with state := .opened } }
    let walks := on fun d => (opened d).updKeymaps fun k => { k with verify := some { image := 7, checkWord := 65535 } }
    let s := { walks with dev := walks.dev.updTrunk fun k => { k with inProgress := some r } }
    (Waits (asks r) r ∧ (asks r).dev.keymaps.images[7].state = .empty) ∧
    (Waits (asks r opened) r ∧ (asks r opened).dev.keymaps.images[7].state ≠ .empty) ∧
    (s.dev.inReset = false ∧ s.dev.keymaps.verify = some { image := 7, checkWord := 65535 } ∧
      s.dev.trunk.inProgress = some r ∧ s.dev.keymaps.images[7].state ≠ .empty) := by decide

set_option maxRecDepth 20000 in
/-- `KeymapSwitches`: an image that is not READY, the active one, one at once, one pending; and a switch that is
forced on a lane with a key down, with room for just its two events. -/
theorem witness_assignKeymap :
    let r := request 1 0x1C [num 15, num 7]
    let ready := fun d : Device => d.updKeymaps fun k =>
      { k with images := upd k.images 7 fun m => { m with state := .ready } }
    let other := fun d : Device => (lane 15 .opened .reg (ready d)).updMap 15 fun m => { m with active := some 0 }
    let due := on fun d => (busyLane 6 d).updMap 15 fun m => { m with pendingImg := some 7, switchTimer := some 0 }
    (Waits (asks r) r ∧ (asks r).dev.keymaps.images[7].state ≠ .ready) ∧
    (let s := asks r fun d => assigned 15 (ready d)
     Waits s r ∧ s.dev.keymaps.images[7].state = .ready ∧ s.dev.keymaps.lanes[15].active = some 7) ∧
    (let s := asks r fun d => holds 15 7 (ready d)
     Waits s r ∧ s.dev.keymaps.images[7].state = .ready ∧ s.dev.keymaps.lanes[15].active = none ∧ room s.dev 15 1) ∧
    (let s := asks r other
     Waits s r ∧ s.dev.keymaps.images[7].state = .ready ∧ s.dev.keymaps.lanes[15].active ≠ some 7 ∧
     s.dev.keymaps.lanes[15].active ≠ none ∧ s.dev.lanes[15].state.scanning = true) ∧
    (due.dev.inReset = false ∧ due.dev.keymaps.lanes[15].switchTimer.isSome ∧
      due.dev.keymaps.lanes[15].pendingImg = some 7 ∧ pressedKeys due.dev 15 = [127] ∧
      (releasesOf due.dev 15 [127]).length = 1 ∧ room due.dev 15 2 ∧ due.dev.trans[15].owner = some 127) := by decide

/-- `SetPort`: terminators 0, 127, 128, 254 and none, with the lane OPEN and not. -/
theorem witness_setPort :
    let r := fun tb : Byte => request 1 0x20 [num 31, num 4, tb, 0, num 1]
    (∀ tb ∈ [(0 : Byte), 127, 128, 254, 255], Waits (asks (r tb)) (r tb)) ∧
    (asks (r 0) (lane 15 .opened .reg)).dev.lanes[laneOf 31].state = .opened ∧
    (asks (r 0)).dev.lanes[laneOf 31].state ≠ .opened := by decide

/-- Port 31 changed by `f`, on a sound part. -/
def port31 (f : Port → Port) : State := on fun d => holds 15 7 (d.updPort 31 f)

/-- A FILLING buffer with `k` characters received. -/
def filling (k : Nat) : Buffer := { state := .filling, chars := List.replicate (min 48 k) 0x31, received := k }

/-- `ScannerCharacter`: each state and buffer that its clauses name, with the 48th and 49th character, and a
terminator in a FILLING buffer. -/
theorem witness_scannerCharacter :
    let s := port31 fun p => { p with state := .active }
    let none' := port31 fun p => { p with state := .active, current := none }
    let f := fun k => port31 fun p => { p with state := .active, bufX := filling k }
    let z := port31 fun p => { p with state := .stopping }
    quiet.dev.ports[31].state = .disabled ∧
    (none'.dev.ports[31].state = .active ∧ none'.dev.ports[31].current = none) ∧
    (s.dev.inReset = false ∧ s.dev.ports[31].state = .active ∧ s.dev.ports[31].current = some .x ∧
      (s.dev.ports[31].buf .x).state = .free ∧ s.dev.ports[31].terminator = some 13) ∧
    (∀ k ∈ [47, 48, 49], (f k).dev.ports[31].current = some .x ∧ ((f k).dev.ports[31].buf .x).state = .filling ∧
      (f k).dev.ports[31].terminator ≠ some 14 ∧ (f k).dev.ports[31].terminator = some 13) ∧
    (z.dev.ports[31].state = .stopping ∧ z.dev.ports[31].current = some .x ∧
      (z.dev.ports[31].buf .x).state ≠ .filling) := by decide

/-- A rule that takes every record of lane 15 with an action and a check. -/
def aRule (a : RuleAction) (c : RuleCheck) : ScanRule :=
  { valid := true, action := a, check := c, laneMask := 0x8000, leadLen := 0, lead := Vector.replicate 3 0, minLen := 1
    maxLen := 48, strip := 3, typeCode := 9 }

/-- `RecordEnds`: a damaged, an overlength and a sound record; matched by a silent, a reporting and an accepting rule, and
by none; a tone that is granted and one that is not. -/
theorem witness_recordEnds :
    let ends := fun (f : Port → Port) => port31 fun p => f { p with idleTimer := some 0, bufX := filling 48 }
    let d := ends fun p => { p with markDamaged := true }
    let o := ends fun p => { p with markOverlength := true, state := .stopping }
    let s := ends fun p => { p with markOverrun := true }
    let by' := fun (a : RuleAction) (c : RuleCheck) => s.dev.updRules fun k =>
      { k with active := k.active.set 31 { rule := aRule a c, hits := 65535 } }
    (d.dev.inReset = false ∧ d.dev.ports[31].idleTimer.isSome ∧ d.dev.ports[31].current = some .x ∧
      (d.dev.ports[31].buf .x).state = .filling ∧ d.dev.ports[31].markDamaged = true ∧ room d.dev 15 1) ∧
    o.dev.ports[31].markOverlength = true ∧
    (s.dev.ports[31].idleTimer.isSome ∧ s.dev.ports[31].current = some .x ∧
      (s.dev.ports[31].buf .x).state = .filling ∧ s.dev.ports[31].markDamaged = false ∧
      s.dev.ports[31].markOverlength = false ∧ (s.dev.ports[31].buf BufferId.x.other).state ≠ .filling ∧
      room s.dev 15 1 ∧ s.dev.rules.firstMatch 15 (filling 48).chars = none) ∧
    ((by' .rejectSilent .none).rules.firstMatch 15 (filling 48).chars = some 31 ∧
      scanEvent (some (31, aRule .rejectSilent .none)) .acceptRaw (filling 48).chars = none) ∧
    scanEvent (some (31, aRule .accept .mod10)) .acceptRaw (filling 48).chars = some (.scanBadCheck, 9, 3, 3, 45) ∧
    scanEvent (some (31, aRule .rejectReport .none)) .acceptRaw (filling 48).chars = some (.scanRejected, 31, 48, 0, 48) ∧
    (levelGrants s.dev.tlu 15 0 ∧ ¬ levelGrants (s.dev.requestTone 15 7).tlu 15 0) := by
  refine ⟨by decide, by decide, by decide, by decide, by decide, by decide, fun c h => ?_, fun h => ?_⟩
  · exact absurd h nofun
  · exact absurd (h _ rfl) (by decide)

/-- `ScanRules`: a rule whose clamped range is empty, one whose range is one length, and the commit. -/
theorem witness_rules :
    let bad : List Byte := [1, 0, 0x80, 0, 0, 0, 0, 2, 1, 0, 0]
    let good : List Byte := [1, 0, 0x80, 4, 0, 0, 0, 0, 1, 4, 0]
    let c := request 1 0x2A []
    (Waits (asks (request 1 0x28 (num 31 :: bad))) (request 1 0x28 (num 31 :: bad)) ∧
      (rawRule bad).map (fun r => decide (min 48 (max 1 r.maxLen) < min 48 (max 1 r.minLen))) = some true) ∧
    (Waits (asks (request 1 0x28 (num 31 :: good))) (request 1 0x28 (num 31 :: good)) ∧
      (rawRule good).map (fun r => decide (min 48 (max 1 r.minLen) ≤ min 48 (max 1 r.maxLen))) = some true) ∧
    Waits (asks c) c := by decide

/-- An event of kind KEY-PRESS, which needs more free slots than the reserve (R113), for queue 15. -/
def pressed : Entry := { anEntry 15 with ev := { (anEntry 15).ev with kind := .keyPress } }

/-- Queue 15 headed by a KEY-PRESS, the pool changed by `f`. -/
def headed (f : Pool → Pool) (d : Device) : Device :=
  (d.updPend 15 fun p => { p with queue := [pressed] }).updPool f

set_option maxRecDepth 40000 in
/-- `AdmissionAttempt`: no taker, with nobody in the set and with a consumer that refuses, its queue at its depth; 17 free
slots, one above the reserve; 16 free slots, which do not meet the need. -/
theorem witness_admission :
    let none' := on fun d => headed id (d.updDelivery fun u => { u with policy := .discard })
    let refuses := on fun d => (headed id d).updConsumer 0 fun c => { c with depth := 4, routineQ := [1, 2, 3, 4] }
    let s := fun k : Nat => on (headed fun p => { p with freeList := (List.finRange 512).take k })
    let takers := fun t : State => (List.finRange 8).countP fun c =>
      match (t.dev.delivery.computeSet 15 .keyPress)[c] with | .taking _ => true | _ => false
    (none'.dev.pool.lanes[15].queue = [pressed] ∧ none'.dev.pool.nextLane = some 15 ∧ takers none' = 0) ∧
    (refuses.dev.pool.lanes[15].queue = [pressed] ∧ refuses.dev.pool.nextLane = some 15 ∧ takers refuses = 0 ∧
      (refuses.dev.delivery.computeSet 15 .keyPress)[(0 : Fin 8)] = .refused) ∧
    ((s 17).dev.inReset = false ∧ (s 17).dev.pool.lanes[15].queue = [pressed] ∧ (s 17).dev.pool.nextLane = some 15 ∧
      takers (s 17) = 1 ∧ (s 17).dev.pool.freeList.head? = some 0 ∧ (s 17).dev.pool.freeList.length = 17 ∧
      (s 17).dev.pool.reserve = 16 ∧
      (s 17).dev.delivery.consumers[0].credit = 0 ∧ pressed.ev.kind.cls = .key) ∧
    ((s 16).dev.pool.nextLane = some 15 ∧ takers (s 16) = 1 ∧ (s 16).dev.pool.freeList.length = 16) := by decide

/-- `Rotations`: an idle driver, and each arbiter with a candidate at the last served number, which comes last. -/
theorem witness_rotations :
    let m := quiet.dev.scanner
    let m' := (quiet.dev.updScan 15 fun n => { n with waiting := true }).scanner
    let p := (headed id quiet.dev).pool
    let u := (quiet.dev.updConsumer 7 fun c => { c with credit := 1, urgentQ := [511] }).delivery
    let v := (quiet.dev.updConsumer 7 fun c => { c with credit := 1, routineQ := [511] }).delivery
    m.laneInPass = none ∧ m'.nextLane = some 15 ∧ p.nextLane = some 15 ∧ u.chooseFrame = some (7, 511, true) ∧
    v.chooseFrame = some (7, 511, false) ∧ quiet.dev.delivery.chooseFrame = none := by decide

/-- `EventLosses`: a full queue; a WAITING head with its timer and its last computed set. -/
theorem witness_losses :
    let full := holds 16 8 quiet.dev
    let s := on fun d => d.updPend 15 fun p =>
      { p with queue := [pressed], waiting := true, waitTimer := some 0
               lastSet := some ((Vector.replicate 8 Member.out).set 0 (.taking .routine)) }
    full.pool.lanes[16].queue.length = 8 ∧
    (s.dev.inReset = false ∧ s.dev.pool.lanes[15].queue = [pressed] ∧ s.dev.pool.lanes[15].waiting = true ∧
      s.dev.pool.lanes[15].waitTimer.isSome ∧ s.dev.pool.lanes[15].lastSet.isSome) := by decide

/-- `DeviceWideSettings`: values at and beyond the limits, the last policy code and the first that is none. -/
theorem witness_settings :
    (∀ x ∈ [(64 : Byte), 65], ∀ y ∈ [(0 : Byte), 1], Waits (asks (request 1 0x30 [x, y])) (request 1 0x30 [x, y])) ∧
    (∀ x ∈ [(0 : Byte), 1], ∀ y ∈ [(0 : Byte), 4, 5], Waits (asks (request 1 0x40 [x, y])) (request 1 0x40 [x, y])) ∧
    (Waits (asks (request 1 0x3D [2, 0])) (request 1 0x3D [2, 0]) ∧ UnmatchedPolicy.ofCode 2 = some .all) ∧
    (Waits (asks (request 1 0x3D [3, 0])) (request 1 0x3D [3, 0]) ∧ 3 ≤ (3 : Byte).toNat) ∧
    (∀ w ∈ [(3 : Byte), 4, 63, 64], Waits (asks (request 1 0x10 [w])) (request 1 0x10 [w])) := by
  refine ⟨by decide, by decide, by decide, by decide, by decide⟩

/-- The last entry of the delivery table, valid, for lane 16 and consumer 7 alone. -/
def lastEntry : TableEntry :=
  { valid := true, laneMask := 0x10000, classMask := 0x10, kind := none, consumers := 0x80, urgent := true
    blocked := false }

/-- The part with that entry at index 63. -/
def tabled (d : Device) : Device := d.updDelivery fun u => { u with table := u.table.set 63 lastEntry }

/-- `TableWriteAndDelete`. -/
theorem witness_tableWrite :
    let w := request 1 0x39 (num 63 :: outTableEntry lastEntry)
    let x := request 1 0x3A [num 63]
    (Waits (asks w) w ∧ inTableEntry (outTableEntry lastEntry) = some lastEntry) ∧
    (Waits (asks x tabled) x ∧ (asks x tabled).dev.delivery.table[63].valid = true) ∧
    (Waits (asks x) x ∧ (asks x).dev.delivery.table[63].valid = false) := by decide

/-- `TableWalks`: the three requests; the step at index 63 of each walk, on an entry it names and on one it does not, and
the ends of the walks. -/
theorem witness_tableWalks :
    let search := request 1 0x3B [num 16, num Kind.supplyFault.cls.code, num Kind.supplyFault.code]
    let clearC := request 1 0x3C [0, num 7]
    let clearL := request 1 0x3C [1, num 16]
    let walks := fun (w : TableWalk) => on fun d => (tabled d).updDelivery fun u => { u with walk := some w }
    let ends := fun (w : TableWalk) => on fun d =>
      (d.updDelivery fun u => { u with walk := some w }).updTrunk fun k => { k with inProgress := some search }
    Waits (asks search) search ∧ Waits (asks clearC) clearC ∧ Waits (asks clearL) clearL ∧
    (∀ w ∈ [TableWalk.search 16 .supplyFault 63 none, .clearConsumer 7 63 0 0, .clearLane 16 63 0 0],
      (walks w).dev.inReset = false ∧ (walks w).dev.delivery.walk = some w) ∧
    (lastEntry.valid = true ∧ lastEntry.laneMask.getLsbD 16 = true ∧ lastEntry.classMask.getLsbD 4 = true ∧
      lastEntry.laneMask.getLsbD 15 = false ∧ lastEntry.consumers.getLsbD 7 = true ∧
      lastEntry.consumers.getLsbD 6 = false) ∧
    (∀ w ∈ [TableWalk.search 16 .supplyFault 64 none, .search 16 .supplyFault 64 (some 63), .clearConsumer 7 64 1 1,
        .clearLane 16 64 1 1],
      (ends w).dev.delivery.walk = some w ∧ (ends w).dev.trunk.inProgress = some search) := by decide

/-- `ConsumerFlushes`: the depth 4 and one below it, both states, the flush, and a stall timer that runs. -/
theorem witness_consumers :
    let a := request 1 0x3E [num 7, 4, 1]
    let b := request 1 0x3E [num 7, 3, 0]
    let f := request 1 0x3F [num 7]
    let s := on fun d => holds 16 7 (d.updConsumer 7 fun c => { c with state := .active, stallTimer := some 0 })
    Waits (asks a) a ∧ Waits (asks b) b ∧ Waits (asks f) f ∧
    (s.dev.inReset = false ∧ s.dev.delivery.consumers[7].stallTimer.isSome ∧ room s.dev deviceQueue 1) := by decide

/-- `KickRequest`: each of its branches, with 7 events queued. -/
theorem witness_kick :
    let r := request 1 0x48 [num 30]
    let at' := fun (f : Drawer → Drawer) (st : LaneState) (k : KeyLock) (g : Device → Device) =>
      asks r fun d => g (drawer 30 f (lane 15 st k (holds 15 7 d)))
    let win := fun d : Device => d.updLane 15 LaneRec.openWindow
    let branch := fun s : State =>
      let w := s.dev.drawers.drawers[30]
      let x := s.dev.lanes[15]
      if w.present = false ∨ w.settled = false then 1 else if w.kick ≠ .idle then 2 else if w.position = .opened then 3
      else if s.dev.drawers.inhibit then 4
      else if (x.state = .opened ∧ (x.keyLock = .supv ∨ x.keyLock = .mgr)) ∨ (x.state ≠ .opened ∧ x.keyLock = .mgr) then 5
      else if x.state = .opened ∧ x.keyLock = .reg ∧ x.windowOpen then 6 else 7
    let states := [asks r (holds 15 7), at' (fun w => { w with kick := .confirming }) .opened .reg id,
      at' (fun w => { w with position := .opened }) .opened .reg id,
      at' id .opened .mgr (fun d => d.updDrawers fun u => { u with inhibit := true }), at' id .opened .supv id,
      at' id .closed .mgr id, at' id .opened .reg win, at' id .closed .supv id]
    (∀ s ∈ states, Waits s r ∧ room s.dev 15 1) ∧ laneOf 30 = 15 ∧ states.map branch = [1, 2, 3, 4, 5, 5, 6, 7] := by
  decide

/-- `ClearCounter`: the request for an ABSENT drawer, and an opening and a closing. -/
theorem witness_clearCounter :
    let r := request 1 0x4C [num 31]
    let s := fun v : Position => on fun d => holds 15 6 (drawer 31 (fun w =>
      { w with stability := some 0, candidate := v, position := if v = .opened then .closed else .opened }) d)
    (Waits (asks r) r ∧ (asks r).dev.drawers.drawers[31].present = false) ∧
    (∀ v ∈ [Position.closed, .opened],
      (s v).dev.inReset = false ∧
      (s v).dev.drawers.drawers[31].stability.isSome ∧ (s v).dev.drawers.drawers[31].settled = true ∧
      (s v).dev.drawers.drawers[31].candidate ≠ (s v).dev.drawers.drawers[31].position ∧ room (s v).dev 15 2) := by decide

/-- The quiet part's supply is sound, whatever the lanes, queues and drawers' positions are made to be. -/
theorem quiet_supply (s : State)
    (h : s.dev.drawers.units = quiet.dev.drawers.units ∧ s.dev.drawers.supplyLimit = 2 ∧
      s.dev.drawers.pendingLimit = none ∧ s.dev.drawers.waitList = [] ∧
      ∀ n : Fin 32, s.dev.drawers.drawers[n].kick = .idle ∧ s.dev.drawers.drawers[n].unitHeld = none) :
    SupplySound s.dev := by
  obtain ⟨hu, hl, hp, hw, hd⟩ := h
  simp only [SupplySound, hu, hl, hp, hw, hd]
  refine ⟨by decide, nofun, fun i hi => absurd (by fin_cases i <;> rfl) hi, by decide, nofun, nofun,
    fun _ => by decide, List.nodup_nil, by decide⟩

/-- The quiet part with drawer 31 ENERGIZED by unit 0, drawer 30 WAITING, and queues with just the room needed. -/
def kicking (d : Device) : Device :=
  (holds 16 7 (holds 15 6 (drawer 30 (fun w => { w with kick := .waiting })
    (drawer 31 (fun w => { w with kick := .energized, unitHeld := some 0, kickTimer := some 60 }) d)))).updDrawers
      fun u => { u with waitList := [30], units := u.units.set 0 { state := .energizing, timer := some 60 } }

/-- `SetDrawerForms`: the DRAWER form that is refused, with each setting at and below its limit, and one that sets a
drawer ABSENT; the SUPPLY form applied, pending, and with a low line, a kick ENERGIZED
and one WAITING. -/
theorem witness_setDrawer :
    let r := fun (on : Byte) (pw ct ol : Byte) => request 1 0x4A [0, num 31, on, pw, ct, ol]
    let p := fun (k g on : Byte) => request 1 0x4A [1, k, g, on]
    let ajar := asks (r 0 9 4 1) (drawer 31 fun w => { w with position := .opened })
    let busy := asks (p 1 51 0) fun d => d.updDrawers fun u =>
      { u with units := u.units.set 1 { state := .recovering, timer := some 1 } }
    let low := asks (p 9 50 1) fun d => (kicking d).updDrawers fun u => { u with supplyHigh := false }
    (Waits ajar (r 0 9 4 1) ∧ ajar.dev.drawers.drawers[31].present = true ∧
      ajar.dev.drawers.drawers[31].position = .opened) ∧
    (Waits (asks (r 0 10 5 5) (drawer 31 id)) (r 0 10 5 5) ∧
      (asks (r 0 10 5 5) (drawer 31 id)).dev.drawers.drawers[31].kick = .idle) ∧
    (Waits (asks (r 1 10 5 0)) (r 1 10 5 0) ∧ (asks (r 1 10 5 0)).dev.drawers.drawers[31].present = false) ∧
    (Waits (asks (p 8 0 1)) (p 8 0 1) ∧ (asks (p 8 0 1)).dev.drawers.supplyHigh = true) ∧
    (Waits busy (p 1 51 0) ∧ ¬ (busy.dev.drawers.supplyLimit ≤ 1) ∧
      busy.dev.drawers.units[(1 : Fin 8)].state ≠ .available) ∧
    (Waits low (p 9 50 1) ∧ low.dev.drawers.supplyHigh = false ∧ SupplySound low.dev ∧
      low.dev.drawers.drawers[31].kick = .energized ∧ low.dev.drawers.drawers[30].kick = .waiting ∧
      room low.dev 15 2 ∧ room low.dev deviceQueue 1) := by
  refine ⟨by decide, by decide, by decide, by decide, by decide, by decide, by decide,
    ⟨by decide, nofun, by decide, by decide, by decide, by decide, nofun, by decide, by decide⟩, by decide⟩

/-- `SenseFilter`: a change on a PRESENT and on an ABSENT drawer; each candidate at the first expiry; no change. -/
theorem witness_sense :
    let s := fun (v : Position) (set : Bool) => on (drawer 30 fun w => { w with stability := some 0, candidate := v })
      |> fun t => { t with dev := t.dev.updDrawer 30 fun w => { w with settled := set } }
    ((s .closed true).dev.inReset = false ∧ (s .closed true).dev.drawers.drawers[30].senseInput ≠ .opened ∧
      (s .closed true).dev.drawers.drawers[30].present = true) ∧
    (quiet.dev.drawers.drawers[31].senseInput ≠ .opened ∧ quiet.dev.drawers.drawers[31].present = false) ∧
    (∀ v ∈ [Position.closed, .opened], (s v false).dev.drawers.drawers[30].stability.isSome ∧
      (s v false).dev.drawers.drawers[30].settled = false) ∧
    ((s .closed true).dev.drawers.drawers[30].settled = true ∧
      (s .closed true).dev.drawers.drawers[30].candidate = (s .closed true).dev.drawers.drawers[30].position) := by
  decide

/-- `OpeningAndClosing`: an opening in each kick state, with the open counter at its top, and a closing. -/
theorem witness_opening :
    let s := fun (k : KickState) (v p : Position) => on fun d => holds 15 6 (drawer 30 (fun w =>
      { w with stability := some 0, candidate := v, position := p, kick := k, openCount := 65535 }) d)
    (∀ k ∈ [KickState.idle, .waiting, .energized, .confirming],
      let t := s k .opened .closed
      t.dev.inReset = false ∧ t.dev.drawers.drawers[30].stability.isSome ∧ t.dev.drawers.drawers[30].settled = true ∧
      room t.dev 15 2 ∧ t.dev.drawers.drawers[30].candidate = .opened ∧
      t.dev.drawers.drawers[30].position = .closed ∧ t.dev.drawers.drawers[30].kick = k) ∧
    (let t := s .idle .closed .opened
     t.dev.drawers.drawers[30].stability.isSome ∧ t.dev.drawers.drawers[30].settled = true ∧ room t.dev 15 2 ∧
     t.dev.drawers.drawers[30].candidate = .closed ∧ t.dev.drawers.drawers[30].position = .opened) := by decide

/-- `KickGrant`: a kick waits and the second of two units is free; each condition that stops a grant. -/
theorem witness_grant :
    let s := fun f : DrawerUnit → DrawerUnit => on fun d => (drawer 31 (fun w => { w with kick := .waiting }) d).updDrawers
      fun u => f { u with waitList := [31], units := u.units.set 0 { state := .energizing, timer := some 1 } }
    let full := s fun u => { u with units := u.units.set 1 { state := .recovering, timer := some 1 } }
    ((s id).dev.inReset = false ∧ (s id).dev.drawers.inhibit = false ∧ (s id).dev.drawers.pendingLimit = none ∧
      (s id).dev.drawers.waitList = [31] ∧ (1 : Fin 8).val < (s id).dev.drawers.supplyLimit ∧
      (s id).dev.drawers.units[1].state = .available ∧
      ∀ j : Fin 8, j < 1 → (s id).dev.drawers.units[j].state ≠ .available) ∧
    (s fun u => { u with inhibit := true }).dev.drawers.inhibit = true ∧
    (s fun u => { u with pendingLimit := some 1 }).dev.drawers.pendingLimit.isSome ∧ quiet.dev.drawers.waitList = [] ∧
    (∀ i : Fin 8, i.val < full.dev.drawers.supplyLimit → full.dev.drawers.units[i].state ≠ .available) := by decide

/-- `PulseAndRecovery`: a pulse that ends, opened and not, with a gap and with none; a timeout; a recovered unit. -/
theorem witness_pulse :
    let s := fun (k : KickState) (o : Bool) (g : Nat) => on fun d => holds 15 7 ((drawer 31 (fun w =>
      { w with kick := k, unitHeld := if k = .energized then some 7 else none, openedInPulse := o }) d).updDrawers
        fun u => { u with supplyGap := g })
    let rec' := on fun d => d.updDrawers fun u => { u with units := u.units.set 7 { state := .recovering, timer := some 0 } }
    (∀ o ∈ [false, true], ∀ g ∈ [0, 50],
      let t := s .energized o g
      t.dev.inReset = false ∧ t.dev.drawers.drawers[31].kick = .energized ∧
      t.dev.drawers.drawers[31].unitHeld = some 7 ∧ t.dev.drawers.drawers[31].openedInPulse = o ∧ room t.dev 15 1 ∧
      t.dev.drawers.supplyGap = g) ∧
    ((s .confirming false 10).dev.drawers.drawers[31].kick = .confirming ∧ room (s .confirming false 10).dev 15 1) ∧
    rec'.dev.drawers.units[7].state = .recovering := by decide

/-- `OpenTooLong`: with an idle generator, and with one that plays entry 0 at level 0 against a level of entry 7 that is
granted; a level above the highest of entry 7 is not. -/
theorem witness_openTooLong :
    let s := on fun d => holds 15 7 (drawer 31 (fun w => { w with limitTimer := some 0, limitsPassed := 65535 }) d)
    let above := fun d : Device => (d.updTlu fun u => { u with tones := u.tones.set 7 { u.tones[0] with level := 0 } })
      |>.requestTone 15 0
    s.dev.inReset = false ∧ s.dev.drawers.drawers[31].limitTimer.isSome ∧ room s.dev 15 1 ∧
    levelGrants s.dev.tlu (laneOf 31) 7 ∧ ¬ levelGrants (above s.dev).tlu (laneOf 31) 7 := by
  refine ⟨by decide, by decide, by decide, nofun, fun h => absurd (h _ rfl) (by decide)⟩

/-- `SupplyFaultAndInhibit`: the monitor DISABLED, and ENABLED with a kick ENERGIZED and one WAITING; a low line; and
CLEAR-INHIBIT refused and not. -/
theorem witness_supply :
    let r := request 1 0x49 []
    let low := asks r fun d => d.updDrawers fun u => { u with supplyHigh := false, inhibit := true }
    let off := on fun d => d.updDrawers fun u => { u with monitor := false }
    let s := on kicking
    (off.dev.drawers.supplyHigh = true ∧ off.dev.drawers.monitor = false) ∧
    (s.dev.inReset = false ∧ s.dev.drawers.supplyHigh = true ∧ s.dev.drawers.monitor = true ∧ SupplySound s.dev ∧
      s.dev.drawers.drawers[31].kick = .energized ∧ s.dev.drawers.drawers[30].kick = .waiting ∧
      room s.dev 15 2 ∧ room s.dev deviceQueue 1) ∧
    (Waits low r ∧ low.dev.drawers.monitor = true ∧ low.dev.drawers.supplyHigh = false) ∧
    (Waits (asks r) r ∧ (asks r).dev.drawers.supplyHigh = true) := by
  refine ⟨by decide, ⟨by decide, by decide, by decide, ?_, by decide⟩, by decide, by decide⟩
  exact ⟨by decide, nofun, by decide, by decide, by decide, by decide, nofun, by decide, by decide⟩

/-- `Tones`: the last entry with fields at and beyond their limits, PLAY-TONE granted and ignored, STOP-TONE, and each
phase end. -/
theorem witness_tones :
    let w := request 1 0x50 [num 7, 0x88, 0x13, 0, 0, 16, 4]
    let p := request 1 0x51 [num 15, num 0]
    let z := request 1 0x52 [num 15]
    let plays := asks p fun d => d.requestTone 15 7
    let s := fun (ph : TonePhase) (cyc rep off : Nat) => on fun d => d.updGen 15 fun g =>
      { g with playing := some { entry := 7, tone := { divider := 125, onTime := 1, offTime := off, repeats := rep, level := 3 } }
               phase := ph, phaseTimer := some 0, cycles := cyc }
    (Waits (asks w) w ∧ 0x88 + 256 * 0x13 = 5000) ∧ (Waits (asks p) p ∧ (asks p).dev.tlu.generators[15].playing = none) ∧
    (Waits plays p ∧ (plays.dev.tlu.generators[15].playing.map fun c => decide
      (plays.dev.tlu.tones[(0 : Fin 8)].level < c.tone.level)) = some true) ∧ Waits (asks z) z ∧
    (∀ g ∈ [(s .silent 0 1 1, TonePhase.silent), (s .sounding 14 15 1, .sounding), (s .sounding 15 0 1, .sounding),
        (s .sounding 13 15 0, .sounding)],
      g.1.dev.inReset = false ∧ g.1.dev.tlu.generators[15].playing.isSome ∧ g.1.dev.tlu.generators[15].phase = g.2) := by
  decide

/-- `Lamps`: sync OFF, sync ON with a steady and with a flashing lamp; a boundary with a staged request and without. -/
theorem witness_lamps :
    let r := fun y : Byte => request 1 0x53 [num 15, 4, y]
    let fl := fun y : Byte => asks (r y) (lane 15 .suspended .reg)
    let st := on fun d => (lane 15 .faulted .reg d).updLamp 15 fun p => { p with staged := some none }
    (Waits (fl 0) (r 0) ∧ lampOfCode (4 : Byte).toNat = some none) ∧
    (Waits (asks (r 1)) (r 1) ∧ ¬ flashes (modeInEffect (asks (r 1)).dev 15)) ∧
    (Waits (fl 1) (r 1) ∧ flashes (modeInEffect (fl 1).dev 15)) ∧
    (st.dev.inReset = false ∧ flashes (modeInEffect st.dev 15) ∧ st.dev.tlu.lamps[15].staged = some none) ∧
    ((fl 1).dev.inReset = false ∧ (fl 1).dev.tlu.lamps[15].staged = none) := by decide

/-- `TrunkRequests`: the three requests, the lowest and highest unknown code, and a payload of length 0. -/
theorem witness_trunkRequests :
    let z : Request := { tag := 1, payload := [] }
    (∀ b ∈ [(0 : Byte), 1], Waits (asks (request 1 0x60 [b])) (request 1 0x60 [b])) ∧
    Waits (asks (request 1 0x61 [0xFF, 0xFF, 0xFF, 0xFF])) (request 1 0x61 [0xFF, 0xFF, 0xFF, 0xFF]) ∧
    Waits (asks (request 1 0x62 [])) (request 1 0x62 []) ∧
    (∀ n ∈ [0, 255], n < 256 ∧ n ∉ fixedLength.map Prod.fst ∧ n ≠ 0x18 ∧ n ≠ 0x4A ∧
      Waits (asks (request 1 n [])) (request 1 n [])) ∧
    Waits (asks z) z := by
  refine ⟨by decide, by decide, by decide, by decide, by decide⟩

/-- The receiver within a frame, all but the last byte of which has come. -/
def receiving (bytes : List Byte) (f : Trunk → Trunk := id) : State :=
  on fun d => d.updTrunk fun k => f { k with receiver := .receiving, frame := bytes }

set_option maxRecDepth 40000 in
/-- `RequestFrame`: a frame of a payload of length 64 into a FIFO of 3, one that is refused, and one that is dropped. -/
theorem witness_requestFrame :
    let body : List Byte := [0xA1, 1, 64] ++ List.replicate 64 0
    let s := fun (n m : Nat) => receiving (body ++ (checkBytes body).take 1) fun k =>
      { k with requests := List.replicate n (request 1 0x62 [])
               replies := List.replicate m { tag := 0, request := 0, code := .done, fields := [] } }
    (checkBytes body).length = 2 ∧
    ∀ x ∈ [(3, 4), (4, 3), (4, 4)], (s x.1 x.2).dev.inReset = false ∧ (s x.1 x.2).dev.trunk.receiver = .receiving ∧
      (s x.1 x.2).dev.trunk.frame = body ++ (checkBytes body).take 1 ∧ (s x.1 x.2).dev.trunk.requests.length = x.1 ∧
      (s x.1 x.2).dev.trunk.replies.length = x.2 := by
  intro body s
  refine ⟨by decide, by decide⟩

/-- The quiet part's consumers are sound, and stay so when one of them that holds nothing takes another state. -/
theorem quiet_consumers (st : ConsumerState) (credit : Nat) (h : credit ≤ 255) (s : State)
    (hs : s.dev.delivery.consumers = (quiet.dev.updConsumer 7 fun c =>
      { c with state := st, credit := credit }).delivery.consumers) : ConsumersSound s.dev := by
  intro c
  rw [hs]
  fin_cases c <;> simp [Device.updConsumer, Device.updDelivery, upd, quiet, Device.blank, resetDelivery,
    resetConsumer, Consumer.queued, h]

/-- `CreditFrame`: an address above 7, and a consumer in each state, at credit 254. -/
theorem witness_creditFrame :
    let body := fun a : Byte => [(0xC1 : Byte), a, 1, 2]
    let s := fun (a : Byte) (st : ConsumerState) (cr : Nat) =>
      let t := receiving (body a ++ (checkBytes (body a)).take 1)
      { t with dev := t.dev.updConsumer 7 fun c => { c with state := st, credit := cr } }
    (∀ a ∈ [(8 : Byte), num 7], (checkBytes (body a)).length = 2) ∧ 7 < (8 : Byte).toNat ∧
    (∀ st ∈ [ConsumerState.inactive, .active, .stalled],
      (s (num 7) st 254).dev.inReset = false ∧ (s (num 7) st 254).dev.trunk.receiver = .receiving ∧
      (s (num 7) st 254).dev.delivery.consumers[7].state = st) ∧
    ConsumersSound (s (num 7) .active 254).dev ∧ ConsumersSound (s (num 7) .stalled 0).dev ∧
    room (s (num 7) .stalled 0).dev deviceQueue 1 := by
  refine ⟨by decide, by decide, by decide, quiet_consumers .active 254 (by decide) _ rfl,
    quiet_consumers .stalled 0 (by decide) _ rfl, by decide⟩

set_option maxRecDepth 40000 in
/-- `ReceiverAndRejects`: each receiver state, a length byte of 64 and of 65, and a frame for each test that it fails. -/
theorem witness_receiver :
    let frames : List (List Byte) := [[0xA1, 1, 0], [0x00, 1, 0], [0xA2, 1, 0], [0xE1, 7, 0], [0xC1, 7, 0]]
    let s := fun f : List Byte => receiving (f ++ (checkBytes f).take 1)
    (quiet.dev.trunk.receiver = .waitIdle ∧ quiet.dev.trunk.waitFresh = true) ∧
    (let i := on fun d => d.updTrunk fun k => { k with receiver := .idle }
     i.dev.trunk.receiver = .idle ∧ i.dev.trunk.frame = []) ∧
    ((receiving [0xA1, 1]).dev.trunk.receiver = .receiving ∧ (receiving [0xA1, 1]).dev.trunk.frame.length = 2 ∧
      (64 : Byte).toNat ≤ 64 ∧ 64 < (65 : Byte).toNat) ∧
    (∀ f ∈ frames, (s f).dev.inReset = false ∧ (s f).dev.trunk.receiver = .receiving ∧
      (s f).dev.trunk.frame = f ++ (checkBytes f).take 1) ∧
    [(checkBytes [0xA1, 1, 0])[0]!, 0] ≠ checkBytes [0xA1, 1, 0] := by
  refine ⟨by decide, by decide, by decide, by decide, by decide⟩

set_option maxRecDepth 40000 in
/-- `Transmitter`: a reply to send, an event to send for its last and for another reference, nothing to send; a frame that
ends, the last of DEVICE-RESET, and a gap. -/
theorem witness_transmitter :
    let a : Reply := { tag := 1, request := 0x62, code := .done, fields := [] }
    let slot := fun n : Nat => Slot.mk (anEntry 15).ev [] n
    let event := fun n : Nat => on fun d => (d.updConsumer 7 fun c => { c with credit := 1, urgentQ := [511] }).updPool
      fun p => { p with slots := p.slots.set 511 (some (slot n)) }
    let s := fun t : Transmitter => on fun d => d.updTrunk fun k => { k with transmitter := t }
    let r := on fun d => d.updTrunk fun k => { k with replies := [a] }
    (r.dev.inReset = false ∧ r.dev.trunk.transmitter = .free ∧ r.dev.trunk.replies = [a]) ∧
    (quiet.dev.trunk.replies = [] ∧ quiet.dev.delivery.chooseFrame = none) ∧
    (∀ n ∈ [1, 2], (event n).dev.trunk.transmitter = .free ∧ (event n).dev.trunk.replies = [] ∧
      (event n).dev.delivery.chooseFrame = some (7, 511, true) ∧
      (event n).dev.pool.slots[(511 : Fin 512)] = some (slot n)) ∧
    ((s (.sending (.reply { a with code := .refusedMalformed }))).dev.trunk.transmitter =
      .sending (.reply { a with code := .refusedMalformed }) ∧
      (s (.sending (.reply a))).dev.trunk.transmitter = .sending (.reply a) ∧
      Config.inputsAtReset.supplyHigh = true ∧ (s .gap).dev.trunk.transmitter = .gap) := by
  refine ⟨by decide, by decide, by decide, by decide⟩

/-- `ReportContents`: each request, with both flags; a range of entries that ends with the image; an entry that is
valid and one that is not. -/
theorem witness_reports :
    (∀ f ∈ [(0 : Byte), 1], ∀ r ∈ [request 1 0x07 [num 15, f], request 1 0x11 [num 15, num 7, f],
        request 1 0x21 [num 31, f], request 1 0x29 [1, num 31, f], request 1 0x31 [f], request 1 0x41 [num 7, f]],
      Waits (asks r) r) ∧
    (Waits (asks (request 1 0x19 [num 7, 0xF0, 1, 16])) (request 1 0x19 [num 7, 0xF0, 1, 16]) ∧
      0xF0 + 256 * 1 + 16 = 512) ∧
    (Waits (asks (request 1 0x38 [num 63]) tabled) (request 1 0x38 [num 63]) ∧
      (asks (request 1 0x38 [num 63]) tabled).dev.delivery.table[63].valid = true) ∧
    (Waits (asks (request 1 0x38 [num 63])) (request 1 0x38 [num 63]) ∧
      (asks (request 1 0x38 [num 63])).dev.delivery.table[63].valid = false) ∧
    Waits (asks (request 1 0x4B [num 31])) (request 1 0x4B [num 31]) := by
  refine ⟨by decide, by decide, by decide, by decide, by decide⟩

/-- `RefusalsChangeNothing`: OPEN-LANE of a lane without an image is refused; a payload a byte too long, one of KICK; a
field one beyond its bound in every request that has one, its other fields 0; each other field that is not admitted;
WRITE-KEYMAP past index 511 and with a reserved flag; SET-DRAWER without a scope, with scope 2, and each form with a flag
of 2. -/
theorem witness_refusals :
    let r := request 1 0x01 [num 15]
    let meets := fun (q : Request) => Waits (asks q) q
    let long := [(request 1 0x01 [num 15, 0], Instr.openLane, 2), (request 1 0x48 [num 31, 0], .kick, 2)]
    let sets := fun a g b : Byte => [0, 8, 8, 16, 3, 4, 1, 0, 50, 10, 5, 15, a, g, b, 0, 1]
    let bad : List (Nat × List Byte) := [(0x06, sets 2 0 0), (0x06, sets 0 8 0), (0x06, sets 0 0 8),
      (0x19, [num 7, 0xFF, 1, 2]), (0x19, [num 7, 0, 0, 0]), (0x19, [num 7, 0, 0, 17]), (0x28, [0, 6]), (0x28, [0, 16]),
      (0x39, [0, 0, 0, 0, 0, 1]), (0x3B, [0, 0, 1]), (0x3C, [0, 8]), (0x3C, [1, 17])]
    (isRequestRow .openLane = true ∧ (asks r).dev.trunk.inProgress = none ∧
      reply (exec .openLane (asks r)) = some (.refusedNoKeymap, []) ∧ 0x80 ≤ ReplyCode.refusedNoKeymap.code) ∧
    (∀ x ∈ long, (x.1.code?, x.2.1, x.2.2) ∈ fixedLength.map (fun y => (some y.1, y.2.1, y.2.2)) ∧ meets x.1 ∧
      x.1.payload.length ≠ x.2.2) ∧
    (∀ x ∈ fieldBounds, badFields x.1 (List.replicate x.2.1 0 ++ [num x.2.2])) ∧
    (∀ x ∈ bad, badFields x.1 x.2) ∧
    (∀ fs ∈ [[num 7, 0xFF, 1, 2, 0, 0, 0, 0, 0, 0], [num 7, 0, 0, 1, 0, 0, 0x20]],
      meets (request 1 0x18 fs) ∧ ¬ keymapFields fs) ∧
    meets (request 1 0x4A []) ∧ meets (request 1 0x4A [2]) ∧
    (meets (request 1 0x4A [0, num 31, 2, 60, 50, 60]) ∧ ¬ drawerFields [num 31, 2, 60, 50, 60]) ∧
    (meets (request 1 0x4A [1, 2, 10, 2]) ∧ ¬ supplyFields [2, 10, 2]) := by
  refine ⟨by decide, by decide, fun x h => .inl ⟨x, h, rfl, ?_⟩, ?_, ?_, by decide, by decide, ⟨by decide, ?_⟩,
    ⟨by decide, ?_⟩⟩
  · revert x; decide
  · intro x h
    fin_cases h <;> unfold badFields <;> decide
  · intro fs h
    fin_cases h <;> refine ⟨by decide, ?_⟩ <;> rintro ⟨i, lo, hi, n, rest, he, h⟩ <;> cases he
    · revert h; decide
    · exact absurd (h.2.2.2.2.2 0 (by decide)) (by decide)
  · rintro ⟨n, on, pw, ct, ol, he, h⟩; cases he; revert h; decide
  · rintro ⟨k, g, on, he, h⟩; cases he; revert h; decide

/-- `LaneStateChangers`: KICK completes and is no row that may change a lane's state. -/
theorem witness_laneState :
    mayChangeLaneState .kick = false ∧ (after (exec .kick (asks (request 1 0x48 [0]))) fun _ => ()).isSome = true := by
  decide

/-- `EncodingsRoundTrip`: a valid entry, a clamped rule, the default settings, payloads of length 0 and 64. -/
theorem witness_encodings :
    lastEntry.valid = true ∧ (aRule .accept .mod10).clamped = aRule .accept .mod10 ∧
    defaultSettings.clamped = defaultSettings ∧ ([] : List Byte).length ≤ 64 ∧
    (List.replicate 64 (0 : Byte)).length ≤ 64 ∧
    (OutFrame.reply { tag := 1, request := 0x62, code := .done, fields := [] }).payload.length ≤ 64 := by decide

/-- `StepKeepsQueueBounds` … `StepKeepsCounts`: the quiet part meets each of the invariants, and a step with a command
queued answers a next state. -/
theorem witness_step : (after (step { quiet with pending := [.kick] }) fun _ => ()).isSome = true := by decide

theorem witness_queueBounds : QueuesBounded quiet.dev := by unfold QueuesBounded; decide

theorem witness_supplySound : SupplySound quiet.dev := quiet_supply _ (by decide)

theorem witness_consumersSound : ConsumersSound quiet.dev :=
  quiet_consumers .inactive 0 (by decide) _ (by decide)

theorem witness_slotsSound : SlotsSound quiet.dev := by
  have h : ∀ r, allRefsTo quiet.dev r = 0 := by
    intro r
    simp [allRefsTo, refsTo, quiet, Device.blank, resetDelivery, resetConsumer]
  refine ⟨?_, ?_, ?_, ?_, ?_, ?_⟩ <;> intros <;>
    simp_all [quiet, Device.blank, resetPool, refsTo, resetDelivery, resetConsumer, Pool.freeCount,
      List.nodup_finRange]

theorem witness_lanesSound : KeyboardSound quiet.dev ∧ LaneSound quiet.dev := by
  refine ⟨fun l => ?_, fun l => ?_⟩ <;>
    simp [quiet, Device.blank, resetScanner, resetLaneScan, resetLaneRec, resetKeyTrans, LaneState.scanning,
      defaultSettings, LaneScan.countKeys, LaneScan.positions]
  rw [List.filter_eq_nil_iff.mpr (by simp)]
  exact Nat.zero_le 4

theorem witness_buffersSound : PortsSound quiet.dev ∧ HeldBuffersSound quiet.dev := by
  refine ⟨fun n => ⟨?_, ?_, fun b => ?_⟩, fun n b q => ?_⟩ <;> (try cases b) <;>
    simp [quiet, Device.blank, resetPort, resetPool, emptyPendLane, freeBuffer, Port.buf, resetLaneRec,
      BufferId.other]

theorem witness_assignmentsSound : SettingsInRange quiet.dev ∧ KeymapsSound quiet.dev := by
  refine ⟨fun l => ?_, fun l => ?_⟩ <;>
    simp [quiet, Device.blank, resetKeymaps, resetLaneRec, LaneState.scanning, defaultSettings, Settings.clamped,
      clampTo]

theorem witness_countsSound : ReceiverSound quiet.dev ∧ TonesSound quiet.dev ∧ CountersBounded quiet.dev := by
  refine ⟨⟨fun _ => rfl, nofun⟩, ⟨by decide, fun l => ?_⟩, ?_⟩
  · simp [quiet, Device.blank, resetToneUnit, idleGenerator]
  · unfold CountersBounded; decide

end Sys2Proof.Tests
end

/-! ## The modulo-10 check (R95): the walk from the right against the sum by places, and the tests in their order -/

namespace Sys2Proof.ScanCheck

open Sys2Proof.Machine Sys2Proof.Claims

/-- The weight of the data digit `i` places left of the one just left of the check digit. -/
def weightOf (i : Nat) : Nat := if i % 2 = 0 then 3 else 1

theorem weightOf_succ (i : Nat) : weightOf (i + 1) = 4 - weightOf i := by
  unfold weightOf
  split <;> split <;> omega

/-- The classifier alternates its weight as it walks; the book gives each place its weight. Generalised over the place
`i` where the walk starts, so that the tail's walk starts one place on. -/
theorem weightedSum_weightOf (cs : List Byte) (i : Nat) :
    weightedSum (weightOf i) cs = ((cs.zipIdx i).map fun x => (x.1.toNat - 48) * weightOf x.2).sum := by
  induction cs generalizing i with
  | nil => rfl
  | cons c cs ih =>
    rw [weightedSum, ← weightOf_succ, ih, List.zipIdx_cons, List.map_cons, List.sum_cons, Nat.mul_comm]

theorem weightedSum_reverse (digits : List Byte) : weightedSum 3 digits.reverse = weighted digits :=
  weightedSum_weightOf digits.reverse 0

theorem all_isDigit_iff (data : List Byte) :
    data.all isDigit = true ↔ ∀ c ∈ data, 48 ≤ c.toNat ∧ c.toNat ≤ 57 := by
  simp [isDigit]

/-- The length test of R95. -/
def LengthAllowed (data : List Byte) : Prop :=
  data.length = 8 ∨ data.length = 12 ∨ data.length = 13 ∨ data.length = 14

theorem mod10_of_not_digits {data : List Byte} (hd : ¬ ∀ c ∈ data, 48 ≤ c.toNat ∧ c.toNat ≤ 57) :
    mod10 data = .notNumeric := by
  rw [← all_isDigit_iff] at hd
  exact if_pos hd

theorem mod10_nil : mod10 [] = .badLength := rfl

/-- The check on data digits with their check digit behind them, all of them digits. -/
theorem mod10_concat {digits : List Byte} {check : Byte}
    (hd : ∀ c ∈ digits ++ [check], 48 ≤ c.toNat ∧ c.toNat ≤ 57) :
    (¬ LengthAllowed (digits ++ [check]) → mod10 (digits ++ [check]) = .badLength) ∧
    (LengthAllowed (digits ++ [check]) → mod10 (digits ++ [check]) =
      if check.toNat - 48 = (10 - weighted digits % 10) % 10 then .passed else .mismatch) := by
  have hall := (all_isDigit_iff _).mpr hd
  have hrev : (digits ++ [check]).reverse = check :: digits.reverse := List.reverse_concat
  unfold mod10
  rw [if_neg (not_not_intro hall), hrev]
  dsimp only
  rw [weightedSum_reverse]
  exact ⟨fun hl => if_neg hl, fun hl => (if_pos hl).trans (by simp only [eq_comm])⟩

/-- Settles O23: at each of the three tests in turn, the data fails it and has its reason, or goes on to the next. -/
theorem modulo10 : Obligations.Modulo10 := by
  intro data digits lengthOk expected
  by_cases hd : digits
  · rcases List.eq_nil_or_concat' data with rfl | ⟨ds, check, rfl⟩
    · simp [digits, lengthOk, mod10_nil]
    · obtain ⟨hbad, hsum⟩ := mod10_concat hd
      by_cases hl : lengthOk
      · by_cases hc : check.toNat - 48 = (10 - weighted ds % 10) % 10
        · simp [hsum hl, hd, hl, hc, expected]
        · simp [hsum hl, hd, hl, hc, expected]
      · simp [hbad hl, hd, hl]
  · simp [mod10_of_not_digits hd, hd]

end Sys2Proof.ScanCheck

/-! ## CLEAR-COUNTER (R168): the answer and the clear, and the counter that the next events carry -/

namespace Sys2Proof.OpenCounter

open Sys2Proof.Machine Sys2Proof.Claims

/-! ### The two commands, and the rows that stand for one request code -/

theorem exec_clearCounter (s : State) : exec .clearCounter s = s.takeCode rcClearCounter (onDrawer clearCounter) := by
  rfl

theorem exec_stabilityTimerExpiry (s : State) (n : Fin 32) :
    exec (.stabilityTimerExpiry n) s = s.run (stabilityExpiry n) :=
  s.runAt_of_lt .noSuchDrawer stabilityExpiry n.isLt

theorem takeable_of_waits {s : State} {r : Request} (h : Waits s r) : s.dev.trunk.takeable = some r :=
  (s.dev.trunk.takeable_eq_some r).mpr h.2

/-- A waiting request that its block answers at once, the block leaving the trunk port as it is while the request is
in progress. -/
theorem takeCode_of_answer {s : State} {r : Request} {code : Nat} {carry : List Byte → Device → Carried} {d : Device}
    {c : ReplyCode} {fs : List Byte} (hw : Waits s r) (hr : r.is code = true)
    (hcarry : carry r.fields (s.dev.begin r) = answer d c fs) (htrunk : d.trunk = started s.dev.trunk r) :
    s.takeCode code carry = .next { s with dev := { d with trunk := answered s.dev.trunk r c fs } } := by
  have hin : d.trunk.inProgress = some r := by rw [htrunk]; rfl
  rw [State.takeCode, s.run_of_running _ hw.1, Device.take_of_takeable _ _ _ r (takeable_of_waits hw) hr, hcarry,
    Carried.finish_answer, Device.reply_of_inProgress _ _ r hin, htrunk]
  rfl

theorem onDrawer_num (carry : Fin 32 → Device → Carried) (n : Fin 32) (d : Device) :
    onDrawer carry [num n] d = carry n d := by
  have hn : (num n).toNat = n.val := by
    rw [num, BitVec.toNat_ofNat]
    omega
  simp [onDrawer, inIndex, hn]

theorem clearCounter_answers {s : State} {tag : Byte} {n : Fin 32}
    (hw : Waits s (request tag rcClearCounter [num n])) :
    let w := s.dev.drawers.drawers[n]
    exec .clearCounter s = .next { s with dev := { s.dev with
      drawers := { s.dev.drawers with drawers := s.dev.drawers.drawers.set n { w with openCount := 0 } }
      trunk := answered s.dev.trunk (request tag rcClearCounter [num n]) .done (two w.openCount) } } := by
  rw [exec_clearCounter]
  exact takeCode_of_answer hw rfl (onDrawer_num clearCounter n _) rfl

/-! ### What is queued behind the entries a queue held -/

/-- From the pool `p` to the part `t`, drawer `n`'s queue has kept its entries, and the first entry behind them carries
`count`. -/
def Reported (p : Pool) (t : Device) (n : Fin 32) (count : Nat) : Prop :=
  ∃ e : Entry, (e.ev.detail1, e.ev.detail2) = (num count, num (count / 256)) ∧
    p.lanes[laneQueue (laneOf n)].queue ++ [e] <+: t.pool.lanes[laneQueue (laneOf n)].queue

theorem Reported.head_drop {p : Pool} {t : Device} {n : Fin 32} {count : Nat} (h : Reported p t n count) :
    ((t.pool.lanes[laneQueue (laneOf n)].queue.drop p.lanes[laneQueue (laneOf n)].queue.length).head?.map
      fun e => (e.ev.detail1, e.ev.detail2)) = some (num count, num (count / 256)) := by
  obtain ⟨e, he, rest, hq⟩ := h
  rw [← hq, List.append_assoc, List.drop_left, ← he]
  rfl

theorem offer_queue_of_room (d : Device) (q : Fin 17) (v : Notice) (h : d.pool.lanes[q].queue.length < 8) :
    (d.offer q v).pool.lanes[q].queue = d.pool.lanes[q].queue ++ [{ ev := d.eventOf q v, body := v.body }] := by
  simp [d.offer_of_room q v h]

theorem offer_queue_of_full (d : Device) (q : Fin 17) (v : Notice) (h : 8 ≤ d.pool.lanes[q].queue.length) :
    (d.offer q v).pool.lanes[q].queue = d.pool.lanes[q].queue := by
  simp [d.offer_of_full q v h, Device.loseEntry]

/-- An offer takes no entry from its queue. -/
theorem offer_keeps_queue (d : Device) (q : Fin 17) (v : Notice) :
    d.pool.lanes[q].queue <+: (d.offer q v).pool.lanes[q].queue := by
  rcases Nat.lt_or_ge d.pool.lanes[q].queue.length 8 with h | h
  · exact ⟨_, (offer_queue_of_room d q v h).symm⟩
  · rw [offer_queue_of_full d q v h]

theorem detailLow_eq_num (count : Nat) : detailLow count = num count :=
  BitVec.eq_of_toNat_eq (by simp [detailLow, byteOf, num])

theorem reported_offerDrawer {p : Pool} {d : Device} {n : Fin 32} (k : Kind) (count : Nat) (body : BodyRef)
    (h : p.lanes[laneQueue (laneOf n)].queue.length < 8) (hp : d.pool = p := by simp) :
    Reported p (d.offerDrawer n (countNotice k n count body)) n count := by
  subst hp
  exact ⟨_, Prod.ext (detailLow_eq_num count) rfl, by rw [Device.offerDrawer, offer_queue_of_room d _ _ h]⟩

/-- A further event of the drawer stands behind the one that carries the count. -/
theorem Reported.offerDrawer {p : Pool} {d : Device} {n : Fin 32} {count : Nat} (h : Reported p d n count)
    (v : Notice) : Reported p (d.offerDrawer n v) n count := by
  obtain ⟨e, he, hq⟩ := h
  exact ⟨e, he, hq.trans (offer_keeps_queue d _ v)⟩

theorem Reported.abortWaiting {p : Pool} {d : Device} {n : Fin 32} {count : Nat} (h : Reported p d n count)
    (cause : Nat) : Reported p (d.abortWaiting n cause) n count :=
  Reported.offerDrawer (d := d.updDrawers _) h _

/-! ### An accepted opening and an accepted closing (R159, R160) -/

@[simp] theorem becomeOpen_openCount (w : Drawer) : w.becomeOpen.openCount = sat16 w.openCount 1 := rfl

theorem updDrawer_becomeOpen_openCount (d : Device) (n : Fin 32) :
    (d.updDrawer n Drawer.becomeOpen).drawers.drawers[n].openCount = sat16 d.drawers.drawers[n].openCount 1 := by
  simp

theorem opening_openCount (d : Device) (n : Fin 32) :
    (d.opening n).drawers.drawers[n].openCount = sat16 d.drawers.drawers[n].openCount 1 := by
  unfold Device.opening
  cases d.drawers.drawers[n].kick with
  | idle | energized | confirming => simp
  | waiting => simp [Device.abortWaiting]

theorem opening_reported (d : Device) {n : Fin 32} (h : d.pool.lanes[laneQueue (laneOf n)].queue.length < 8) :
    Reported d.pool (d.opening n) n (sat16 d.drawers.drawers[n].openCount 1) := by
  unfold Device.opening
  dsimp only
  rw [updDrawer_becomeOpen_openCount]
  cases d.drawers.drawers[n].kick with
  | idle | energized => exact reported_offerDrawer _ _ _ h
  | confirming => exact Reported.offerDrawer (reported_offerDrawer _ _ _ h) _
  | waiting => exact Reported.abortWaiting (reported_offerDrawer _ _ _ h) _

theorem closing_openCount (d : Device) (n : Fin 32) :
    (d.closing n).drawers.drawers[n].openCount = d.drawers.drawers[n].openCount := by
  simp [Device.closing]

theorem closing_reported (d : Device) {n : Fin 32} (h : d.pool.lanes[laneQueue (laneOf n)].queue.length < 8) :
    Reported d.pool (d.closing n) n d.drawers.drawers[n].openCount :=
  reported_offerDrawer _ _ _ h

/-- The stability timer of a settled drawer runs out with a new position (R149). -/
theorem stabilityExpiry_of_change {d : Device} {n : Fin 32} (hrun : d.drawers.drawers[n].stability.isSome)
    (hset : d.drawers.drawers[n].settled = true)
    (hne : d.drawers.drawers[n].candidate ≠ d.drawers.drawers[n].position) :
    stabilityExpiry n d =
      let d1 := d.updDrawer n fun w => { w with stability := none }
      if d.drawers.drawers[n].candidate = .opened then d1.opening n else d1.closing n := by
  obtain ⟨ms, hms⟩ := Option.isSome_iff_exists.mp hrun
  simp only [stabilityExpiry, hms, hset, not_true_eq_false, if_false, if_neg hne]

/-- The counter after the expiry, which the first event that the expiry queues carries: raised by an opening, as it
stands at a closing. -/
theorem stabilityExpiry_count {d : Device} {n : Fin 32} (hrun : d.drawers.drawers[n].stability.isSome)
    (hset : d.drawers.drawers[n].settled = true)
    (hne : d.drawers.drawers[n].candidate ≠ d.drawers.drawers[n].position)
    (hroom : d.pool.lanes[laneQueue (laneOf n)].queue.length < 8) :
    let w := d.drawers.drawers[n]
    let count := if w.candidate = .opened then sat16 w.openCount 1 else w.openCount
    (stabilityExpiry n d).drawers.drawers[n].openCount = count ∧ Reported d.pool (stabilityExpiry n d) n count := by
  have hstop : (d.updDrawer n fun w => { w with stability := none }).drawers.drawers[n].openCount =
      d.drawers.drawers[n].openCount := by simp
  rw [stabilityExpiry_of_change hrun hset hne]
  dsimp only
  rw [← hstop]
  split
  · exact ⟨opening_openCount _ n, opening_reported _ hroom⟩
  · exact ⟨closing_openCount _ n, closing_reported _ hroom⟩

/-- Settles O34: the request by the rule for requests answered at once, the expiry by its two cases. -/
theorem clearCounter : Obligations.ClearCounter := by
  intro s tag n u w r q count
  refine ⟨clearCounter_answers, fun hreset hrun hset hne hroom => ?_⟩
  obtain ⟨hcount, hrep⟩ := stabilityExpiry_count hrun hset hne (Nat.le_of_succ_le hroom)
  exact ⟨_, (exec_stabilityTimerExpiry s n).trans (s.run_of_running _ hreset), rfl, hcount, hrep.head_drop⟩

end Sys2Proof.OpenCounter

/-! ## What a command does to the part: its effect, row by row, and the blocks it may touch -/

namespace Sys2Proof.Machine

/-! ### Footprints: the parts of the device that an operation may touch -/

/-- One event offered to a pending queue (R108, R109): appended, or lost behind 8 entries. -/
def PendLane.tell (p : PendLane) (e : Entry) : PendLane :=
  if p.queue.length < 8 then { p with seq := p.seq + 1, queue := p.queue ++ [e] }
  else { p with seq := p.seq + 1, lossCount := sat16 p.lossCount 1, gap := true }

/-- The body, if there is one, lies in the entry itself and in no scanner buffer. -/
def BodyRef.bufferless : BodyRef → Bool
  | .buffer .. => false
  | .absent | .bytes _ => true

/-- The pending queues have changed only by offers of events whose bodies are of this sort. -/
inductive Told (sort : BodyRef → Prop) (v : Table PendLane 17) : Table PendLane 17 → Prop
  | refl : Told sort v v
  | tell {w} (h : Told sort v w) (q : Fin 17) (e : Entry) (hb : sort e.body) :
      Told sort v (upd w q fun p => p.tell e)

@[simp] theorem told_refl (sort : BodyRef → Prop) (v : Table PendLane 17) : Told sort v v := .refl

theorem Told.trans {sort : BodyRef → Prop} {v w x : Table PendLane 17} (h1 : Told sort v w) (h2 : Told sort w x) :
    Told sort v x := by
  induction h2 with
  | refl => exact h1
  | tell _ q e hb ih => exact .tell ih q e hb

/-- Events without a scanner record. -/
abbrev Plain (b : BodyRef) : Prop := b.bufferless = true

/-- Events of any sort. -/
abbrev AnyBody (_ : BodyRef) : Prop := True

/-- A kick accepted (R151, step 6). -/
def DrawerUnit.accept (u : DrawerUnit) (n : Fin 32) : DrawerUnit :=
  { u with drawers := upd u.drawers n fun w => { w with kick := .waiting }, waitList := u.waitList ++ [n] }

/-- The drawer unit has changed only by kicks accepted for drawers whose kick was IDLE. -/
inductive Kicked (u : DrawerUnit) : DrawerUnit → Prop
  | refl : Kicked u u
  | accept {v} (h : Kicked u v) (n : Fin 32) (hk : v.drawers[n].kick = .idle) : Kicked u (v.accept n)

@[simp] theorem kicked_refl (u : DrawerUnit) : Kicked u u := .refl

theorem Kicked.trans {u v w : DrawerUnit} (h1 : Kicked u v) (h2 : Kicked v w) : Kicked u w := by
  induction h2 with
  | refl => exact h1
  | accept _ n hk ih => exact .accept ih n hk

/-- The parts of the device that the frame facts tell apart. Lane states, lane settings, the pool's queues and the
consumers stand on their own, since many commands touch the rest of their block and not them, or them alone. `entries`,
`offers` and `kicks` are the pending queues and the drawer unit once more: a command that does no more than offer events
without a scanner record, than offer events, or than have kicks accepted, does not touch those. -/
inductive Block where
  | lanes | states | settings | scanner | trans | keymaps | ports | rules | queues | entries | offers | slots
  | consumers | delivery | drawers | kicks | tlu | trunk | timeBase
  deriving DecidableEq

/-- Device `e` has this part as device `d` has it. -/
def Same (d e : Device) : Block → Prop
  | .lanes => e.lanes = d.lanes
  | .states => ∀ l : Fin 16, e.lanes[l].state = d.lanes[l].state
  | .settings => ∀ l : Fin 16, e.lanes[l].active = d.lanes[l].active ∧ e.lanes[l].pendingSet = d.lanes[l].pendingSet
  | .scanner => e.scanner = d.scanner
  | .trans => e.trans = d.trans
  | .keymaps => e.keymaps = d.keymaps
  | .ports => e.ports = d.ports
  | .rules => e.rules = d.rules
  | .queues => e.pool.lanes = d.pool.lanes
  | .entries => Told Plain d.pool.lanes e.pool.lanes
  | .offers => Told AnyBody d.pool.lanes e.pool.lanes
  | .slots => { e.pool with lanes := d.pool.lanes } = d.pool
  | .consumers => e.delivery.consumers = d.delivery.consumers
  | .delivery => { e.delivery with consumers := d.delivery.consumers } = d.delivery
  | .drawers => e.drawers = d.drawers
  | .kicks => Kicked d.drawers e.drawers
  | .tlu => e.tlu = d.tlu
  | .trunk => e.trunk = d.trunk
  | .timeBase => (e.inReset, e.usPhase) = (d.inReset, d.usPhase)

/-- From `d` to `e` nothing outside the parts `bs` has changed. -/
def Touches (bs : List Block) (d e : Device) : Prop := ∀ b, b ∉ bs → Same d e b

@[simp] theorem same_lanes (d e : Device) : Same d e .lanes ↔ e.lanes = d.lanes := Iff.rfl

@[simp] theorem same_states (d e : Device) : Same d e .states ↔ ∀ l : Fin 16, e.lanes[l].state = d.lanes[l].state :=
  Iff.rfl

@[simp] theorem same_settings (d e : Device) : Same d e .settings ↔
    ∀ l : Fin 16, e.lanes[l].active = d.lanes[l].active ∧ e.lanes[l].pendingSet = d.lanes[l].pendingSet := Iff.rfl

@[simp] theorem same_scanner (d e : Device) : Same d e .scanner ↔ e.scanner = d.scanner := Iff.rfl

@[simp] theorem same_trans (d e : Device) : Same d e .trans ↔ e.trans = d.trans := Iff.rfl

@[simp] theorem same_keymaps (d e : Device) : Same d e .keymaps ↔ e.keymaps = d.keymaps := Iff.rfl

@[simp] theorem same_ports (d e : Device) : Same d e .ports ↔ e.ports = d.ports := Iff.rfl

@[simp] theorem same_rules (d e : Device) : Same d e .rules ↔ e.rules = d.rules := Iff.rfl

@[simp] theorem same_queues (d e : Device) : Same d e .queues ↔ e.pool.lanes = d.pool.lanes := Iff.rfl

@[simp] theorem same_entries (d e : Device) : Same d e .entries ↔ Told Plain d.pool.lanes e.pool.lanes := Iff.rfl

@[simp] theorem same_offers (d e : Device) : Same d e .offers ↔ Told AnyBody d.pool.lanes e.pool.lanes := Iff.rfl

@[simp] theorem same_slots (d e : Device) : Same d e .slots ↔ { e.pool with lanes := d.pool.lanes } = d.pool :=
  Iff.rfl

@[simp] theorem same_consumers (d e : Device) : Same d e .consumers ↔ e.delivery.consumers = d.delivery.consumers :=
  Iff.rfl

@[simp] theorem same_delivery (d e : Device) :
    Same d e .delivery ↔ { e.delivery with consumers := d.delivery.consumers } = d.delivery := Iff.rfl

@[simp] theorem same_drawers (d e : Device) : Same d e .drawers ↔ e.drawers = d.drawers := Iff.rfl

@[simp] theorem same_kicks (d e : Device) : Same d e .kicks ↔ Kicked d.drawers e.drawers := Iff.rfl

@[simp] theorem same_tlu (d e : Device) : Same d e .tlu ↔ e.tlu = d.tlu := Iff.rfl

@[simp] theorem same_trunk (d e : Device) : Same d e .trunk ↔ e.trunk = d.trunk := Iff.rfl

@[simp] theorem same_timeBase (d e : Device) :
    Same d e .timeBase ↔ (e.inReset, e.usPhase) = (d.inReset, d.usPhase) := Iff.rfl

theorem Same.refl (d : Device) (b : Block) : Same d d b := by cases b <;> simp

theorem Same.trans {d e f : Device} {b : Block} (h1 : Same d e b) (h2 : Same e f b) : Same d f b := by
  cases b with
  | states => exact fun l => (h2 l).trans (h1 l)
  | settings => exact fun l => ⟨(h2 l).1.trans (h1 l).1, (h2 l).2.trans (h1 l).2⟩
  | entries | offers => exact Told.trans h1 h2
  | kicks => exact Kicked.trans h1 h2
  | slots => rw [same_slots] at h1 h2 ⊢; rw [← h1, ← h2]
  | delivery => rw [same_delivery] at h1 h2 ⊢; rw [← h1, ← h2]
  | _ => exact Eq.trans h2 h1

theorem Touches.refl (bs : List Block) (d : Device) : Touches bs d d := fun b _ => .refl d b

theorem Touches.trans {bs : List Block} {d e f : Device} (h1 : Touches bs d e) (h2 : Touches bs e f) :
    Touches bs d f := fun b hb => (h1 b hb).trans (h2 b hb)

theorem Touches.mono {bs cs : List Block} {d e : Device} (h : Touches bs d e) (hs : bs ⊆ cs) :
    Touches cs d e := fun b hb => h b fun hm => hb (hs hm)

/-- One operation after the other. -/
theorem Touches.seq {as bs : List Block} {d e f : Device} (h1 : Touches as d e) (h2 : Touches bs e f) :
    Touches (as ++ bs) d f := (h1.mono (List.subset_append_left as bs)).trans
      (h2.mono (List.subset_append_right as bs))

theorem Touches.foldl {α : Type} {bs : List Block} {f : Device → α → Device} (hf : ∀ d a, Touches bs d (f d a))
    (as : List α) (d : Device) : Touches bs d (as.foldl f d) := by
  induction as generalizing d with
  | nil => exact .refl bs d
  | cons a as ih => exact (hf d a).trans (ih _)

theorem Touches.ite {bs : List Block} {c : Prop} [Decidable c] {d e f : Device} (he : Touches bs d e)
    (hf : Touches bs d f) : Touches bs d (if c then e else f) := by
  split
  · exact he
  · exact hf

/-! ### The footprints of the shared operations -/

theorem updLane_touches (d : Device) (l : Fin 16) (f : LaneRec → LaneRec) :
    Touches [.lanes, .states, .settings] d (d.updLane l f) := by
  intro b hb; cases b <;> simp_all

theorem updLane_states (d : Device) (l : Fin 16) {f : LaneRec → LaneRec} (hf : ∀ r, (f r).state = r.state) :
    Same d (d.updLane l f) .states := by
  intro k
  simp only [Device.updLane_lanes, upd_getElem]
  split
  · exact hf _
  · rfl

theorem updLane_settings (d : Device) (l : Fin 16) {f : LaneRec → LaneRec}
    (hf : ∀ r, (f r).active = r.active ∧ (f r).pendingSet = r.pendingSet) : Same d (d.updLane l f) .settings := by
  intro k
  simp only [Device.updLane_lanes, upd_getElem]
  split
  · exact hf _
  · exact ⟨rfl, rfl⟩

theorem updLane_touches_states (d : Device) (l : Fin 16) {f : LaneRec → LaneRec}
    (hf : ∀ r, (f r).active = r.active ∧ (f r).pendingSet = r.pendingSet) :
    Touches [.lanes, .states] d (d.updLane l f) := fun b hb =>
  if hs : b = .settings then hs ▸ updLane_settings d l hf else updLane_touches d l f b (by simp_all)

theorem updLane_touches_settings (d : Device) (l : Fin 16) {f : LaneRec → LaneRec}
    (hf : ∀ r, (f r).state = r.state) : Touches [.lanes, .settings] d (d.updLane l f) := fun b hb =>
  if hs : b = .states then hs ▸ updLane_states d l hf else updLane_touches d l f b (by simp_all)

theorem updLane_touches_lanes (d : Device) (l : Fin 16) {f : LaneRec → LaneRec}
    (hf : ∀ r, (f r).state = r.state ∧ (f r).active = r.active ∧ (f r).pendingSet = r.pendingSet) :
    Touches [.lanes] d (d.updLane l f) := fun b hb =>
  if hs : b = .states then hs ▸ updLane_states d l fun r => (hf r).1
  else updLane_touches_states d l (fun r => (hf r).2) b (by simp_all)

theorem updScanner_touches (d : Device) (f : Scanner → Scanner) : Touches [.scanner] d (d.updScanner f) := by
  intro b hb; cases b <;> simp_all

theorem updScan_touches (d : Device) (l : Fin 16) (f : LaneScan → LaneScan) :
    Touches [.scanner] d (d.updScan l f) := updScanner_touches d _

theorem updTrans_touches (d : Device) (l : Fin 16) (f : KeyTrans → KeyTrans) :
    Touches [.trans] d (d.updTrans l f) := by
  intro b hb; cases b <;> simp_all

theorem updKeymaps_touches (d : Device) (f : KeymapStore → KeymapStore) :
    Touches [.keymaps] d (d.updKeymaps f) := by
  intro b hb; cases b <;> simp_all

theorem updPort_touches (d : Device) (n : Fin 32) (f : Port → Port) : Touches [.ports] d (d.updPort n f) := by
  intro b hb; cases b <;> simp_all

theorem updRules_touches (d : Device) (f : Classifier → Classifier) : Touches [.rules] d (d.updRules f) := by
  intro b hb; cases b <;> simp_all

theorem updPool_touches (d : Device) (f : Pool → Pool) : Touches [.queues, .entries, .offers, .slots] d (d.updPool f) := by
  intro b hb; cases b <;> simp_all

theorem updPool_touches_slots (d : Device) {f : Pool → Pool} (hf : (f d.pool).lanes = d.pool.lanes) :
    Touches [.slots] d (d.updPool f) := by
  intro b hb; cases b <;> simp_all

theorem updPend_touches (d : Device) (q : Fin 17) (f : PendLane → PendLane) : Touches [.queues, .entries, .offers] d
  (d.updPend q f) :=
  by
  intro b hb; cases b <;> simp_all

theorem updDelivery_touches (d : Device) (f : Delivery → Delivery) :
    Touches [.delivery, .consumers] d (d.updDelivery f) := by
  intro b hb; cases b <;> simp_all

theorem updDelivery_touches_consumers (d : Device) (t : Table Consumer 8) :
    Touches [.consumers] d (d.updDelivery fun u => { u with consumers := t }) := by
  intro b hb; cases b <;> simp_all

theorem updDelivery_touches_delivery (d : Device) {f : Delivery → Delivery}
    (hf : (f d.delivery).consumers = d.delivery.consumers) : Touches [.delivery] d (d.updDelivery f) := by
  intro b hb; cases b <;> simp_all

theorem updConsumer_touches (d : Device) (c : Fin 8) (f : Consumer → Consumer) :
    Touches [.consumers] d (d.updConsumer c f) := updDelivery_touches_consumers d _

theorem changeConsumer_touches (d : Device) (c : Fin 8) (f : Consumer → Consumer) :
    Touches [.consumers] d (d.changeConsumer c f) := updConsumer_touches d c _

theorem updDrawers_touches (d : Device) (f : DrawerUnit → DrawerUnit) : Touches [.drawers, .kicks] d
  (d.updDrawers f) := by
  intro b hb; cases b <;> simp_all

theorem updDrawer_touches (d : Device) (n : Fin 32) (f : Drawer → Drawer) :
    Touches [.drawers, .kicks] d (d.updDrawer n f) := updDrawers_touches d _

theorem updTlu_touches (d : Device) (f : ToneUnit → ToneUnit) : Touches [.tlu] d (d.updTlu f) := by
  intro b hb; cases b <;> simp_all

theorem updTrunk_touches (d : Device) (f : Trunk → Trunk) : Touches [.trunk] d (d.updTrunk f) := by
  intro b hb; cases b <;> simp_all

theorem begin_touches (d : Device) (r : Request) : Touches [.trunk] d (d.begin r) := updTrunk_touches d _

theorem reply_touches (d : Device) (a : Answer) : Touches [.trunk] d (d.reply a) := updTrunk_touches d _

theorem releaseBody_touches (d : Device) (b : BodyRef) : Touches [.ports] d (d.releaseBody b) := by
  cases b with
  | buffer n buf start len => exact updPort_touches d n _
  | absent | bytes bs => exact .refl _ d

theorem loseEntry_touches (d : Device) (q : Fin 17) (e : Entry) : Touches [.queues, .entries, .offers, .ports] d
  (d.loseEntry q e) :=
  ((updPend_touches d q _).seq (releaseBody_touches _ e.body)).mono (by decide)

theorem releaseBody_of_bufferless (d : Device) {b : BodyRef} (h : b.bufferless = true) : d.releaseBody b = d := by
  cases b with
  | buffer n buf start len => cases h
  | absent | bytes bs => rfl

/-- What an offer does to the pending queues, whatever the event. -/
theorem offer_lanes (d : Device) (q : Fin 17) (n : Notice) :
    (d.offer q n).pool.lanes = upd d.pool.lanes q fun p => p.tell { ev := d.eventOf q n, body := n.body } := by
  rcases Nat.lt_or_ge d.pool.lanes[q].queue.length 8 with h | h
  · rw [d.offer_of_room q n h]
    ext1 j hj
    by_cases hq : j = q.val
    · subst hq
      simp [PendLane.tell, show d.pool.lanes[q.val].queue.length < 8 from h]
    · simp [hq]
  · rw [d.offer_of_full q n h]
    ext1 j hj
    by_cases hq : j = q.val
    · subst hq
      simp [PendLane.tell, Device.loseEntry, show ¬ d.pool.lanes[q.val].queue.length < 8 from Nat.not_lt.mpr h]
    · simp [Device.loseEntry, hq]

theorem offer_touches (d : Device) (q : Fin 17) (n : Notice) :
    Touches [.queues, .entries, .ports] d (d.offer q n) := by
  have hupd : Touches [.queues, .entries, .offers, .ports] d (d.offer q n) := by
    unfold Device.offer
    have h1 := updPend_touches d q fun p => { p with seq := p.seq + 1 }
    exact .ite ((h1.seq (updPend_touches _ q _)).mono (by decide)) ((h1.seq (loseEntry_touches _ q _)).mono (by decide))
  intro b hb
  by_cases ho : b = .offers
  · subst ho
    rw [same_offers, offer_lanes]
    exact .tell .refl q _ trivial
  · exact hupd b (by simp_all)

/-- An event without a scanner record touches no port, even when it is lost. -/
theorem tell_touches (d : Device) (q : Fin 17) (n : Notice) (h : Plain n.body) : Touches [.queues] d (d.offer q n) := by
  intro b hb
  by_cases he : b = .entries
  · subst he
    rw [same_entries, offer_lanes]
    exact .tell .refl q _ h
  by_cases hp : b = .ports
  · subst hp
    unfold Device.offer Device.loseEntry
    dsimp only
    rw [releaseBody_of_bufferless _ h]
    split <;> simp
  · exact offer_touches d q n b (by simp_all)

theorem Pool.giveUp_lanes (p : Pool) (k : Fin 512) : (p.giveUp k).lanes = p.lanes := by
  unfold Pool.giveUp
  split
  · rfl
  · split <;> rfl

theorem Pool.foldl_giveUp_lanes (ks : List (Fin 512)) (p : Pool) : (ks.foldl Pool.giveUp p).lanes = p.lanes := by
  induction ks generalizing p with
  | nil => rfl
  | cons k ks ih => exact (ih _).trans (p.giveUp_lanes k)

theorem giveUpAll_touches (d : Device) (ks : List (Fin 512)) : Touches [.slots] d (d.giveUpAll ks) :=
  updPool_touches_slots d (Pool.foldl_giveUp_lanes ks d.pool)

theorem flush_touches (d : Device) (c : Fin 8) : Touches [.slots, .consumers] d (d.flush c) :=
  ((giveUpAll_touches d _).seq (changeConsumer_touches _ c _)).mono (by decide)

theorem requestTone_touches (d : Device) (l : Fin 16) (e : Fin 8) : Touches [.tlu] d (d.requestTone l e) :=
  .ite (updTlu_touches d _) (.refl _ d)

theorem requestToneOpt_touches (d : Device) (l : Fin 16) (e : Option (Fin 8)) :
    Touches [.tlu] d (d.requestToneOpt l e) := by
  cases e with
  | some e => exact requestTone_touches d l e
  | none => exact .refl _ d

theorem settleLamp_touches (d : Device) (l : Fin 16) : Touches [.tlu] d (d.settleLamp l) :=
  .ite (.refl _ d) (updTlu_touches d _)

theorem setLaneState_touches (d : Device) (l : Fin 16) (s : LaneState) :
    Touches [.lanes, .states, .tlu] d (d.setLaneState l s) :=
  ((updLane_touches_states d l (by intro; exact ⟨rfl, rfl⟩)).seq (settleLamp_touches _ l)).mono (by decide)

/-! ### The footprints of the drawer unit's operations -/

theorem testAndConsume_touches (d : Device) (l : Fin 16) : Touches [.lanes] d (d.testAndConsume l).1 := by
  unfold Device.testAndConsume
  split
  · exact updLane_touches_lanes d l (by intro; exact ⟨rfl, rfl, rfl⟩)
  · exact .refl _ d

theorem interlock_touches (d : Device) (l : Fin 16) : Touches [.lanes] d (d.interlock l).1 := by
  unfold Device.interlock
  split
  · split
    · exact .refl _ d
    · exact .refl _ d
    · exact testAndConsume_touches d l
    · exact .refl _ d
  all_goals exact .refl _ d

theorem acceptKick_touches (d : Device) (n : Fin 32) (hk : d.drawers.drawers[n].kick = .idle) :
    Touches [.drawers] d (d.acceptKick n) := by
  intro b hb
  by_cases hb' : b = .kicks
  · subst hb'
    exact .accept .refl n hk
  · exact updDrawers_touches d (fun u => u.accept n) b (by simp_all)

theorem refuseKick_touches (d : Device) (n : Fin 32) (o : Origin) (w : KickRefusal) :
    Touches [.queues] d (d.refuseKick n o w) := tell_touches d _ _ (by rfl)

theorem requestKick_touches (d : Device) (n : Fin 32) (o : Origin) :
    Touches [.lanes, .queues, .drawers] d (d.requestKick n o).1 := by
  rcases d.requestKick_cases n o with ⟨w, h⟩ | ⟨-, h⟩ | ⟨-, -, hk, -, -, ⟨-, h⟩ | ⟨-, h⟩⟩
  · rw [h]
    exact (refuseKick_touches d n o w).mono (by decide)
  · rw [h]
    exact .refl _ d
  · rw [h]
    have hk' : (d.interlock (laneOf n)).1.drawers.drawers[n].kick = .idle := by simpa using hk
    exact ((interlock_touches d _).seq (acceptKick_touches _ n hk')).mono (by decide)
  · rw [h]
    exact ((interlock_touches d _).seq (refuseKick_touches _ n o _)).mono (by decide)

theorem cutPulse_touches (d : Device) (n : Fin 32) : Touches [.queues, .drawers, .kicks] d (d.cutPulse n) :=
  ((updDrawers_touches d _).seq (tell_touches _ _ _ (by rfl))).mono (by decide)

theorem abortWaiting_touches (d : Device) (n : Fin 32) (cause : Nat) :
    Touches [.queues, .drawers, .kicks] d (d.abortWaiting n cause) :=
  ((updDrawers_touches d _).seq (tell_touches _ _ _ (by rfl))).mono (by decide)

theorem supplyFaultTaken_touches (d : Device) : Touches [.queues, .drawers, .kicks] d d.supplyFaultTaken :=
  have hcut := Touches.foldl cutPulse_touches d.drawers.energized d
  have habort := Touches.foldl (fun d n => abortWaiting_touches d n 2) d.drawers.waitList _
  (((hcut.trans habort).seq (updDrawers_touches _ _)).seq (tell_touches _ _ _ (by rfl))).mono (by decide)

theorem opening_touches (d : Device) (n : Fin 32) : Touches [.queues, .drawers, .kicks] d (d.opening n) := by
  have hd : Touches [.queues, .drawers, .kicks] d _ := (updDrawer_touches d n Drawer.becomeOpen).mono (by decide)
  unfold Device.opening
  dsimp only
  split
  · exact ((hd.seq (updDrawer_touches _ n _)).seq (tell_touches _ _ _ (by rfl))).mono (by decide)
  · exact (((hd.seq (updDrawer_touches _ n _)).seq (tell_touches _ _ _ (by rfl))).seq
      (tell_touches _ _ _ (by rfl))).mono (by decide)
  · exact (hd.seq (tell_touches _ _ _ (by rfl))).mono (by decide)
  · exact ((hd.seq (tell_touches _ _ _ (by rfl))).seq (abortWaiting_touches _ n 1)).mono (by decide)

theorem closing_touches (d : Device) (n : Fin 32) : Touches [.queues, .drawers, .kicks] d (d.closing n) :=
  ((updDrawer_touches d n _).seq (tell_touches _ _ _ (by rfl))).mono (by decide)

/-! ### The footprints of the lane controller's, the scanner's and the translator's operations -/

theorem offerLaneState_touches (d : Device) (l : Fin 16) (s : LaneState) (c : LaneCause) :
    Touches [.queues] d (d.offerLaneState l s c) := tell_touches d _ _ (by rfl)

theorem LaneRec.closeWindow_state (r : LaneRec) : r.closeWindow.state = r.state := rfl

theorem acceptLock_touches (d : Device) (l : Fin 16) (k : KeyLock) :
    Touches [.lanes, .queues] d (d.acceptLock l k) := by
  have h1 : Touches [.lanes] d (d.updLane l fun r =>
      let r := { r with keyLock := k, settled := true, lockCandidate := none, lockCount := 0 }
      if k = .locked then r.closeWindow else r) := updLane_touches_lanes d l
        (by intro r; dsimp only; split <;> exact ⟨rfl, rfl, rfl⟩)
  unfold Device.acceptLock
  dsimp only
  split
  · exact (h1.seq (tell_touches _ _ _ (by rfl))).mono (by decide)
  · exact h1.mono (by decide)

theorem sampleLock_touches (d : Device) (l : Fin 16) (k : KeyLock) :
    Touches [.lanes, .queues] d (d.sampleLock l k) := by
  unfold Device.sampleLock
  dsimp only
  split
  · exact (updLane_touches_lanes d l (by intro; exact ⟨rfl, rfl, rfl⟩)).mono (by decide)
  · split
    · split
      · exact (updLane_touches_lanes d l (by intro; exact ⟨rfl, rfl, rfl⟩)).mono (by decide)
      · exact acceptLock_touches d l k
    · split
      · exact (updLane_touches_lanes d l (by intro; exact ⟨rfl, rfl, rfl⟩)).mono (by decide)
      · exact acceptLock_touches d l k

theorem wakeReading_touches (d : Device) (l : Fin 16) (raw : Byte) :
    Touches [.lanes, .queues] d (d.wakeReading l raw) := by
  have h1 : Touches [.lanes, .queues] d (d.updLane l fun r =>
      { r with wakeRef := some (rowReading d.lanes[l].active.rows raw), wakeDue := false }) :=
  (updLane_touches_lanes d l (by intro; exact ⟨rfl, rfl, rfl⟩)).mono (by decide)
  unfold Device.wakeReading
  dsimp only
  split
  · exact h1
  · split
    · exact ((h1.seq (updLane_touches_lanes _ l (by intro; exact ⟨rfl, rfl, rfl⟩))).seq
        (tell_touches _ _ _ (by rfl))).mono (by decide)
    · exact h1

/-- The wake monitor's start and stop leave state and settings as they are. -/
theorem LaneRec.adoptWake_keeps (r : LaneRec) :
    r.adoptWake.state = r.state ∧ r.adoptWake.active = r.active ∧ r.adoptWake.pendingSet = r.pendingSet := by
  unfold LaneRec.adoptWake
  split
  · exact ⟨rfl, rfl, rfl⟩
  · split <;> exact ⟨rfl, rfl, rfl⟩

theorem LaneRec.enterClosedWake_keeps (r : LaneRec) : r.enterClosedWake.state = r.state ∧
    r.enterClosedWake.active = r.active ∧ r.enterClosedWake.pendingSet = r.pendingSet := by
  unfold LaneRec.enterClosedWake
  split <;> exact ⟨rfl, rfl, rfl⟩

theorem adopt_touches (d : Device) (l : Fin 16) : Touches [.lanes, .settings, .trans] d (d.adopt l) := by
  unfold Device.adopt
  split
  · exact .refl _ d
  · exact ((updLane_touches_settings d l (by intro r; exact (LaneRec.adoptWake_keeps _).1)).seq
      (updTrans_touches _ l _)).mono (by decide)

theorem tenderPress_touches (d : Device) (l : Fin 16) :
    Touches [.lanes, .queues, .drawers] d (d.tenderPress l) := by
  have h1 : Touches [.lanes] d (d.updLane l LaneRec.openWindow) := updLane_touches_lanes d l
    (by intro; exact ⟨rfl, rfl, rfl⟩)
  unfold Device.tenderPress
  dsimp only
  split
  · exact (h1.seq (requestKick_touches _ _ _)).mono (by decide)
  · exact h1.mono (by decide)

theorem translatePress_touches (d : Device) (l : Fin 16) (p : Fin 128) (late : Bool) :
    Touches [.lanes, .trans, .queues, .drawers] d (d.translatePress l p late) := by
  have h1 := updTrans_touches d l
  have h2 := fun f k h lock => (h1 f).seq (tell_touches _ (laneQueue l) (keyNotice k p h lock late) (by rfl))
  have h3 := fun f k h lock => (h2 f k h lock).seq (tenderPress_touches _ l)
  unfold Device.translatePress
  dsimp only
  split
  · exact (h1 _).mono (by decide)
  · exact (h1 _).mono (by decide)
  · exact (h2 _ _ _ _).mono (by decide)
  · split
    · split
      · exact ((h3 _ _ _ _).seq (updTrans_touches _ l _)).mono (by decide)
      · exact ((h2 _ _ _ _).seq (updTrans_touches _ l _)).mono (by decide)
    · split
      · exact (h3 _ _ _ _).mono (by decide)
      · exact (h2 _ _ _ _).mono (by decide)

theorem translateRelease_touches (d : Device) (l : Fin 16) (p : Fin 128) :
    Touches [.trans, .queues] d (d.translateRelease l p) := by
  unfold Device.translateRelease
  split
  · exact .refl _ d
  · exact ((Touches.ite (tell_touches d _ _ (by rfl)) (.refl _ d)).seq (updTrans_touches _ l _)).mono (by decide)

theorem withdrawPass_touches (d : Device) (l : Fin 16) : Touches [.scanner] d (d.withdrawPass l) :=
  updScan_touches d l _

theorem tellPorts_touches (d : Device) (l : Fin 16) (isOpen : Bool) : Touches [.ports] d (d.tellPorts l isOpen) :=
  (updPort_touches d _ _).trans (updPort_touches _ _ _)

theorem switchKeymap_touches (d : Device) (l : Fin 16) (i : Fin 8) (f : Bool) :
    Touches [.keymaps, .queues] d (d.switchKeymap l i f) :=
  ((updKeymaps_touches d _).seq (tell_touches _ _ _ (by rfl))).mono (by decide)

theorem departKeymap_touches (d : Device) (l : Fin 16) :
    Touches [.keymaps, .queues] d (d.departKeymap l) := by
  unfold Device.departKeymap
  split
  · exact switchKeymap_touches d l _ false
  · exact .refl _ d

theorem releases_touches (d : Device) (l : Fin 16) (ps : List (Fin 128)) :
    Touches [.trans, .queues] d (ps.foldl (fun d p => d.translateRelease l p) d) :=
  .foldl (fun d p => translateRelease_touches d l p) ps d

theorem windDown_touches (d : Device) (l : Fin 16) :
    Touches [.scanner, .trans, .queues, .ports] d (d.windDown l) := by
  have h1 := fun ps => ((withdrawPass_touches d l).seq (releases_touches _ l ps)).seq
    (updScan_touches _ l LaneScan.clearKeys)
  have h2 := fun ps => (h1 ps).seq (updTrans_touches _ l KeyTrans.clearOwner)
  unfold Device.windDown
  dsimp only
  split
  · exact ((h2 _).seq (tellPorts_touches _ l false)).mono (by decide)
  · exact (h2 _).mono (by decide)

end Sys2Proof.Machine

/-! ## The footprints of the commands' own operations -/

namespace Sys2Proof.Machine

/-! ### Lanes -/

theorem openLane_touches (d : Device) (l : Fin 16) :
    Touches [.lanes, .states, .scanner, .ports, .queues, .tlu] d (d.openLane l) := by
  unfold Device.openLane
  exact (((((setLaneState_touches d l _).seq (updScan_touches _ l _)).seq
    (updLane_touches_lanes _ l (by intro; exact ⟨rfl, rfl, rfl⟩))).seq
    (tellPorts_touches _ l true)).seq (tell_touches _ _ _ (by rfl))).mono (by decide)

/-- What SUSPEND-LANE does to an OPEN lane (R4). -/
def Device.suspendLane (d : Device) (l : Fin 16) : Device :=
  (((d.setLaneState l .suspended).updLane l LaneRec.closeWindow).tellPorts l false).offerLaneState l .suspended
    .request

/-- What RESUME-LANE does to a SUSPENDED lane (R5). -/
def Device.resumeLane (d : Device) (l : Fin 16) : Device :=
  ((d.setLaneState l .opened).tellPorts l true).offerLaneState l .opened .request

theorem suspendLane_touches (d : Device) (l : Fin 16) :
    Touches [.lanes, .states, .ports, .queues, .tlu] d (d.suspendLane l) :=
  ((((setLaneState_touches d l _).seq (updLane_touches_lanes _ l (by intro; exact ⟨rfl, rfl, rfl⟩))).seq
    (tellPorts_touches _ l false)).seq
    (tell_touches _ _ _ (by rfl))).mono (by decide)

theorem resumeLane_touches (d : Device) (l : Fin 16) :
    Touches [.lanes, .states, .ports, .queues, .tlu] d (d.resumeLane l) :=
  (((setLaneState_touches d l _).seq (tellPorts_touches _ l true)).seq (tell_touches _ _ _ (by rfl))).mono (by decide)

theorem depart_touches (d : Device) (l : Fin 16) (dest : LaneState) (c : LaneCause) :
    Touches [.lanes, .states, .settings, .scanner, .trans, .keymaps, .ports, .queues, .tlu] d (d.depart l dest c) :=
      by
  unfold Device.depart
  dsimp only
  refine Touches.trans ?_ ((departKeymap_touches _ l).mono (by decide))
  have h1 : Touches [.lanes, .states, .settings, .scanner, .trans, .keymaps, .ports, .queues, .tlu] d _ :=
    (((((windDown_touches d l).seq (setLaneState_touches _ l dest)).seq
      (updLane_touches _ l fun r => { r.closeWindow with watchTimer := some 8 })).seq
      (offerLaneState_touches _ l dest c)).seq (adopt_touches _ l)).mono (by decide)
  split
  · exact (h1.seq (updLane_touches _ l _)).mono (by decide)
  · exact h1.mono (by decide)

theorem closeFaulted_touches (d : Device) (l : Fin 16) :
    Touches [.lanes, .states, .queues, .tlu] d (d.closeFaulted l) :=
  (((setLaneState_touches d l _).seq (updLane_touches_lanes _ l LaneRec.enterClosedWake_keeps)).seq
    (tell_touches _ _ _ (by rfl))).mono (by decide)

theorem flagRefused_touches (d : Device) (s : SortedSet) : Touches [.consumers] d (d.flagRefused s) :=
  updDelivery_touches_consumers d _

theorem flagMembers_touches (d : Device) (s : SortedSet) : Touches [.consumers] d (d.flagMembers s) :=
  updDelivery_touches_consumers d _

theorem emptyQueue_touches (d : Device) (q : Fin 17) : Touches [.queues, .entries, .offers, .ports, .consumers] d
  (d.emptyQueue q) := by
  have h1 := fun es => (updPend_touches d q fun n =>
    { n with queue := [], waiting := false, waitTimer := none, lastSet := none }).seq
      (.foldl (fun d e => loseEntry_touches d q e) es _)
  unfold Device.emptyQueue
  dsimp only
  split
  · exact ((h1 _).seq (flagMembers_touches _ _)).mono (by decide)
  · exact (h1 _).mono (by decide)

theorem clearRuntime_touches (d : Device) (l : Fin 16) :
    Touches [.scanner, .trans, .ports] d (d.clearRuntime l) :=
  (((((withdrawPass_touches d l).seq (updScan_touches _ l _)).seq (updTrans_touches _ l _)).seq
    (updPort_touches _ _ _)).seq (updPort_touches _ _ _)).mono (by decide)

/-- What RESET-LANE does after it has emptied the lane's queue. -/
theorem resetLane_touches_emptied (d : Device) (l : Fin 16) :
    Touches [.lanes, .states, .settings, .scanner, .trans, .keymaps, .ports, .queues, .drawers, .kicks, .tlu]
      (d.emptyQueue (laneQueue l)) (d.resetLane l) := by
  unfold Device.resetLane
  dsimp only
  have h1 := ((clearRuntime_touches (d.emptyQueue (laneQueue l)) l).seq
    (updLane_touches_lanes _ l (f := LaneRec.laneReset) (by intro; exact ⟨rfl, rfl, rfl⟩))).seq
    (setLaneState_touches _ l .closed)
  have h2 := ((h1.seq (adopt_touches _ l)).seq (updLane_touches_lanes _ l LaneRec.enterClosedWake_keeps)).seq
    (offerLaneState_touches _ l .closed .reset)
  have h3 := fun ns => h2.seq (.foldl (fun d n => abortWaiting_touches d n 3) ns _)
  exact ((((h3 _).seq (updTlu_touches _ _)).seq (updTlu_touches _ _)).seq (departKeymap_touches _ l)).mono (by decide)

theorem resetLane_touches (d : Device) (l : Fin 16) :
    Touches [.lanes, .states, .settings, .scanner, .trans, .keymaps, .ports, .queues, .entries, .offers, .consumers,
      .drawers, .kicks, .tlu] d (d.resetLane l) :=
  ((emptyQueue_touches d (laneQueue l)).seq (resetLane_touches_emptied d l)).mono (by decide)

theorem watchPoint_touches (a b : Bool) (rows : Byte) (l : Fin 16) (d : Device) :
    Touches [.lanes, .queues] d (watchPoint a b rows l d) := by
  unfold watchPoint
  split
  · exact .refl _ d
  · have h1 : Touches [.lanes, .queues] d _ :=
      ((updLane_touches_lanes d l (f := fun r => { r with watchTimer := some 8 })
        (by intro; exact ⟨rfl, rfl, rfl⟩)).seq
        (sampleLock_touches _ l (KeyLock.ofLines a b))).mono (by decide)
    dsimp only
    split
    · split
      · exact (h1.seq (wakeReading_touches _ l rows)).mono (by decide)
      · exact (h1.seq (updLane_touches_lanes _ l (by intro; exact ⟨rfl, rfl, rfl⟩))).mono (by decide)
    · exact h1.mono (by decide)

/-! ### The matrix scanner -/

theorem duePoint_touches (l : Fin 16) (d : Device) :
    Touches [.lanes, .states, .settings, .scanner, .trans, .keymaps, .ports, .queues, .tlu] d (duePoint l d) := by
  unfold duePoint
  dsimp only
  split
  · exact .refl _ d
  · split
    · split
      · exact (updScan_touches d l _).mono (by decide)
      · exact ((updScan_touches d l _).seq (depart_touches _ l _ _)).mono (by decide)
    · exact (updScan_touches d l _).mono (by decide)

theorem latchKey_touches (d : Device) (l : Fin 16) (p : Fin 128) :
    Touches [.scanner, .trans, .queues] d (d.latchKey l p) :=
  ((translateRelease_touches d l p).seq (updScan_touches _ l _)).mono (by decide)

theorem latchKeys_touches (d : Device) (l : Fin 16) (ps : List (Fin 128)) :
    Touches [.scanner, .trans, .queues] d (ps.foldl (fun d p => d.latchKey l p) d) :=
  .foldl (fun d p => latchKey_touches d l p) ps d

theorem applyAdopted_touches (d : Device) (l : Fin 16) : Touches [.scanner, .trans, .queues] d (d.applyAdopted l) :=
  ((updScan_touches d l _).seq (latchKeys_touches _ l _)).mono (by decide)

theorem startPass_touches (d : Device) (l : Fin 16) :
    Touches [.lanes, .settings, .scanner, .trans, .queues] d (d.startPass l) := by
  have h1 : Touches [.lanes, .settings, .scanner, .trans, .queues] d _ :=
    ((updScan_touches d l fun m => { m with waiting := false, discard := false }).seq
      (updScanner_touches _ fun m => { m with laneInPass := some l, lastServed := l })).mono (by decide)
  unfold Device.startPass
  dsimp only
  split
  · exact (((h1.seq (adopt_touches _ l)).seq (applyAdopted_touches _ l)).seq (updScanner_touches _ _)).mono
      (by decide)
  · exact (h1.seq (updScanner_touches _ _)).mono (by decide)

theorem passStart_touches (d : Device) : Touches [.lanes, .settings, .scanner, .trans, .queues] d (passStart d) := by
  unfold passStart
  split
  · exact startPass_touches d _
  · exact .refl _ d

theorem advanceRepeat_touches (d : Device) (l : Fin 16) (ps : List (Fin 128 × Bool)) :
    Touches [.trans, .queues] d (d.advanceRepeat l ps) := by
  have h1 := fun f => updTrans_touches d l f
  unfold Device.advanceRepeat
  dsimp only
  split
  · exact .refl _ d
  · split
    · exact .refl _ d
    · split
      · exact (h1 _).mono (by decide)
      · split
        · exact (h1 _).mono (by decide)
        · exact .ite ((h1 _).mono (by decide)) (((h1 _).seq (tell_touches _ _ _ (by rfl))).mono (by decide))

theorem passNotice_touches (d : Device) (l : Fin 16) (rs : List (Fin 128)) (ps : List (Fin 128 × Bool)) :
    Touches [.lanes, .trans, .queues, .drawers] d (d.passNotice l rs ps) := by
  unfold Device.passNotice
  have h1 := releases_touches d l rs
  have h2 := Touches.foldl (fun d (c : Fin 128 × Bool) => translatePress_touches d l c.1 c.2) ps
    (rs.foldl (fun d p => d.translateRelease l p) d)
  exact ((h1.seq h2).seq (advanceRepeat_touches _ l ps)).mono (by decide)

theorem quietSwitch_touches (d : Device) (l : Fin 16) : Touches [.keymaps, .queues] d (d.quietSwitch l) := by
  unfold Device.quietSwitch
  dsimp only
  split
  · exact .ite (switchKeymap_touches d l _ false) (.refl _ d)
  · exact .refl _ d

theorem completePass_touches (d : Device) (l : Fin 16) (raw : BitVec 128) (lock : KeyLock) :
    Touches [.lanes, .scanner, .trans, .keymaps, .queues, .drawers] d (d.completePass l raw lock) := by
  unfold Device.completePass
  dsimp only
  exact ((((updScan_touches d l _).seq (sampleLock_touches _ l lock)).seq (passNotice_touches _ l _ _)).seq
    (quietSwitch_touches _ l)).mono (by decide)

theorem takeDueReadings_touches (d : Device) (wake : BitVec 128) :
    Touches [.lanes, .queues] d (d.takeDueReadings wake) :=
  .foldl (fun d l => wakeReading_touches d l (wakeRows wake l)) _ d

theorem passEnd_touches (raw : BitVec 128) (lock : KeyLock) (wake : BitVec 128) (d : Device) :
    Touches [.lanes, .scanner, .trans, .keymaps, .queues, .drawers] d (passEnd raw lock wake d) := by
  unfold passEnd
  split
  · exact .refl _ d
  · dsimp only
    refine Touches.trans ?_ (((updScanner_touches _ _).seq (takeDueReadings_touches _ wake)).mono (by decide))
    split
    · exact (updScan_touches d _ _).mono (by decide)
    · exact completePass_touches d _ raw lock

theorem forcedSwitch_touches (l : Fin 16) (d : Device) :
    Touches [.scanner, .trans, .keymaps, .queues] d (forcedSwitch l d) := by
  unfold forcedSwitch
  split
  · exact (((latchKeys_touches d l _).seq (updScan_touches _ l _)).seq (switchKeymap_touches _ l _ _)).mono
      (by decide)
  · exact .refl _ d

theorem assignKeymap_touches (d : Device) (l : Fin 16) (i : Fin 8) :
    Touches [.keymaps, .queues] d (d.assignKeymap l i) := by
  unfold Device.assignKeymap
  exact .ite ((updKeymaps_touches d _).mono (by decide)) (.ite (switchKeymap_touches d l i false)
    ((updKeymaps_touches d _).mono (by decide)))

theorem updImage_touches (d : Device) (i : Fin 8) (f : Image → Image) : Touches [.keymaps] d (d.updImage i f) :=
  updKeymaps_touches d _

theorem verifyWalkEnd_touches (d : Device) : Touches [.keymaps, .trunk] d (verifyWalkEnd d) := by
  have h1 := updKeymaps_touches d fun k => { k with verify := none }
  unfold verifyWalkEnd
  split
  · exact .refl _ d
  · exact .ite (((h1.seq (updImage_touches _ _ _)).seq (reply_touches _ _)).mono (by decide))
      ((h1.seq (reply_touches _ _)).mono (by decide))

/-! ### Scanner ports and the classifier -/

theorem countMatch_touches (d : Device) (m : Option (Fin 32)) : Touches [.rules] d (d.countMatch m) := by
  cases m with
  | some i => exact updRules_touches d _
  | none => exact .refl _ d

theorem classify_touches (d : Device) (n : Fin 32) (b : BufferId) :
    Touches [.ports, .rules, .queues, .entries, .tlu] d (d.classify n b) := by
  have h1 := fun m => countMatch_touches d m
  unfold Device.classify
  dsimp only
  split
  · exact (((h1 _).seq (updPort_touches _ n _)).seq (updPort_touches _ n _)).mono (by decide)
  · exact (((h1 _).seq (offer_touches _ _ _)).seq (requestToneOpt_touches _ _ _)).mono (by decide)

theorem faultNotice_bufferless (n : Fin 32) (p : Port) (k : Nat) : (faultNotice n p k).body.bufferless = true := by
  unfold faultNotice
  split <;> rfl

theorem recordEnd_touches (d : Device) (n : Fin 32) (b : BufferId) :
    Touches [.ports, .rules, .queues, .entries, .tlu] d (d.recordEnd n b) := by
  have h1 := updPort_touches d n Port.countRecord
  unfold Device.recordEnd
  dsimp only
  refine Touches.trans ?_ ((updPort_touches _ n _).mono (by decide))
  split
  · exact ((h1.seq (tell_touches _ _ _ (faultNotice_bufferless n _ _))).seq (updPort_touches _ n _)).mono (by decide)
  · exact ((h1.seq (updPort_touches _ n _)).seq (classify_touches _ n b)).mono (by decide)

theorem recordChar_touches (d : Device) (n : Fin 32) (b : BufferId) (c : Byte) (good : Bool) :
    Touches [.ports, .rules, .queues, .entries, .tlu] d (d.recordChar n b c good) := by
  unfold Device.recordChar
  exact .ite (.ite (recordEnd_touches d n b) (.refl _ d)) ((updPort_touches d n _).mono (by decide))

theorem scannerCharacter_touches (c : Byte) (good : Bool) (n : Fin 32) (d : Device) :
    Touches [.ports, .rules, .queues, .entries, .tlu] d (scannerCharacter c good n d) := by
  have h1 := updPort_touches d n fun p => { p with charRate := none }
  have h2 := fun f => h1.seq (updPort_touches _ n f)
  unfold scannerCharacter
  dsimp only
  split
  · exact (h1.seq (recordChar_touches _ n _ c good)).mono (by decide)
  · exact (h2 _).mono (by decide)
  · split
    · exact (h1.seq (recordChar_touches _ n _ c good)).mono (by decide)
    · exact (h2 _).mono (by decide)
  · exact (h2 _).mono (by decide)
  · exact (h2 _).mono (by decide)

theorem idleExpiry_touches (n : Fin 32) (d : Device) : Touches [.ports, .rules, .queues, .entries, .tlu] d
  (idleExpiry n d) :=
  by
  unfold idleExpiry
  dsimp only
  split
  · exact .ite (recordEnd_touches d n _) (.refl _ d)
  · exact .refl _ d

/-! ### The event pool and the consumers -/

theorem discardHead_touches (d : Device) (q : Fin 17) (e : Entry) (s : SortedSet) :
    Touches [.queues, .entries, .offers, .slots, .consumers, .ports] d (d.discardHead q e s) :=
  ((((updPend_touches d q _).seq (releaseBody_touches _ e.body)).seq (updPool_touches _ _)).seq
    (flagRefused_touches _ s)).mono (by decide)

theorem admitHead_touches (d : Device) (q : Fin 17) (e : Entry) (s : SortedSet) (k : Fin 512)
    (rest : List (Fin 512)) : Touches [.queues, .entries, .offers, .slots, .consumers, .ports] d (d.admitHead q e s k rest) :=
  (((updPool_touches d _).seq (releaseBody_touches _ e.body)).seq (updDelivery_touches_consumers _ _)).mono
    (by decide)

theorem attempt_touches (d : Device) (q : Fin 17) :
    Touches [.queues, .entries, .offers, .slots, .consumers, .ports] d (d.attempt q) := by
  have h1 : Touches [.queues, .entries, .offers, .slots, .consumers, .ports] d
    (d.updPool fun p => { p with lastServed := q }) :=
  (updPool_touches d _).mono (by decide)
  unfold Device.attempt
  split
  · exact .refl _ d
  · dsimp only
    split
    · exact (h1.seq (discardHead_touches _ q _ _)).mono (by decide)
    · split
      · exact (h1.seq (updPend_touches _ q _)).mono (by decide)
      · exact .ite ((h1.seq (admitHead_touches _ q _ _ _ _)).mono (by decide))
          ((h1.seq (updPend_touches _ q _)).mono (by decide))

theorem admission_touches (d : Device) : Touches [.queues, .entries, .offers, .slots, .consumers, .ports] d (admission d) := by
  unfold admission
  split
  · exact attempt_touches d _
  · exact .refl _ d

theorem limitExpiry_touches (q : Fin 17) (d : Device) :
    Touches [.queues, .entries, .offers, .consumers, .ports] d (limitExpiry q d) := by
  have h1 := fun e => (updPend_touches d q PendLane.popHead).seq (loseEntry_touches _ q e)
  unfold limitExpiry
  dsimp only
  split
  · split
    · exact ((h1 _).seq (flagMembers_touches _ _)).mono (by decide)
    · exact (h1 _).mono (by decide)
  · exact .refl _ d

theorem setDepth_touches (d : Device) (c : Fin 8) (depth : Nat) :
    Touches [.slots, .consumers] d (d.setDepth c depth) :=
  ((giveUpAll_touches d _).seq (changeConsumer_touches _ c _)).mono (by decide)

theorem deactivate_touches (d : Device) (c : Fin 8) : Touches [.slots, .consumers] d (d.deactivate c) :=
  ((flush_touches d c).seq (changeConsumer_touches _ c _)).mono (by decide)

theorem activate_touches (d : Device) (c : Fin 8) : Touches [.consumers] d (d.activate c) :=
  changeConsumer_touches d c _

theorem stallExpiry_touches (c : Fin 8) (d : Device) : Touches [.slots, .consumers, .queues] d (stallExpiry c d) := by
  unfold stallExpiry
  split
  · exact .refl _ d
  · exact (((giveUpAll_touches d _).seq (changeConsumer_touches _ c _)).seq (tell_touches _ _ _ (by rfl))).mono
      (by decide)

theorem credit_touches (d : Device) (c : Fin 8) (n : Nat) :
    Touches [.consumers, .queues, .trunk] d (d.credit c n) := by
  unfold Device.credit
  split
  · exact (updTrunk_touches d _).mono (by decide)
  · exact (changeConsumer_touches d c _).mono (by decide)
  · exact ((changeConsumer_touches d c _).seq (tell_touches _ _ _ (by rfl))).mono (by decide)

theorem creditTo_touches (d : Device) (c n : Nat) : Touches [.consumers, .queues, .trunk] d (d.creditTo c n) := by
  unfold Device.creditTo
  split
  · exact credit_touches d _ n
  · exact (updTrunk_touches d _).mono (by decide)

theorem takeFrame_touches (d : Device) (c : Fin 8) (r : Fin 512) (u : Bool) :
    Touches [.delivery, .consumers, .slots] d (d.takeFrame c r u) :=
  (((updDelivery_touches d _).seq (changeConsumer_touches _ c _)).seq
    (updPool_touches_slots _ (Pool.giveUp_lanes _ r))).mono (by decide)

theorem Delivery.walkStep_consumers (u : Delivery) : u.walkStep.consumers = u.consumers := by
  unfold Delivery.walkStep
  split
  · rfl
  · split
    · split <;> rfl
    · rfl
    · split <;> rfl
    · split <;> rfl

theorem walkEnd_touches (d : Device) : Touches [.delivery, .trunk] d d.walkEnd := by
  unfold Device.walkEnd
  split
  · exact .refl _ d
  · exact .ite (((updDelivery_touches_delivery d rfl).seq (reply_touches _ _)).mono (by decide)) (.refl _ d)

/-! ### Drawers -/

theorem stabilityExpiry_touches (n : Fin 32) (d : Device) :
    Touches [.queues, .drawers, .kicks] d (stabilityExpiry n d) := by
  have h1 := fun f => updDrawer_touches d n f
  unfold stabilityExpiry
  dsimp only
  split
  · exact .refl _ d
  · exact .ite (((h1 _).seq (updDrawer_touches _ n _)).mono (by decide))
      (.ite ((h1 _).mono (by decide)) (.ite (((h1 _).seq (opening_touches _ n)).mono (by decide))
      (((h1 _).seq (closing_touches _ n)).mono (by decide))))

theorem pulseEnd_touches (n : Fin 32) (d : Device) : Touches [.queues, .drawers, .kicks] d (pulseEnd n d) := by
  have h1 : Touches [.queues, .drawers, .kicks] d (d.updDrawers fun u => u.releaseUnit n) :=
    (updDrawers_touches d _).mono
    (by decide)
  unfold pulseEnd
  exact .ite (.ite (((h1.seq (updDrawer_touches _ n _)).seq (tell_touches _ _ _ (by rfl))).mono (by decide))
    ((h1.seq (updDrawer_touches _ n _)).mono (by decide))) (.refl _ d)

theorem confirmTimeout_touches (n : Fin 32) (d : Device) : Touches [.queues, .drawers, .kicks] d
  (confirmTimeout n d) :=
  .ite (((updDrawer_touches d n _).seq (tell_touches _ _ _ (by rfl))).mono (by decide)) (.refl _ d)

theorem openTooLong_touches (n : Fin 32) (d : Device) : Touches [.queues, .drawers, .kicks, .tlu] d
  (openTooLong n d) := by
  unfold openTooLong
  dsimp only
  split
  · exact .refl _ d
  · exact ((((updDrawer_touches d n _).seq (tell_touches _ _ _ (by rfl))).seq (requestTone_touches _ _ _)).seq
      (updDrawer_touches _ n _)).mono (by decide)

theorem kickGrant_touches (d : Device) : Touches [.drawers, .kicks] d (kickGrant d) := by
  unfold kickGrant
  split
  · exact updDrawers_touches d _
  · exact .refl _ d

theorem supplyFall_touches (d : Device) : Touches [.queues, .drawers, .kicks] d (supplyFall d) := by
  have h1 : Touches [.queues, .drawers, .kicks] d _ :=
    (updDrawers_touches d fun u => { u with supplyHigh := false }).mono (by decide)
  exact .ite (.ite ((h1.seq (supplyFaultTaken_touches _)).mono (by decide)) h1) (.refl _ d)

theorem setLamp_touches (d : Device) (l : Fin 16) (m : Option LampMode) (s : Bool) :
    Touches [.tlu] d (d.setLamp l m s) := .ite (updTlu_touches d _) (updTlu_touches d _)

end Sys2Proof.Machine

/-! ## The effect of each row: what a command can make of the part -/

namespace Sys2Proof.Machine

/-- The two rows that take a SET-DRAWER request (notes/assumptions/8.md). -/
def setDrawerRow : Bool → Instr
  | false => .setDrawerDrawer
  | true => .setDrawerSupply

/-- What the command of a row can make of the part, apart from the taking and the answering of a request. Each
constructor has the facts that the row has tested; a row that may not be taken now, a refused request and one that only
reports change nothing. -/
inductive Act : Instr → Device → Device → Prop
  | nothing (c d) : Act c d d
  | openLane (l d) (hs : d.lanes[l].state = .closed) (hk : d.keymaps.lanes[l].active.isSome) :
      Act .openLane d (d.openLane l)
  | suspendLane (l d) (hs : d.lanes[l].state = .opened) : Act .suspendLane d (d.suspendLane l)
  | resumeLane (l d) (hs : d.lanes[l].state = .suspended) : Act .resumeLane d (d.resumeLane l)
  | closeLane (l d) (hs : d.lanes[l].state.scanning = true) : Act .closeLane d (d.depart l .closed .request)
  | closeFaulted (l d) (hs : d.lanes[l].state = .faulted) : Act .closeLane d (d.closeFaulted l)
  | resetLane (l d) : Act .resetLane d (d.resetLane l)
  | setPending (l) (g : Settings) (d) (hs : d.lanes[l].state.scanning = true) :
      Act .setLane d (d.updLane l fun r => { r with pendingSet := some g.clamped })
  | setAtOnce (l) (g : Settings) (d) (hs : d.lanes[l].state.scanning = false) :
      Act .setLane d ((d.updLane l fun r => { r with pendingSet := some g.clamped }).adopt l)
  | setScan (n d) : Act .setScan d (d.updScanner fun m => { m with dwell := n })
  | readKeys (l d) : Act .readKeys d (d.updScan l fun m => { m with missCount := 0 })
  | writeKeymap (i) (t : Table KeyEntry 512 → Table KeyEntry 512) (d) (hu : d.keymaps.inUse i = false) :
      Act .writeKeymap d (d.updImage i fun m => Image.mk (t m.entries) .opened)
  | verifyKeymap (w d) : Act .verifyKeymap d (d.updKeymaps fun k => { k with verify := some w })
  | verifyWalkEnd (d) : Act .verifyWalkEnd d (verifyWalkEnd d)
  | eraseKeymap (i d) (hu : d.keymaps.inUse i = false) : Act .eraseKeymap d (d.updImage i fun _ => emptyImage)
  | assignKeymap (l i d) (hr : d.keymaps.images[i].state = .ready) : Act .assignKeymap d (d.assignKeymap l i)
  | setPort (n rate term gap on d) : Act .setPort d (d.updPort n fun p =>
      { p with bitRate := rate, terminator := term, idleGap := gap, enable := on }.follow
        (on && d.lanes[laneOf n].state == LaneState.opened))
  | readPort (n d) : Act .readPort d (d.updPort n Port.zeroCounters)
  | writeRule (i : Fin 32) (r d) : Act .writeRule d (d.updRules fun k =>
    { k with shadow := k.shadow.set i { rule := r, hits := 0 } })
  | readShadow (i d) : Act .readRule d (d.updRules fun k => { k with shadow := zeroHits k.shadow i })
  | readActive (i d) : Act .readRule d (d.updRules fun k => { k with active := zeroHits k.active i })
  | commitRules (d) : Act .commitRules d (d.updRules fun k => { active := k.shadow, shadow := k.active })
  | setAdmission (r m d) : Act .setAdmission d (d.updPool fun p => { p with reserve := r, limit := m })
  | readPool (d) : Act .readPool d (d.updPool Pool.cleared)
  | tableWrite (i : Fin 64) (e d) : Act .tableWrite d (d.updDelivery fun u => { u with table := u.table.set i e })
  | tableDelete (i : Fin 64) (d) : Act .tableDelete d (d.updDelivery fun u =>
    { u with table := u.table.set i zeroTableEntry })
  | tableSearch (w d) : Act .tableSearch d (d.updDelivery fun u => { u with walk := some w })
  | tableClear (w d) : Act .tableClear d (d.updDelivery fun u => { u with walk := some w })
  | tableWalkStep (d) : Act .tableWalkStep d (d.updDelivery Delivery.walkStep)
  | tableWalkEnd (d) : Act .tableWalkEnd d d.walkEnd
  | setUnmatched (p m d) : Act .setUnmatched d (d.updDelivery fun u => { u with policy := p, defaultSet := m })
  | setActive (c dep d) : Act .setConsumer d ((d.setDepth c (clampTo 4 255 dep)).activate c)
  | setInactive (c dep d) : Act .setConsumer d ((d.setDepth c (clampTo 4 255 dep)).deactivate c)
  | flushConsumer (c d) : Act .flushConsumer d (d.flush c)
  | setStall (i r d) : Act .setStall d (d.updDelivery fun u => { u with stallInterval := i, stallRobust := r })
  | readConsumer (c d) : Act .readConsumer d (d.updConsumer c fun k => { k with drops := 0 })
  | kick (n d) : Act .kick d (d.requestKick n .request).1
  | clearInhibit (d) : Act .clearInhibit d (d.updDrawers fun u => { u with inhibit := false })
  | setDrawer (row n on pulse confirm limit d) (hb : on = true ∨ d.drawers.drawers[n].busy = false) :
      Act (setDrawerRow row) d (d.updDrawer n fun w =>
        ({ w with pulseWidth := pulse, confirmTime := confirm }.setOpenLimit limit).setPresence on)
  | setSupply (row k gap on d) (hh : (on && !d.drawers.supplyHigh) = false) :
      Act (setDrawerRow row) d (d.updDrawers fun u =>
        { u with supplyGap := gap, monitor := on }.applyLimit (clampTo 1 8 k))
  | setSupplyFault (row k gap on d) : Act (setDrawerRow row) d (d.updDrawers fun u =>
        { u with supplyGap := gap, monitor := on }.applyLimit (clampTo 1 8 k)).supplyFaultTaken
  | clearCounter (n d) : Act .clearCounter d (d.updDrawer n fun w => { w with openCount := 0 })
  | writeTone (e : Fin 8) (t d) : Act .writeTone d (d.updTlu fun u => { u with tones := u.tones.set e t })
  | playTone (l e d) : Act .playTone d (d.requestTone l e)
  | stopTone (l d) : Act .stopTone d (d.updGen l Generator.stop)
  | setLamp (l m s d) : Act .setLamp d (d.setLamp l m s)
  | status (d) : Act .status d (d.updTrunk Trunk.zeroCounters)
  | setTime (t d) : Act .setTime d (d.updTrunk fun k => { k with clock := t })
  | deviceReset (d) : Act .deviceReset d (d.updTrunk fun k => { k with takingClosed := true })
  | requestFrame (b d) : Act (.requestFrame b) d (requestFrame b d)
  | creditFrame (b d) (c n : Nat) (hn : n ≤ 255) :
      Act (.creditFrame b) d ((d.updTrunk fun t => t.waitIdle true).creditTo c n)
  | frameRejected (b d) : Act (.frameRejected b) d (frameRejected b d)
  | frameAbandoned (c d) : Act (.frameAbandoned c) d (frameAbandoned c d)
  | waitIdleCharacter (d) : Act .waitIdleCharacter d (d.updTrunk Trunk.waitCharacter)
  | receiverIdle (d) : Act .receiverIdle d (d.updTrunk Trunk.idleSeen)
  | sendReply (r rest d) (hr : d.trunk.replies = r :: rest) : Act .transmitChoice d
      (d.updTrunk fun t => { t with replies := rest, transmitter := .sending (.reply r) })
  | sendEvent (c r urgent f d) (hc : d.delivery.chooseFrame = some (c, r, urgent))
      (hf : d.eventFrame c r urgent = some f) : Act .transmitChoice d
      ((d.takeFrame c r urgent).updTrunk fun t => { t with transmitter := .sending f })
  | frameEnd (i d) : Act (.transmitFrameEnd i) d (d.updTrunk fun t => { t with transmitter := .gap })
  | trunkReset (i d) : Act (.transmitFrameEnd i) d (startUp .trunk i)
  | transmitGapEnd (d) : Act .transmitGapEnd d (d.updTrunk Trunk.gapEnd)
  | powerOn (i d) : Act (.powerOn i) d (startUp .powerOn i)
  | powerOnHeld (i d) : Act (.powerOn i) d (heldInReset i)
  | resetPinLow (i d) : Act .resetPinLow d (heldInReset i)
  | resetPinRise (i d) : Act (.resetPinRise i) d (startUp .pin i)
  | duePoint (l : Fin 16) (d) : Act (.duePoint l) d (duePoint l d)
  | passStart (d) : Act .passStart d (passStart d)
  | passEnd (raw a b wake d) : Act (.passEnd raw a b wake) d (passEnd raw (KeyLock.ofLines a b) wake d)
  | forcedSwitch (l : Fin 16) (d) : Act (.forcedKeymapSwitch l) d (forcedSwitch l d)
  | watchPoint (l : Fin 16) (a b rows d) : Act (.watchPoint l a b rows) d (watchPoint a b rows l d)
  | holdOffExpiry (l : Fin 16) (d) : Act (.wakeHoldOffExpiry l) d (holdOffExpiry l d)
  | tenderExpiry (l : Fin 16) (d) : Act (.tenderTimerExpiry l) d (tenderExpiry l d)
  | scannerCharacter (n : Fin 32) (c good d) : Act (.scannerCharacter n c good) d (scannerCharacter c good n d)
  | idleExpiry (n : Fin 32) (d) : Act (.idleGapExpiry n) d (idleExpiry n d)
  | admission (d) : Act .admissionAttempt d (admission d)
  | limitExpiry (q : Fin 17) (d) : Act (.admissionLimitExpiry q) d (limitExpiry q d)
  | stallExpiry (c : Fin 8) (d) : Act (.stallTimerExpiry c) d (stallExpiry c d)
  | senseChange (n : Fin 32) (o d) : Act (.senseChange n o) d (senseChange o n d)
  | stabilityExpiry (n : Fin 32) (d) : Act (.stabilityTimerExpiry n) d (stabilityExpiry n d)
  | kickGrant (d) : Act .kickGrant d (kickGrant d)
  | pulseEnd (n : Fin 32) (d) : Act (.pulseEnd n) d (pulseEnd n d)
  | confirmTimeout (n : Fin 32) (d) : Act (.confirmTimeout n) d (confirmTimeout n d)
  | unitRecovered (i : Fin 8) (d) : Act (.unitRecovered i) d (unitRecovered i d)
  | openTooLong (n : Fin 32) (d) : Act (.openTooLong n) d (openTooLong n d)
  | supplyFall (d) : Act .supplyFault d (supplyFall d)
  | supplyRise (d) : Act .supplyLineRise d (supplyRise d)
  | phaseEnd (l : Fin 16) (d) : Act (.tonePhaseEnd l) d (phaseEnd l d)
  | lampBoundary (l : Fin 16) (d) : Act (.lampBoundary l) d (lampBoundary l d)
  | startBit (n : Fin 32) (d) : Act (.scannerStartBit n) d (startBit n d)
  | storeCharacter (c d) : Act (.trunkCharacterStored c) d (d.updTrunk fun t => t.storeCharacter c)

/-- The request has been taken by the row, which did its act, and has been answered or is still in progress. -/
def Requested (c : Instr) (d e : Device) : Prop :=
  ∃ r x, d.trunk.takeable = some r ∧ Act c (d.begin r) x ∧ (e = x ∨ ∃ a, e = x.reply a)

/-! ### The request rows -/

theorem answer_fst (d : Device) (c : ReplyCode) (fs : List Byte) : (answer d c fs).1 = d := rfl

theorem resetLaneReq_act (l : Fin 16) (d : Device) : Act .resetLane d (answer (d.resetLane l) .done).1 := by
  rw [answer_fst]
  exact .resetLane l d

theorem onLane_act {c : Instr} {carry : Fin 16 → Device → Carried} (h : ∀ l d, Act c d (carry l d).1)
    (fs : List Byte) (d : Device) : Act c d (onLane carry fs d).1 := by
  unfold onLane
  split
  · split
    · exact h _ d
    · exact .nothing c d
  · exact .nothing c d

theorem onDrawer_act {c : Instr} {carry : Fin 32 → Device → Carried} (h : ∀ n d, Act c d (carry n d).1)
    (fs : List Byte) (d : Device) : Act c d (onDrawer carry fs d).1 := by
  unfold onDrawer
  split
  · split
    · exact h _ d
    · exact .nothing c d
  · exact .nothing c d

theorem openLaneReq_act (l : Fin 16) (d : Device) : Act .openLane d (openLaneReq l d).1 := by
  unfold openLaneReq
  split
  · exact .nothing _ d
  · split
    · exact .nothing _ d
    · next hs hk => exact .openLane l d hs (by simpa [Option.isSome_iff_ne_none] using hk)
  all_goals exact .nothing _ d

theorem suspendLaneReq_act (l : Fin 16) (d : Device) : Act .suspendLane d (suspendLaneReq l d).1 := by
  unfold suspendLaneReq
  split
  · next hs => exact .suspendLane l d hs
  · exact .nothing _ d

theorem resumeLaneReq_act (l : Fin 16) (d : Device) : Act .resumeLane d (resumeLaneReq l d).1 := by
  unfold resumeLaneReq
  split
  · next hs => exact .resumeLane l d hs
  · exact .nothing _ d

theorem closeLane_act (fs : List Byte) (d : Device) : Act .closeLane d (closeLane fs d).1 := by
  have hdep : ∀ (l : Fin 16) (f : Bool), d.lanes[l].state.scanning = true → Act .closeLane d
      (if d.drawerOpen l && !f then refuse d .refusedState else answer (d.depart l .closed .request) .done).1 := by
    intro l f hs
    split
    · exact .nothing _ d
    · rw [answer_fst]
      exact .closeLane l d hs
  unfold closeLane
  split
  · split
    · split
      · next hs => exact hdep _ _ (by rw [hs]; rfl)
      · next hs => exact hdep _ _ (by rw [hs]; rfl)
      · next hs =>
        rw [answer_fst]
        exact .closeFaulted _ d hs
      · exact .nothing _ d
    · exact .nothing _ d
  · exact .nothing _ d

theorem setLane_act (fs : List Byte) (d : Device) : Act .setLane d (setLane fs d).1 := by
  unfold setLane
  split
  · split
    · dsimp only [answer]
      split
      · next hs => exact .setPending _ _ d hs
      · next hs => exact .setAtOnce _ _ d (by simpa using hs)
    · exact .nothing _ d
  · exact .nothing _ d

theorem readLane_act (fs : List Byte) (d : Device) : Act .readLane d (readLane fs d).1 := by
  unfold readLane
  split
  · split <;> exact .nothing _ d
  · exact .nothing _ d

theorem setScan_act (fs : List Byte) (d : Device) : Act .setScan d (setScan fs d).1 := by
  unfold setScan
  split
  · exact .setScan _ d
  · exact .nothing _ d

theorem readKeys_act (fs : List Byte) (d : Device) : Act .readKeys d (readKeys fs d).1 := by
  unfold readKeys
  split
  · split
    · dsimp only [answer]
      split
      · exact .readKeys _ d
      · exact .nothing _ d
    · exact .nothing _ d
  · exact .nothing _ d

theorem writeKeymap_act (fs : List Byte) (d : Device) : Act .writeKeymap d (writeKeymap fs d).1 := by
  unfold writeKeymap
  split
  · split
    · split
      · exact .nothing _ d
      · split
        · exact .nothing _ d
        · next hu => exact .writeKeymap _ (fun t => storeEntries t _ _) d (by simpa using hu)
    · exact .nothing _ d
  · exact .nothing _ d

theorem readKeymap_act (fs : List Byte) (d : Device) : Act .readKeymap d (readKeymap fs d).1 := by
  unfold readKeymap
  split
  · split
    · split <;> exact .nothing _ d
    · exact .nothing _ d
  · exact .nothing _ d

theorem verifyKeymap_act (fs : List Byte) (d : Device) : Act .verifyKeymap d (verifyKeymap fs d).1 := by
  unfold verifyKeymap
  split
  · split
    · split
      · exact .nothing _ d
      · exact .verifyKeymap _ d
    · exact .nothing _ d
  · exact .nothing _ d

theorem eraseKeymap_act (fs : List Byte) (d : Device) : Act .eraseKeymap d (eraseKeymap fs d).1 := by
  unfold eraseKeymap
  split
  · split
    · split
      · exact .nothing _ d
      · next hu => exact .eraseKeymap _ d (by simpa using hu)
    · exact .nothing _ d
  · exact .nothing _ d

theorem assignKeymap_act (fs : List Byte) (d : Device) : Act .assignKeymap d (assignKeymap fs d).1 := by
  unfold assignKeymap
  split
  · split
    · split
      · next hr => exact .assignKeymap _ _ d hr
      · exact .nothing _ d
    · exact .nothing _ d
  · exact .nothing _ d

theorem setPort_act (fs : List Byte) (d : Device) : Act .setPort d (setPort fs d).1 := by
  unfold setPort
  split
  · split
    · exact .setPort _ _ _ _ _ d
    · exact .nothing _ d
  · exact .nothing _ d

theorem readPort_act (fs : List Byte) (d : Device) : Act .readPort d (readPort fs d).1 := by
  unfold readPort
  split
  · split
    · dsimp only [answer]
      split
      · exact .readPort _ d
      · exact .nothing _ d
    · exact .nothing _ d
  · exact .nothing _ d

theorem writeRule_act (fs : List Byte) (d : Device) : Act .writeRule d (writeRule fs d).1 := by
  unfold writeRule
  split
  · split
    · split
      · exact .nothing _ d
      · exact .writeRule _ _ d
    · exact .nothing _ d
  · exact .nothing _ d

theorem readRule_act (fs : List Byte) (d : Device) : Act .readRule d (readRule fs d).1 := by
  unfold readRule
  split
  · split
    · dsimp only [answer]
      split
      · exact .nothing _ d
      · split
        · exact .readShadow _ d
        · exact .readActive _ d
    · exact .nothing _ d
  · exact .nothing _ d

theorem commitRules_act (fs : List Byte) (d : Device) : Act .commitRules d (commitRules fs d).1 := by
  unfold commitRules
  split
  · exact .commitRules d
  · exact .nothing _ d

theorem setAdmission_act (fs : List Byte) (d : Device) : Act .setAdmission d (setAdmission fs d).1 := by
  unfold setAdmission
  split
  · exact .setAdmission _ _ d
  · exact .nothing _ d

theorem readPool_act (fs : List Byte) (d : Device) : Act .readPool d (readPool fs d).1 := by
  unfold readPool
  split
  · split
    · dsimp only [answer]
      split
      · exact .readPool d
      · exact .nothing _ d
    · exact .nothing _ d
  · exact .nothing _ d

theorem tableRead_act (fs : List Byte) (d : Device) : Act .tableRead d (tableRead fs d).1 := by
  unfold tableRead
  split
  · split
    · dsimp only
      split <;> exact .nothing _ d
    · exact .nothing _ d
  · exact .nothing _ d

theorem tableWrite_act (fs : List Byte) (d : Device) : Act .tableWrite d (tableWrite fs d).1 := by
  unfold tableWrite
  split
  · split
    · exact .tableWrite _ _ d
    · exact .nothing _ d
  · exact .nothing _ d

theorem tableDelete_act (fs : List Byte) (d : Device) : Act .tableDelete d (tableDelete fs d).1 := by
  unfold tableDelete
  split
  · split
    · split
      · exact .tableDelete _ d
      · exact .nothing _ d
    · exact .nothing _ d
  · exact .nothing _ d

theorem tableSearch_act (fs : List Byte) (d : Device) : Act .tableSearch d (tableSearch fs d).1 := by
  unfold tableSearch
  split
  · split
    · split
      · exact .tableSearch _ d
      · exact .nothing _ d
    · exact .nothing _ d
  · exact .nothing _ d

theorem tableClear_act (fs : List Byte) (d : Device) : Act .tableClear d (tableClear fs d).1 := by
  unfold tableClear
  split
  · split
    · split
      · exact .tableClear _ d
      · exact .nothing _ d
    · split
      · split
        · exact .tableClear _ d
        · exact .nothing _ d
      · exact .nothing _ d
  · exact .nothing _ d

theorem setUnmatched_act (fs : List Byte) (d : Device) : Act .setUnmatched d (setUnmatched fs d).1 := by
  unfold setUnmatched
  split
  · split
    · exact .setUnmatched _ _ d
    · exact .nothing _ d
  · exact .nothing _ d

theorem setConsumer_act (fs : List Byte) (d : Device) : Act .setConsumer d (setConsumer fs d).1 := by
  unfold setConsumer
  split
  · split
    · dsimp only [answer]
      split
      · exact .setActive _ _ d
      · exact .setInactive _ _ d
    · exact .nothing _ d
  · exact .nothing _ d

theorem flushConsumer_act (fs : List Byte) (d : Device) : Act .flushConsumer d (flushConsumer fs d).1 := by
  unfold flushConsumer
  split
  · split
    · exact .flushConsumer _ d
    · exact .nothing _ d
  · exact .nothing _ d

theorem setStall_act (fs : List Byte) (d : Device) : Act .setStall d (setStall fs d).1 := by
  unfold setStall
  split
  · exact .setStall _ _ d
  · exact .nothing _ d

theorem readConsumer_act (fs : List Byte) (d : Device) : Act .readConsumer d (readConsumer fs d).1 := by
  unfold readConsumer
  split
  · split
    · dsimp only [answer]
      split
      · exact .readConsumer _ d
      · exact .nothing _ d
    · exact .nothing _ d
  · exact .nothing _ d

theorem clearInhibit_act (fs : List Byte) (d : Device) : Act .clearInhibit d (clearInhibit fs d).1 := by
  unfold clearInhibit
  split
  · split
    · exact .nothing _ d
    · exact .clearInhibit d
  · exact .nothing _ d

theorem setDrawer_act (row : Bool) (fs : List Byte) (d : Device) : Act (setDrawerRow row) d (setDrawer fs d).1 := by
  have hform : ∀ fs, Act (setDrawerRow row) d (setDrawerForm fs d).1 := by
    intro fs
    unfold setDrawerForm
    split
    · split
      · split
        · exact .nothing _ d
        · next hb => exact .setDrawer row _ _ _ _ _ d (by simpa [or_iff_not_imp_left] using hb)
      · exact .nothing _ d
    · exact .nothing _ d
  have hsupply : ∀ fs, Act (setDrawerRow row) d (setSupplyForm fs d).1 := by
    intro fs
    unfold setSupplyForm
    split
    · split
      · dsimp only [answer]
        split
        · exact .setSupplyFault row _ _ _ d
        · next hh =>
          refine .setSupply row _ _ _ d ?_
          have hline : ∀ (u : DrawerUnit) k, (u.applyLimit k).supplyHigh = u.supplyHigh := by
            intro u k; unfold DrawerUnit.applyLimit; split <;> rfl
          simpa [hline] using hh
      · exact .nothing _ d
    · exact .nothing _ d
  unfold setDrawer
  split
  · split
    · exact hform _
    · exact hsupply _
    · exact .nothing _ d
  · exact .nothing _ d

theorem writeTone_act (fs : List Byte) (d : Device) : Act .writeTone d (writeTone fs d).1 := by
  unfold writeTone
  split
  · split
    · exact .writeTone _ _ d
    · exact .nothing _ d
  · exact .nothing _ d

theorem playTone_act (fs : List Byte) (d : Device) : Act .playTone d (playTone fs d).1 := by
  unfold playTone
  split
  · split
    · exact .playTone _ _ d
    · exact .nothing _ d
  · exact .nothing _ d

theorem setLamp_act (fs : List Byte) (d : Device) : Act .setLamp d (setLamp fs d).1 := by
  unfold setLamp
  split
  · split
    · exact .setLamp _ _ _ d
    · exact .nothing _ d
  · exact .nothing _ d

theorem status_act (fs : List Byte) (d : Device) : Act .status d (status fs d).1 := by
  unfold status
  split
  · split
    · dsimp only [answer]
      split
      · exact .status d
      · exact .nothing _ d
    · exact .nothing _ d
  · exact .nothing _ d

theorem setTime_act (fs : List Byte) (d : Device) : Act .setTime d (setTime fs d).1 := by
  unfold setTime
  split
  · exact .setTime _ d
  · exact .nothing _ d

theorem deviceReset_act (fs : List Byte) (d : Device) : Act .deviceReset d (deviceReset fs d).1 := by
  unfold deviceReset
  split
  · exact .deviceReset d
  · exact .nothing _ d

/-! ### The other rows that test before they act -/

theorem judge_credit_le {f : List Byte} {c n : Nat} (h : judge f = .credit c n) : n ≤ 255 := by
  unfold judge at h
  dsimp only at h
  split at h
  · cases h
  · split at h
    · split at h
      · cases h
      · cases h
      · cases h
      · cases h
      · split at h
        · cases h
          exact Nat.le_of_lt_succ (BitVec.isLt _)
        · cases h
    · cases h

theorem creditFrame_act (b : Byte) (d : Device) : Act (.creditFrame b) d (creditFrame b d) := by
  unfold creditFrame
  split
  · next hv =>
    obtain ⟨f, -, hj⟩ := Option.map_eq_some_iff.mp hv
    exact .creditFrame b d _ _ (judge_credit_le hj)
  · exact .nothing _ d

theorem transmitChoice_act (d : Device) : Act .transmitChoice d (transmitChoice d) := by
  unfold transmitChoice
  split
  · exact .nothing _ d
  · exact .nothing _ d
  · split
    · next hr => exact .sendReply _ _ d hr
    · split
      · exact .nothing _ d
      · next hc =>
        split
        · exact .nothing _ d
        · next hf => exact .sendEvent _ _ _ _ d hc hf

theorem transmitFrameEnd_act (i : Inputs) (d : Device) : Act (.transmitFrameEnd i) d (transmitFrameEnd i d) := by
  unfold transmitFrameEnd
  split
  · split
    · exact .trunkReset i d
    · exact .frameEnd i d
  · exact .nothing _ d
  · exact .nothing _ d

/-! ### Each row's meaning -/

theorem exec_openLane (s : State) : exec .openLane s = s.takeCode rcOpenLane (onLane openLaneReq) := rfl

theorem exec_closeLane (s : State) : exec .closeLane s = s.takeCode rcCloseLane closeLane := rfl

theorem exec_suspendLane (s : State) : exec .suspendLane s = s.takeCode rcSuspendLane (onLane suspendLaneReq) := rfl

theorem exec_resumeLane (s : State) : exec .resumeLane s = s.takeCode rcResumeLane (onLane resumeLaneReq) := rfl

theorem exec_resetLane (s : State) :
    exec .resetLane s = s.takeCode rcResetLane (onLane fun l d => answer (d.resetLane l) .done) := rfl

theorem exec_setLane (s : State) : exec .setLane s = s.takeCode rcSetLane setLane := rfl

theorem exec_readLane (s : State) : exec .readLane s = s.takeCode rcReadLane readLane := rfl

theorem exec_setScan (s : State) : exec .setScan s = s.takeCode rcSetScan setScan := rfl

theorem exec_readKeys (s : State) : exec .readKeys s = s.takeCode rcReadKeys readKeys := rfl

theorem exec_writeKeymap (s : State) : exec .writeKeymap s = s.takeCode rcWriteKeymap writeKeymap := rfl

theorem exec_readKeymap (s : State) : exec .readKeymap s = s.takeCode rcReadKeymap readKeymap := rfl

theorem exec_verifyKeymap (s : State) : exec .verifyKeymap s = s.takeCode rcVerifyKeymap verifyKeymap := rfl

theorem exec_verifyWalkEnd (s : State) : exec .verifyWalkEnd s = s.run verifyWalkEnd := rfl

theorem exec_eraseKeymap (s : State) : exec .eraseKeymap s = s.takeCode rcEraseKeymap eraseKeymap := rfl

theorem exec_assignKeymap (s : State) : exec .assignKeymap s = s.takeCode rcAssignKeymap assignKeymap := rfl

theorem exec_setPort (s : State) : exec .setPort s = s.takeCode rcSetPort setPort := rfl

theorem exec_readPort (s : State) : exec .readPort s = s.takeCode rcReadPort readPort := rfl

theorem exec_writeRule (s : State) : exec .writeRule s = s.takeCode rcWriteRule writeRule := rfl

theorem exec_readRule (s : State) : exec .readRule s = s.takeCode rcReadRule readRule := rfl

theorem exec_commitRules (s : State) : exec .commitRules s = s.takeCode rcCommitRules commitRules := rfl

theorem exec_setAdmission (s : State) : exec .setAdmission s = s.takeCode rcSetAdmission setAdmission := rfl

theorem exec_readPool (s : State) : exec .readPool s = s.takeCode rcReadPool readPool := rfl

theorem exec_tableRead (s : State) : exec .tableRead s = s.takeCode rcTableRead tableRead := rfl

theorem exec_tableWrite (s : State) : exec .tableWrite s = s.takeCode rcTableWrite tableWrite := rfl

theorem exec_tableDelete (s : State) : exec .tableDelete s = s.takeCode rcTableDelete tableDelete := rfl

theorem exec_tableSearch (s : State) : exec .tableSearch s = s.takeCode rcTableSearch tableSearch := rfl

theorem exec_tableClear (s : State) : exec .tableClear s = s.takeCode rcTableClear tableClear := rfl

theorem exec_tableWalkStep (s : State) : exec .tableWalkStep s = s.run fun d => d.updDelivery Delivery.walkStep := rfl

theorem exec_tableWalkEnd (s : State) : exec .tableWalkEnd s = s.run Device.walkEnd := rfl

theorem exec_setUnmatched (s : State) : exec .setUnmatched s = s.takeCode rcSetUnmatched setUnmatched := rfl

theorem exec_setConsumer (s : State) : exec .setConsumer s = s.takeCode rcSetConsumer setConsumer := rfl

theorem exec_flushConsumer (s : State) : exec .flushConsumer s = s.takeCode rcFlushConsumer flushConsumer := rfl

theorem exec_setStall (s : State) : exec .setStall s = s.takeCode rcSetStall setStall := rfl

theorem exec_readConsumer (s : State) : exec .readConsumer s = s.takeCode rcReadConsumer readConsumer := rfl

theorem exec_kick (s : State) : exec .kick s = s.takeCode rcKick (onDrawer kickReq) := rfl

theorem exec_clearInhibit (s : State) : exec .clearInhibit s = s.takeCode rcClearInhibit clearInhibit := rfl

theorem exec_setDrawerDrawer (s : State) :
    exec .setDrawerDrawer s = s.run (Device.take Request.isSetDrawer setDrawer) := rfl

theorem exec_setDrawerSupply (s : State) :
    exec .setDrawerSupply s = s.run (Device.take Request.isSetSupply setDrawer) := rfl

theorem exec_readDrawer (s : State) : exec .readDrawer s = s.takeCode rcReadDrawer (onDrawer readDrawer) := rfl

theorem exec_clearCounter (s : State) :
    exec .clearCounter s = s.takeCode rcClearCounter (onDrawer clearCounter) := rfl

theorem exec_writeTone (s : State) : exec .writeTone s = s.takeCode rcWriteTone writeTone := rfl

theorem exec_playTone (s : State) : exec .playTone s = s.takeCode rcPlayTone playTone := rfl

theorem exec_stopTone (s : State) : exec .stopTone s = s.takeCode rcStopTone (onLane stopTone) := rfl

theorem exec_setLamp (s : State) : exec .setLamp s = s.takeCode rcSetLamp setLamp := rfl

theorem exec_status (s : State) : exec .status s = s.takeCode rcStatus status := rfl

theorem exec_setTime (s : State) : exec .setTime s = s.takeCode rcSetTime setTime := rfl

theorem exec_deviceReset (s : State) : exec .deviceReset s = s.takeCode rcDeviceReset deviceReset := rfl

theorem exec_unknownRequest (s : State) :
    exec .unknownRequest s = s.run (Device.take Request.isUnknown fun _ d => refuse d .refusedUnknown) := rfl

theorem exec_emptyRequest (s : State) :
    exec .emptyRequest s = s.run (Device.take Request.isEmpty fun _ d => malformed d) := rfl

theorem exec_requestFrame (s : State) (b : Byte) : exec (.requestFrame b) s = s.run (requestFrame b) := rfl

theorem exec_creditFrame (s : State) (b : Byte) : exec (.creditFrame b) s = s.run (creditFrame b) := rfl

theorem exec_frameRejected (s : State) (b : Byte) : exec (.frameRejected b) s = s.run (frameRejected b) := rfl

theorem exec_frameAbandoned (s : State) (c : AbandonCause) :
    exec (.frameAbandoned c) s = s.run (frameAbandoned c) := rfl

theorem exec_waitIdleCharacter (s : State) :
    exec .waitIdleCharacter s = s.run fun d => d.updTrunk Trunk.waitCharacter := rfl

theorem exec_receiverIdle (s : State) : exec .receiverIdle s = s.run fun d => d.updTrunk Trunk.idleSeen := rfl

theorem exec_transmitChoice (s : State) : exec .transmitChoice s = s.run transmitChoice := rfl

theorem exec_transmitFrameEnd (s : State) (i : Inputs) :
    exec (.transmitFrameEnd i) s = s.run (transmitFrameEnd i) := rfl

theorem exec_transmitGapEnd (s : State) : exec .transmitGapEnd s = s.run fun d => d.updTrunk Trunk.gapEnd := rfl

theorem exec_powerOn (s : State) (i : Inputs) : exec (.powerOn i) s = .next { s with dev := powerOn i s.dev } := rfl

theorem exec_resetPinLow (s : State) : exec .resetPinLow s = s.run fun d => heldInReset d.lastInputs := rfl

theorem exec_resetPinRise (s : State) (i : Inputs) :
    exec (.resetPinRise i) s = .next { s with dev := resetPinRise i s.dev } := rfl

theorem exec_duePoint (s : State) (n : Nat) : exec (.duePoint n) s = s.runAt 16 n .noSuchLane duePoint := rfl

theorem exec_passStart (s : State) : exec .passStart s = s.run passStart := rfl

theorem exec_passEnd (s : State) (raw : BitVec 128) (a : Bool) (b : Bool) (wake : BitVec 128) :
    exec (.passEnd raw a b wake) s = s.run (passEnd raw (KeyLock.ofLines a b) wake) := rfl

theorem exec_forcedKeymapSwitch (s : State) (n : Nat) :
    exec (.forcedKeymapSwitch n) s = s.runAt 16 n .noSuchLane forcedSwitch := rfl

theorem exec_watchPoint (s : State) (n : Nat) (a : Bool) (b : Bool) (rows : Byte) :
    exec (.watchPoint n a b rows) s = s.runAt 16 n .noSuchLane (watchPoint a b rows) := rfl

theorem exec_wakeHoldOffExpiry (s : State) (n : Nat) :
    exec (.wakeHoldOffExpiry n) s = s.runAt 16 n .noSuchLane holdOffExpiry := rfl

theorem exec_tenderTimerExpiry (s : State) (n : Nat) :
    exec (.tenderTimerExpiry n) s = s.runAt 16 n .noSuchLane tenderExpiry := rfl

theorem exec_scannerCharacter (s : State) (n : Nat) (c : Byte) (good : Bool) :
    exec (.scannerCharacter n c good) s = s.runAt 32 n .noSuchPort (scannerCharacter c good) := rfl

theorem exec_idleGapExpiry (s : State) (n : Nat) :
    exec (.idleGapExpiry n) s = s.runAt 32 n .noSuchPort idleExpiry := rfl

theorem exec_admissionAttempt (s : State) : exec .admissionAttempt s = s.run admission := rfl

theorem exec_admissionLimitExpiry (s : State) (n : Nat) :
    exec (.admissionLimitExpiry n) s = s.runAt 17 n .noSuchLane limitExpiry := rfl

theorem exec_stallTimerExpiry (s : State) (n : Nat) :
    exec (.stallTimerExpiry n) s = s.runAt 8 n .noSuchConsumer stallExpiry := rfl

theorem exec_senseChange (s : State) (n : Nat) (o : Bool) :
    exec (.senseChange n o) s = s.runAt 32 n .noSuchDrawer (senseChange o) := rfl

theorem exec_stabilityTimerExpiry (s : State) (n : Nat) :
    exec (.stabilityTimerExpiry n) s = s.runAt 32 n .noSuchDrawer stabilityExpiry := rfl

theorem exec_kickGrant (s : State) : exec .kickGrant s = s.run kickGrant := rfl

theorem exec_pulseEnd (s : State) (n : Nat) : exec (.pulseEnd n) s = s.runAt 32 n .noSuchDrawer pulseEnd := rfl

theorem exec_confirmTimeout (s : State) (n : Nat) :
    exec (.confirmTimeout n) s = s.runAt 32 n .noSuchDrawer confirmTimeout := rfl

theorem exec_unitRecovered (s : State) (n : Nat) :
    exec (.unitRecovered n) s = s.runAt 8 n .noSuchUnit unitRecovered := rfl

theorem exec_openTooLong (s : State) (n : Nat) :
    exec (.openTooLong n) s = s.runAt 32 n .noSuchDrawer openTooLong := rfl

theorem exec_supplyFault (s : State) : exec .supplyFault s = s.run supplyFall := rfl

theorem exec_supplyLineRise (s : State) : exec .supplyLineRise s = s.run supplyRise := rfl

theorem exec_tonePhaseEnd (s : State) (n : Nat) : exec (.tonePhaseEnd n) s = s.runAt 16 n .noSuchLane phaseEnd := rfl

theorem exec_lampBoundary (s : State) (n : Nat) :
    exec (.lampBoundary n) s = s.runAt 16 n .noSuchLane lampBoundary := rfl

theorem exec_scannerStartBit (s : State) (n : Nat) :
    exec (.scannerStartBit n) s = s.runAt 32 n .noSuchPort startBit := rfl

theorem exec_trunkCharacterStored (s : State) (c : Byte) :
    exec (.trunkCharacterStored c) s = s.run fun d => d.updTrunk fun t => t.storeCharacter c := rfl

/-! ### Every row -/

theorem run_effect {c : Instr} {s t : State} {f : Device → Device} (hf : ∀ d, Act c d (f d)) (h : s.run f = .next t) :
    Act c s.dev t.dev := by
  rcases s.run_cases t f h with rfl | ⟨-, rfl⟩
  · exact .nothing c _
  · exact hf s.dev

theorem runAt_effect {c : Instr} {s t : State} {n i : Nat} {e : Fault} {f : Fin n → Device → Device}
    (hf : ∀ (k : Fin n) d, k.val = i → Act c d (f k d)) (h : s.runAt n i e f = .next t) : Act c s.dev t.dev := by
  unfold State.runAt at h
  split at h
  · exact run_effect (fun d => hf _ d rfl) h
  · cases h

theorem take_effect {c : Instr} {s t : State} {mine : Request → Bool} {carry : List Byte → Device → Carried}
    (hf : ∀ fs d, Act c d (carry fs d).1) (h : s.run (Device.take mine carry) = .next t) :
    Act c s.dev t.dev ∨ Requested c s.dev t.dev := by
  rcases s.run_cases t _ h with rfl | ⟨-, rfl⟩
  · exact .inl (.nothing c _)
  · dsimp only [Device.take]
    split
    · next r hr =>
      split
      · refine .inr ⟨r, _, hr, hf r.fields _, ?_⟩
        unfold Carried.finish
        split
        · exact .inr ⟨_, rfl⟩
        · exact .inl rfl
      · exact .inl (.nothing c _)
    · exact .inl (.nothing c _)

/-- What a command that completes has done: its row's act, or its row's act on a request that it took. -/
theorem exec_effect {c : Instr} {s t : State} (h : exec c s = .next t) :
    Act c s.dev t.dev ∨ Requested c s.dev t.dev := by
  cases c with
  | openLane =>
    rw [exec_openLane] at h
    exact take_effect (onLane_act openLaneReq_act) h
  | closeLane =>
    rw [exec_closeLane] at h
    exact take_effect closeLane_act h
  | suspendLane =>
    rw [exec_suspendLane] at h
    exact take_effect (onLane_act suspendLaneReq_act) h
  | resumeLane =>
    rw [exec_resumeLane] at h
    exact take_effect (onLane_act resumeLaneReq_act) h
  | resetLane =>
    rw [exec_resetLane] at h
    exact take_effect (onLane_act resetLaneReq_act) h
  | setLane =>
    rw [exec_setLane] at h
    exact take_effect setLane_act h
  | readLane =>
    rw [exec_readLane] at h
    exact take_effect readLane_act h
  | setScan =>
    rw [exec_setScan] at h
    exact take_effect setScan_act h
  | readKeys =>
    rw [exec_readKeys] at h
    exact take_effect readKeys_act h
  | writeKeymap =>
    rw [exec_writeKeymap] at h
    exact take_effect writeKeymap_act h
  | readKeymap =>
    rw [exec_readKeymap] at h
    exact take_effect readKeymap_act h
  | verifyKeymap =>
    rw [exec_verifyKeymap] at h
    exact take_effect verifyKeymap_act h
  | verifyWalkEnd =>
    rw [exec_verifyWalkEnd] at h
    exact .inl (run_effect .verifyWalkEnd h)
  | eraseKeymap =>
    rw [exec_eraseKeymap] at h
    exact take_effect eraseKeymap_act h
  | assignKeymap =>
    rw [exec_assignKeymap] at h
    exact take_effect assignKeymap_act h
  | setPort =>
    rw [exec_setPort] at h
    exact take_effect setPort_act h
  | readPort =>
    rw [exec_readPort] at h
    exact take_effect readPort_act h
  | writeRule =>
    rw [exec_writeRule] at h
    exact take_effect writeRule_act h
  | readRule =>
    rw [exec_readRule] at h
    exact take_effect readRule_act h
  | commitRules =>
    rw [exec_commitRules] at h
    exact take_effect commitRules_act h
  | setAdmission =>
    rw [exec_setAdmission] at h
    exact take_effect setAdmission_act h
  | readPool =>
    rw [exec_readPool] at h
    exact take_effect readPool_act h
  | tableRead =>
    rw [exec_tableRead] at h
    exact take_effect tableRead_act h
  | tableWrite =>
    rw [exec_tableWrite] at h
    exact take_effect tableWrite_act h
  | tableDelete =>
    rw [exec_tableDelete] at h
    exact take_effect tableDelete_act h
  | tableSearch =>
    rw [exec_tableSearch] at h
    exact take_effect tableSearch_act h
  | tableClear =>
    rw [exec_tableClear] at h
    exact take_effect tableClear_act h
  | tableWalkStep =>
    rw [exec_tableWalkStep] at h
    exact .inl (run_effect .tableWalkStep h)
  | tableWalkEnd =>
    rw [exec_tableWalkEnd] at h
    exact .inl (run_effect .tableWalkEnd h)
  | setUnmatched =>
    rw [exec_setUnmatched] at h
    exact take_effect setUnmatched_act h
  | setConsumer =>
    rw [exec_setConsumer] at h
    exact take_effect setConsumer_act h
  | flushConsumer =>
    rw [exec_flushConsumer] at h
    exact take_effect flushConsumer_act h
  | setStall =>
    rw [exec_setStall] at h
    exact take_effect setStall_act h
  | readConsumer =>
    rw [exec_readConsumer] at h
    exact take_effect readConsumer_act h
  | kick =>
    rw [exec_kick] at h
    exact take_effect (onDrawer_act fun n d => .kick n d) h
  | clearInhibit =>
    rw [exec_clearInhibit] at h
    exact take_effect clearInhibit_act h
  | setDrawerDrawer =>
    rw [exec_setDrawerDrawer] at h
    exact take_effect (setDrawer_act false) h
  | setDrawerSupply =>
    rw [exec_setDrawerSupply] at h
    exact take_effect (setDrawer_act true) h
  | readDrawer =>
    rw [exec_readDrawer] at h
    exact take_effect (onDrawer_act fun _ d => .nothing _ d) h
  | clearCounter =>
    rw [exec_clearCounter] at h
    exact take_effect (onDrawer_act fun n d => .clearCounter n d) h
  | writeTone =>
    rw [exec_writeTone] at h
    exact take_effect writeTone_act h
  | playTone =>
    rw [exec_playTone] at h
    exact take_effect playTone_act h
  | stopTone =>
    rw [exec_stopTone] at h
    exact take_effect (onLane_act fun l d => .stopTone l d) h
  | setLamp =>
    rw [exec_setLamp] at h
    exact take_effect setLamp_act h
  | status =>
    rw [exec_status] at h
    exact take_effect status_act h
  | setTime =>
    rw [exec_setTime] at h
    exact take_effect setTime_act h
  | deviceReset =>
    rw [exec_deviceReset] at h
    exact take_effect deviceReset_act h
  | unknownRequest =>
    rw [exec_unknownRequest] at h
    exact take_effect (fun _ d => .nothing _ d) h
  | emptyRequest =>
    rw [exec_emptyRequest] at h
    exact take_effect (fun _ d => .nothing _ d) h
  | requestFrame b =>
    rw [exec_requestFrame] at h
    exact .inl (run_effect (.requestFrame b) h)
  | creditFrame b =>
    rw [exec_creditFrame] at h
    exact .inl (run_effect (creditFrame_act b) h)
  | frameRejected b =>
    rw [exec_frameRejected] at h
    exact .inl (run_effect (.frameRejected b) h)
  | frameAbandoned c =>
    rw [exec_frameAbandoned] at h
    exact .inl (run_effect (.frameAbandoned c) h)
  | waitIdleCharacter =>
    rw [exec_waitIdleCharacter] at h
    exact .inl (run_effect .waitIdleCharacter h)
  | receiverIdle =>
    rw [exec_receiverIdle] at h
    exact .inl (run_effect .receiverIdle h)
  | transmitChoice =>
    rw [exec_transmitChoice] at h
    exact .inl (run_effect transmitChoice_act h)
  | transmitFrameEnd i =>
    rw [exec_transmitFrameEnd] at h
    exact .inl (run_effect (transmitFrameEnd_act i) h)
  | transmitGapEnd =>
    rw [exec_transmitGapEnd] at h
    exact .inl (run_effect .transmitGapEnd h)
  | powerOn i =>
    obtain rfl : _ = t := Host.Outcome.next.inj h
    dsimp only [powerOn]
    split
    · exact .inl (.powerOnHeld i _)
    · exact .inl (.powerOn i _)
  | resetPinLow =>
    rw [exec_resetPinLow] at h
    exact .inl (run_effect (fun d => .resetPinLow d.lastInputs d) h)
  | resetPinRise i =>
    obtain rfl : _ = t := Host.Outcome.next.inj h
    dsimp only [resetPinRise]
    split
    · exact .inl (.resetPinRise i _)
    · exact .inl (.nothing _ _)
  | duePoint l =>
    rw [exec_duePoint] at h
    exact .inl (runAt_effect (by rintro k d rfl; exact .duePoint k d) h)
  | passStart =>
    rw [exec_passStart] at h
    exact .inl (run_effect .passStart h)
  | passEnd raw a b wake =>
    rw [exec_passEnd] at h
    exact .inl (run_effect (.passEnd raw a b wake) h)
  | forcedKeymapSwitch l =>
    rw [exec_forcedKeymapSwitch] at h
    exact .inl (runAt_effect (by rintro k d rfl; exact .forcedSwitch k d) h)
  | watchPoint l a b rows =>
    rw [exec_watchPoint] at h
    exact .inl (runAt_effect (by rintro k d rfl; exact .watchPoint k a b rows d) h)
  | wakeHoldOffExpiry l =>
    rw [exec_wakeHoldOffExpiry] at h
    exact .inl (runAt_effect (by rintro k d rfl; exact .holdOffExpiry k d) h)
  | tenderTimerExpiry l =>
    rw [exec_tenderTimerExpiry] at h
    exact .inl (runAt_effect (by rintro k d rfl; exact .tenderExpiry k d) h)
  | scannerCharacter n c good =>
    rw [exec_scannerCharacter] at h
    exact .inl (runAt_effect (by rintro k d rfl; exact .scannerCharacter k c good d) h)
  | idleGapExpiry n =>
    rw [exec_idleGapExpiry] at h
    exact .inl (runAt_effect (by rintro k d rfl; exact .idleExpiry k d) h)
  | admissionAttempt =>
    rw [exec_admissionAttempt] at h
    exact .inl (run_effect .admission h)
  | admissionLimitExpiry q =>
    rw [exec_admissionLimitExpiry] at h
    exact .inl (runAt_effect (by rintro k d rfl; exact .limitExpiry k d) h)
  | stallTimerExpiry c =>
    rw [exec_stallTimerExpiry] at h
    exact .inl (runAt_effect (by rintro k d rfl; exact .stallExpiry k d) h)
  | senseChange n o =>
    rw [exec_senseChange] at h
    exact .inl (runAt_effect (by rintro k d rfl; exact .senseChange k o d) h)
  | stabilityTimerExpiry n =>
    rw [exec_stabilityTimerExpiry] at h
    exact .inl (runAt_effect (by rintro k d rfl; exact .stabilityExpiry k d) h)
  | kickGrant =>
    rw [exec_kickGrant] at h
    exact .inl (run_effect .kickGrant h)
  | pulseEnd n =>
    rw [exec_pulseEnd] at h
    exact .inl (runAt_effect (by rintro k d rfl; exact .pulseEnd k d) h)
  | confirmTimeout n =>
    rw [exec_confirmTimeout] at h
    exact .inl (runAt_effect (by rintro k d rfl; exact .confirmTimeout k d) h)
  | unitRecovered i =>
    rw [exec_unitRecovered] at h
    exact .inl (runAt_effect (by rintro k d rfl; exact .unitRecovered k d) h)
  | openTooLong n =>
    rw [exec_openTooLong] at h
    exact .inl (runAt_effect
    (by rintro k d rfl; exact .openTooLong k d) h)
  | supplyFault =>
    rw [exec_supplyFault] at h
    exact .inl (run_effect .supplyFall h)
  | supplyLineRise =>
    rw [exec_supplyLineRise] at h
    exact .inl (run_effect .supplyRise h)
  | tonePhaseEnd l =>
    rw [exec_tonePhaseEnd] at h
    exact .inl (runAt_effect (by rintro k d rfl; exact .phaseEnd k d) h)
  | lampBoundary l =>
    rw [exec_lampBoundary] at h
    exact .inl (runAt_effect (by rintro k d rfl; exact .lampBoundary k d) h)
  | scannerStartBit n =>
    rw [exec_scannerStartBit] at h
    exact .inl (runAt_effect (by rintro k d rfl; exact .startBit k d) h)
  | trunkCharacterStored c =>
    rw [exec_trunkCharacterStored] at h
    exact .inl (run_effect (.storeCharacter c) h)

/-! ### The footprint of each row -/

/-- The parts of the device that a row may touch, apart from the taking and the answering of a request. -/
def footprint : Instr → List Block
  | .openLane => [.lanes, .states, .scanner, .ports, .queues, .tlu]
  | .suspendLane | .resumeLane => [.lanes, .states, .ports, .queues, .tlu]
  | .closeLane | .duePoint _ => [.lanes, .states, .settings, .scanner, .trans, .keymaps, .ports, .queues, .tlu]
  | .resetLane => [.lanes, .states, .settings, .scanner, .trans, .keymaps, .ports, .queues, .entries, .offers, .consumers,
      .drawers, .kicks, .tlu]
  | .setLane => [.lanes, .settings, .trans]
  | .setScan | .readKeys => [.scanner]
  | .writeKeymap | .verifyKeymap | .eraseKeymap => [.keymaps]
  | .verifyWalkEnd => [.keymaps, .trunk]
  | .assignKeymap => [.keymaps, .queues]
  | .setPort | .readPort | .scannerStartBit _ => [.ports]
  | .writeRule | .readRule | .commitRules => [.rules]
  | .setAdmission => [.slots]
  | .readPool => [.queues, .entries, .offers, .slots]
  | .tableWrite | .tableDelete | .tableSearch | .tableClear | .tableWalkStep | .setUnmatched | .setStall =>
    [.delivery]
  | .tableWalkEnd => [.delivery, .trunk]
  | .setConsumer | .flushConsumer => [.slots, .consumers]
  | .readConsumer => [.consumers]
  | .kick => [.lanes, .queues, .drawers]
  | .setDrawerDrawer | .setDrawerSupply | .stabilityTimerExpiry _ | .pulseEnd _ | .confirmTimeout _ | .supplyFault =>
    [.queues, .drawers, .kicks]
  | .clearInhibit | .clearCounter | .senseChange _ _ | .kickGrant | .unitRecovered _ | .supplyLineRise =>
    [.drawers, .kicks]
  | .openTooLong _ => [.queues, .drawers, .kicks, .tlu]
  | .writeTone | .playTone | .stopTone | .setLamp | .tonePhaseEnd _ | .lampBoundary _ => [.tlu]
  | .status | .setTime | .deviceReset | .requestFrame _ | .frameRejected _ | .frameAbandoned _ | .waitIdleCharacter
  | .receiverIdle | .transmitGapEnd | .trunkCharacterStored _ => [.trunk]
  | .creditFrame _ => [.consumers, .queues, .trunk]
  | .transmitChoice => [.delivery, .consumers, .slots, .trunk]
  | .transmitFrameEnd _ | .powerOn _ | .resetPinLow | .resetPinRise _ =>
    [.lanes, .states, .settings, .scanner, .trans, .keymaps, .ports, .rules, .queues, .entries, .offers, .slots, .consumers,
     .delivery, .drawers, .kicks, .tlu, .trunk, .timeBase]
  | .passStart => [.lanes, .settings, .scanner, .trans, .queues]
  | .passEnd _ _ _ _ => [.lanes, .scanner, .trans, .keymaps, .queues, .drawers]
  | .forcedKeymapSwitch _ => [.scanner, .trans, .keymaps, .queues]
  | .watchPoint _ _ _ _ => [.lanes, .queues]
  | .wakeHoldOffExpiry _ | .tenderTimerExpiry _ => [.lanes]
  | .scannerCharacter _ _ _ | .idleGapExpiry _ => [.ports, .rules, .queues, .entries, .tlu]
  | .admissionAttempt => [.queues, .entries, .offers, .slots, .consumers, .ports]
  | .admissionLimitExpiry _ => [.queues, .entries, .offers, .consumers, .ports]
  | .stallTimerExpiry _ => [.slots, .consumers, .queues]
  | .readLane | .readKeymap | .tableRead | .readDrawer | .unknownRequest | .emptyRequest => []

@[simp] theorem footprint_setDrawerRow (row : Bool) :
    footprint (setDrawerRow row) = [.queues, .drawers, .kicks] := by
  cases row <;> rfl

theorem touches_everything (d e : Device) : Touches [.lanes, .states, .settings, .scanner, .trans, .keymaps, .ports,
    .rules, .queues, .entries, .offers, .slots, .consumers, .delivery, .drawers, .kicks, .tlu, .trunk, .timeBase] d e :=
  fun b hb =>
  absurd (by cases b <;> decide) hb

/-- A row touches nothing outside its footprint. -/
theorem Act.touches {c : Instr} {d e : Device} (h : Act c d e) : Touches (footprint c) d e := by
  cases h with
  | nothing => exact .refl _ d
  | openLane l => exact openLane_touches d l
  | suspendLane l => exact suspendLane_touches d l
  | resumeLane l => exact resumeLane_touches d l
  | closeLane l => exact depart_touches d l _ _
  | closeFaulted l => exact (closeFaulted_touches d l).mono (by decide)
  | resetLane l => exact resetLane_touches d l
  | setPending l g => exact (updLane_touches_settings d l (by intro; rfl)).mono (by decide)
  | setAtOnce l g => exact ((updLane_touches_settings d l (by intro; rfl)).seq (adopt_touches _ l)).mono (by decide)
  | setScan n => exact updScanner_touches d _
  | readKeys l => exact updScan_touches d l _
  | writeKeymap i t => exact updImage_touches d i _
  | verifyKeymap w => exact updKeymaps_touches d _
  | verifyWalkEnd => exact verifyWalkEnd_touches d
  | eraseKeymap i => exact updImage_touches d i _
  | assignKeymap l i => exact assignKeymap_touches d l i
  | setPort n => exact updPort_touches d n _
  | readPort n => exact updPort_touches d n _
  | writeRule => exact updRules_touches d _
  | readShadow => exact updRules_touches d _
  | readActive => exact updRules_touches d _
  | commitRules => exact updRules_touches d _
  | setAdmission => exact updPool_touches_slots d rfl
  | readPool => exact updPool_touches d _
  | tableWrite => exact updDelivery_touches_delivery d rfl
  | tableDelete => exact updDelivery_touches_delivery d rfl
  | tableSearch => exact updDelivery_touches_delivery d rfl
  | tableClear => exact updDelivery_touches_delivery d rfl
  | tableWalkStep => exact updDelivery_touches_delivery d (Delivery.walkStep_consumers _)
  | tableWalkEnd => exact walkEnd_touches d
  | setUnmatched => exact updDelivery_touches_delivery d rfl
  | setActive c => exact ((setDepth_touches d c _).seq (activate_touches _ c)).mono (by decide)
  | setInactive c => exact ((setDepth_touches d c _).seq (deactivate_touches _ c)).mono (by decide)
  | flushConsumer c => exact flush_touches d c
  | setStall => exact updDelivery_touches_delivery d rfl
  | readConsumer c => exact updConsumer_touches d c _
  | kick n => exact requestKick_touches d n _
  | clearInhibit => exact updDrawers_touches d _
  | setDrawer row n => exact footprint_setDrawerRow row ▸ (updDrawer_touches d n _).mono (by decide)
  | setSupply row => exact footprint_setDrawerRow row ▸ (updDrawers_touches d _).mono (by decide)
  | setSupplyFault row =>
    exact footprint_setDrawerRow row ▸ ((updDrawers_touches d _).seq (supplyFaultTaken_touches _)).mono (by decide)
  | clearCounter n => exact updDrawer_touches d n _
  | writeTone => exact updTlu_touches d _
  | playTone l e => exact requestTone_touches d l e
  | stopTone => exact updTlu_touches d _
  | setLamp l m s => exact setLamp_touches d l m s
  | status => exact updTrunk_touches d _
  | setTime => exact updTrunk_touches d _
  | deviceReset => exact updTrunk_touches d _
  | requestFrame b =>
    unfold Machine.requestFrame
    split
    · exact updTrunk_touches d _
    · exact .refl _ d
  | creditFrame b _ n k =>
    have h1 := (updTrunk_touches d fun t => t.waitIdle true).seq (creditTo_touches _ n k)
    exact h1.mono (cs := [.consumers, .queues, .trunk]) (by decide)
  | frameRejected b =>
    unfold Machine.frameRejected
    split
    · exact updTrunk_touches d _
    · exact .refl _ d
  | frameAbandoned c => exact .ite (updTrunk_touches d _) (.refl _ d)
  | waitIdleCharacter => exact updTrunk_touches d _
  | receiverIdle => exact updTrunk_touches d _
  | sendReply => exact (updTrunk_touches d _).mono (by decide)
  | sendEvent c r urgent => exact ((takeFrame_touches d c r urgent).seq (updTrunk_touches _ _)).mono (by decide)
  | frameEnd => exact touches_everything d _
  | trunkReset => exact touches_everything d _
  | transmitGapEnd => exact updTrunk_touches d _
  | powerOn => exact touches_everything d _
  | powerOnHeld => exact touches_everything d _
  | resetPinLow => exact touches_everything d _
  | resetPinRise => exact touches_everything d _
  | duePoint l => exact duePoint_touches l d
  | passStart => exact passStart_touches d
  | passEnd raw a b wake => exact passEnd_touches raw _ wake d
  | forcedSwitch l => exact forcedSwitch_touches l d
  | watchPoint l a b rows => exact watchPoint_touches a b rows l d
  | holdOffExpiry l => exact updLane_touches_lanes d l (by intro; exact ⟨rfl, rfl, rfl⟩)
  | tenderExpiry l => exact .ite (updLane_touches_lanes d l (by intro; exact ⟨rfl, rfl, rfl⟩)) (.refl _ d)
  | scannerCharacter n c good => exact scannerCharacter_touches c good n d
  | idleExpiry n => exact idleExpiry_touches n d
  | admission => exact admission_touches d
  | limitExpiry q => exact limitExpiry_touches q d
  | stallExpiry c => exact stallExpiry_touches c d
  | senseChange n o => exact updDrawer_touches d n _
  | stabilityExpiry n => exact stabilityExpiry_touches n d
  | kickGrant => exact kickGrant_touches d
  | pulseEnd n => exact pulseEnd_touches n d
  | confirmTimeout n => exact confirmTimeout_touches n d
  | unitRecovered i => exact .ite (updDrawers_touches d _) (.refl _ d)
  | openTooLong n => exact openTooLong_touches n d
  | supplyFall => exact supplyFall_touches d
  | supplyRise => exact updDrawers_touches d _
  | phaseEnd => exact updTlu_touches d _
  | lampBoundary => exact .ite (updTlu_touches d _) (.refl _ d)
  | startBit n => exact updPort_touches d n _
  | storeCharacter => exact updTrunk_touches d _

/-- A command that completes leaves every part outside its row's footprint as it was, but for the trunk port, whose
FIFOs serve every request. -/
theorem exec_keeps {c : Instr} {s t : State} (h : exec c s = .next t) {b : Block} (hb : b ∉ footprint c)
    (ht : b ≠ .trunk) : Same s.dev t.dev b := by
  have hout : b ∉ [Block.trunk] := by simpa using ht
  rcases exec_effect h with ha | ⟨r, x, -, ha, rfl | ⟨a, hx⟩⟩
  · exact ha.touches b hb
  · exact (begin_touches _ r b hout).trans (ha.touches b hb)
  · rw [hx]
    exact ((begin_touches _ r b hout).trans (ha.touches b hb)).trans (reply_touches _ a b hout)

/-! ### Invariants -/

/-- A property of the part that does not speak of the trunk port holds after every step, if every row's act and the
passing of a microsecond keep it. -/
theorem step_keeps {P : Device → Prop} (htrunk : ∀ d k, P d → P { d with trunk := k })
    (hact : ∀ {c d e}, Act c d e → P d → P e) (htick : ∀ d, P d → P d.tick) {s t : State} (h : step s = .next t)
    (hp : P s.dev) : P t.dev := by
  unfold step at h
  split at h
  · rcases exec_effect h with ha | ⟨r, x, -, ha, rfl | ⟨a, hx⟩⟩
    · exact hact ha hp
    · exact hact ha (htrunk _ _ hp)
    · rw [hx]
      exact htrunk _ _ (hact ha (htrunk _ _ hp))
  · rcases s.run_cases t _ h with rfl | ⟨-, rfl⟩
    · exact hp
    · exact htick _ hp

end Sys2Proof.Machine

/-! ## Which commands change a lane's state -/

namespace Sys2Proof.LaneStates

open Sys2Proof.Machine Sys2Proof.Claims

theorem states_not_in_footprint {c : Instr} (h : mayChangeLaneState c = false) : Block.states ∉ footprint c := by
  cases c <;> simp_all [mayChangeLaneState, footprint]

/-- Settles O51: the lane states stand in the footprint of the named rows alone. -/
theorem laneStateChangers : Obligations.LaneStateChangers := fun _ _ _ l hc h =>
  exec_keeps h (states_not_in_footprint hc) (by decide) l

end Sys2Proof.LaneStates

/-! ## The bounds of the queues (R107, R182, R187) -/

namespace Sys2Proof.QueueBounds

open Sys2Proof.Machine Sys2Proof.Safety

/-! ### The pending queues -/

/-- A bound on a lane's queue length, or on its loss counter: an offer keeps it, and so does every change that makes no
queue longer and leaves no counter above both its old value and 65535. -/
structure PendBound (P : PendLane → Prop) : Prop where
  fresh : P emptyPendLane
  tell : ∀ {p : PendLane} (e : Entry), P p → P (p.tell e)
  shrink : ∀ {p p' : PendLane}, P p → p'.queue.length ≤ p.queue.length →
    (p'.lossCount ≤ p.lossCount ∨ p'.lossCount ≤ 65535) → P p'

/-- Every place of the table meets `P`. -/
def Fit {α : Type} {n : Nat} (P : α → Prop) (v : Table α n) : Prop := ∀ i : Fin n, P v[i]

theorem Fit.upd {α : Type} {n : Nat} {P : α → Prop} {v : Table α n} (h : Fit P v) (i : Fin n) {f : α → α}
    (hf : P (f v[i])) : Fit P (upd v i f) := by
  intro j
  rw [upd_getElem]
  split
  · next hj => exact hj ▸ hf
  · exact h j

theorem Fit.same {α : Type} {n : Nat} {P : α → Prop} {v w : Table α n} (h : Fit P v) (hw : w = v) : Fit P w := hw ▸ h

theorem Fit.map {α : Type} {n : Nat} {P : α → Prop} {v : Table α n} (h : Fit P v) {f : α → α}
    (hf : ∀ x, P x → P (f x)) : Fit P (mapTab v f) := by
  intro j
  rw [mapTab_getElem]
  exact hf _ (h j)

theorem tell_length {p : PendLane} (h : p.queue.length ≤ 8) (e : Entry) : (p.tell e).queue.length ≤ 8 := by
  unfold PendLane.tell
  split
  · simpa using by omega
  · exact h

theorem length_bound : PendBound fun p => p.queue.length ≤ 8 where
  fresh := Nat.zero_le 8
  tell e h := tell_length h e
  shrink h hlen _ := hlen.trans h

theorem sat16_le (a b : Nat) : sat16 a b ≤ 65535 := Nat.min_le_left _ _

theorem tell_lossCount {p : PendLane} (h : p.lossCount ≤ 65535) (e : Entry) : (p.tell e).lossCount ≤ 65535 := by
  unfold PendLane.tell
  split
  · exact h
  · exact sat16_le _ _

theorem loss_bound : PendBound fun p => p.lossCount ≤ 65535 where
  fresh := Nat.zero_le 65535
  tell e h := tell_lossCount h e
  shrink h _ hloss := hloss.elim (fun hle => hle.trans h) id

section
variable {P : PendLane → Prop} (hP : PendBound P)
include hP

theorem Fit.told {sort : BodyRef → Prop} {v w : Table PendLane 17} (h : Fit P v) (ht : Told sort v w) : Fit P w := by
  induction ht with
  | refl => exact h
  | tell _ q e _ ih => exact ih.upd q (hP.tell e (ih q))

theorem popHead_bound {p : PendLane} (h : P p) : P p.popHead :=
  hP.shrink h (by simp [PendLane.popHead]) (.inl le_rfl)

theorem loseEntry_fit {d : Device} (h : Fit P d.pool.lanes) (q : Fin 17) (e : Entry) :
    Fit P (d.loseEntry q e).pool.lanes := by
  simpa [Device.loseEntry] using h.upd q (f := fun p => { p with lossCount := sat16 p.lossCount 1, gap := true })
    (hP.shrink (h q) le_rfl (.inr (sat16_le _ _)))

theorem foldl_loseEntry_fit (es : List Entry) {d : Device} (h : Fit P d.pool.lanes) (q : Fin 17) :
    Fit P (es.foldl (fun d e => d.loseEntry q e) d).pool.lanes := by
  induction es generalizing d with
  | nil => exact h
  | cons e es ih => exact ih (loseEntry_fit hP h q e)

theorem emptyQueue_fit {d : Device} (h : Fit P d.pool.lanes) (q : Fin 17) : Fit P (d.emptyQueue q).pool.lanes := by
  have h0 : Fit P (d.updPend q fun n =>
      { n with queue := [], waiting := false, waitTimer := none, lastSet := none }).pool.lanes :=
    h.upd q (hP.shrink (h q) (Nat.zero_le _) (.inl le_rfl))
  have h1 := fun es => foldl_loseEntry_fit hP es h0 q
  unfold Device.emptyQueue
  dsimp only
  split
  · exact h1 _
  · exact h1 _

theorem attempt_fit {d : Device} (h : Fit P d.pool.lanes) (q : Fin 17) : Fit P (d.attempt q).pool.lanes := by
  have hpop := h.upd q (f := PendLane.popHead) (popHead_bound hP (h q))
  have hwait : ∀ s, Fit P ((d.updPool fun p => { p with lastServed := q }).waitHead q s).pool.lanes := fun s =>
    h.upd q (f := fun n => { n with waiting := true, waitTimer := _, lastSet := some s })
      (hP.shrink (h q) le_rfl (.inl le_rfl))
  unfold Device.attempt
  split
  · exact h
  · dsimp only
    split
    · simpa [Device.discardHead, Device.flagRefused] using hpop
    · split
      · exact hwait _
      · split
        · simpa [Device.admitHead] using
            h.upd q (f := fun n => { n with gap := false }.popHead)
              (hP.shrink (h q) (by simp [PendLane.popHead]) (.inl le_rfl))
        · exact hwait _

theorem admission_fit {d : Device} (h : Fit P d.pool.lanes) : Fit P (admission d).pool.lanes := by
  unfold admission
  split
  · exact attempt_fit hP h _
  · exact h

theorem limitExpiry_fit {d : Device} (h : Fit P d.pool.lanes) (q : Fin 17) : Fit P (limitExpiry q d).pool.lanes := by
  have hlose := fun e => loseEntry_fit hP (d := d.updPend q PendLane.popHead)
    (by simpa using h.upd q (f := PendLane.popHead) (popHead_bound hP (h q))) q e
  unfold limitExpiry
  dsimp only
  split
  · split
    · exact hlose _
    · exact hlose _
  · exact h

theorem blank_fit (cause : ResetCause) (i : Inputs) : Fit P (Device.blank cause i).pool.lanes := by
  intro q
  simpa [Device.blank, resetPool] using hP.fresh

theorem startUp_fit (cause : ResetCause) (i : Inputs) : Fit P (startUp cause i).pool.lanes := by
  have h1 := (blank_fit hP cause i).told hP (tell_touches _ deviceQueue
    { kind := .deviceStarted, detail1 := byteOf cause.code } (by rfl) .offers (by decide))
  unfold startUp
  dsimp only
  split
  · exact h1
  · exact h1.told hP (supplyFaultTaken_touches _ .offers (by decide))

theorem act_fit {c : Instr} {d e : Device} (ha : Act c d e) (h : Fit P d.pool.lanes) : Fit P e.pool.lanes := by
  by_cases hq : Block.offers ∈ footprint c
  · cases ha with
    | nothing => exact h
    | resetLane l => exact (emptyQueue_fit hP h _).told hP (resetLane_touches_emptied d l .offers (by decide))
    | readPool =>
      intro q
      simpa [Pool.cleared] using hP.shrink (p' := { d.pool.lanes[q] with lossCount := 0 }) (h q) le_rfl
        (.inl (Nat.zero_le _))
    | admission => exact admission_fit hP h
    | limitExpiry q => exact limitExpiry_fit hP h q
    | frameEnd => exact h
    | trunkReset | powerOn | resetPinRise => exact startUp_fit hP _ _
    | powerOnHeld i | resetPinLow i => exact blank_fit hP .pin i
    | setDrawer row | setSupply row | setSupplyFault row => simp [footprint_setDrawerRow row] at hq
    | _ => simp [footprint] at hq
  · exact h.told hP (ha.touches _ hq)

theorem tick_fit {d : Device} (h : Fit P d.pool.lanes) : Fit P d.tick.pool.lanes := by
  unfold Device.tick
  dsimp only
  split
  · exact h
  · intro q
    simpa [Device.ms] using hP.shrink (p' := d.pool.lanes[q].ms) (h q) le_rfl (.inl le_rfl)

/-- Every step keeps a bound on the lanes' queues or loss counters. -/
theorem step_keeps_fit {s t : State} (h : step s = .next t) (hs : Fit P s.dev.pool.lanes) : Fit P t.dev.pool.lanes :=
  step_keeps (P := fun d => Fit P d.pool.lanes) (fun _ _ hp => hp) (act_fit hP) (fun _ => tick_fit hP) h hs

end

end Sys2Proof.QueueBounds

/-! ## What a step does to the trunk port -/

namespace Sys2Proof.Machine

/-- The trunk port after the reply of the request in progress is formed (R188, R189). -/
def Trunk.reply (t : Trunk) (a : Answer) : Trunk :=
  match t.inProgress with
  | none => t
  | some r =>
    { t with
      replies := t.replies ++ [{ tag := r.tag, request := r.replyCode, code := a.code, fields := a.fields }]
      inProgress := none }

theorem reply_trunk (d : Device) (a : Answer) : (d.reply a).trunk = d.trunk.reply a := rfl

/-- The trunk port after a request is taken (R188). -/
def Trunk.begin (t : Trunk) (r : Request) : Trunk := { t with requests := t.requests.tail, inProgress := some r }

theorem begin_trunk (d : Device) (r : Request) : (d.begin r).trunk = d.trunk.begin r := rfl

/-- What a row's act, or a microsecond, can make of the trunk port. -/
inductive TrunkMove (k : Trunk) : Trunk → Prop
  | same : TrunkMove k k
  | replied (a) : TrunkMove k (k.reply a)
  | zeroed : TrunkMove k k.zeroCounters
  | clock (t) : TrunkMove k { k with clock := t }
  | closed : TrunkMove k { k with takingClosed := true }
  | arrived (r) : TrunkMove k ((k.waitIdle true).arrive r)
  | credited : TrunkMove k (k.waitIdle true)
  | ignored : TrunkMove k { k.waitIdle true with ignoredCredits := sat16 k.ignoredCredits 1 }
  | discarded (why) : TrunkMove k ((k.waitIdle true).discard why)
  | abandoned : TrunkMove k k.abandon
  | waited : TrunkMove k k.waitCharacter
  | idled : TrunkMove k k.idleSeen
  | stored (c) : TrunkMove k (k.storeCharacter c)
  | sentReply (r rest) (h : k.replies = r :: rest) :
      TrunkMove k { k with replies := rest, transmitter := .sending (.reply r) }
  | sent (x) : TrunkMove k { k with transmitter := x }
  | gapEnded : TrunkMove k k.gapEnd
  | reset (cause i) : TrunkMove k (resetTrunk cause i)

theorem TrunkMove.of_eq {k k' : Trunk} (h : k' = k) : TrunkMove k k' := h ▸ .same

theorem verifyWalkEnd_trunk (d : Device) : TrunkMove d.trunk (verifyWalkEnd d).trunk := by
  unfold verifyWalkEnd
  split
  · exact .same
  · dsimp only
    split
    · exact .replied _
    · exact .replied _

theorem walkEnd_trunk (d : Device) : TrunkMove d.trunk d.walkEnd.trunk := by
  unfold Device.walkEnd
  split
  · exact .same
  · split
    · exact .replied _
    · exact .same

theorem creditTo_trunk (d : Device) (c n : Nat) : (d.creditTo c n).trunk = d.trunk ∨
    (d.creditTo c n).trunk = { d.trunk with ignoredCredits := sat16 d.trunk.ignoredCredits 1 } := by
  unfold Device.creditTo
  split
  · unfold Device.credit
    split
    · exact .inr rfl
    · exact .inl rfl
    · exact .inl (by simp)
  · exact .inr rfl

theorem startUp_trunk (cause : ResetCause) (i : Inputs) : (startUp cause i).trunk = resetTrunk cause i := by
  unfold startUp
  dsimp only
  split
  · simp [Device.blank]
  · refine Eq.trans (supplyFaultTaken_touches _ .trunk (by decide)) ?_
    simp [Device.blank]

theorem Act.trunk {c : Instr} {d e : Device} (ha : Act c d e) : TrunkMove d.trunk e.trunk := by
  by_cases hq : Block.trunk ∈ footprint c
  · cases ha with
    | nothing => exact .same
    | verifyWalkEnd => exact verifyWalkEnd_trunk d
    | tableWalkEnd => exact walkEnd_trunk d
    | status => exact .zeroed
    | setTime t => exact .clock t
    | deviceReset => exact .closed
    | requestFrame b =>
      unfold Machine.requestFrame
      split
      · exact .arrived _
      · exact .same
    | creditFrame b _ c n =>
      rcases creditTo_trunk (d.updTrunk fun t => t.waitIdle true) c n with h | h
      · rw [h]
        exact .credited
      · rw [h]
        exact .ignored
    | frameRejected b =>
      unfold Machine.frameRejected
      split
      · exact .discarded _
      · exact .same
    | frameAbandoned c =>
      unfold Machine.frameAbandoned
      split
      · exact .abandoned
      · exact .same
    | waitIdleCharacter => exact .waited
    | receiverIdle => exact .idled
    | sendReply r rest _ hr => exact .sentReply r rest hr
    | sendEvent c r urgent f => exact .sent (.sending f)
    | frameEnd => exact .sent .gap
    | trunkReset i => exact startUp_trunk .trunk i ▸ .reset .trunk i
    | transmitGapEnd => exact .gapEnded
    | powerOn i => exact startUp_trunk .powerOn i ▸ .reset .powerOn i
    | resetPinRise i => exact startUp_trunk .pin i ▸ .reset .pin i
    | powerOnHeld i | resetPinLow i => exact .reset .pin i
    | storeCharacter c => exact .stored c
    | setDrawer row | setSupply row | setSupplyFault row => simp [footprint_setDrawerRow row] at hq
    | _ => simp [footprint] at hq
  · exact .of_eq (ha.touches _ hq)

theorem tick_trunk (d : Device) : TrunkMove d.trunk d.tick.trunk := by
  unfold Device.tick
  dsimp only
  split
  · exact .same
  · exact .clock _

/-- A property of the trunk port holds after every step, if every move of the port and every taking keeps it. -/
theorem step_keeps_trunk {P : Trunk → Prop} (hmove : ∀ {k k'}, TrunkMove k k' → P k → P k')
    (htake : ∀ {k r}, k.takeable = some r → P k → P (k.begin r)) {s t : State} (h : step s = .next t)
    (hp : P s.dev.trunk) : P t.dev.trunk := by
  unfold step at h
  split at h
  · rcases exec_effect h with ha | ⟨r, x, hr, ha, rfl | ⟨a, hx⟩⟩
    · exact hmove ha.trunk hp
    · exact hmove ha.trunk (htake hr hp)
    · rw [hx]
      exact hmove (.replied a) (hmove ha.trunk (htake hr hp))
  · rcases s.run_cases t _ h with rfl | ⟨-, rfl⟩
    · exact hp
    · exact hmove (tick_trunk _) hp

end Sys2Proof.Machine

/-! ### The request FIFO and the reply FIFO -/

namespace Sys2Proof.QueueBounds

open Sys2Proof.Machine Sys2Proof.Safety Sys2Proof.Claims

/-- Both FIFOs hold at most 4, a reserved reply place counted. -/
def FifosFit (k : Trunk) : Prop :=
  k.requests.length ≤ 4 ∧ k.replies.length + (if k.inProgress.isSome then 1 else 0) ≤ 4

theorem arrive_fifos {k : Trunk} (h : FifosFit k) (r : Request) : FifosFit (k.arrive r) := by
  obtain ⟨hq, hr⟩ := h
  unfold Trunk.arrive
  split
  · next hlen => exact ⟨by simpa [Config.fifoDepth] using hlen, hr⟩
  · split
    · next hroom =>
      have hlen : k.replies.length + (if k.inProgress.isSome then 1 else 0) < 4 := by
        unfold Trunk.replyRoom at hroom
        exact of_decide_eq_true hroom
      refine ⟨hq, ?_⟩
      simp only [List.length_append, List.length_cons, List.length_nil]
      omega
    · exact ⟨hq, hr⟩

theorem reply_fifos {k : Trunk} (h : FifosFit k) (a : Answer) : FifosFit (k.reply a) := by
  obtain ⟨hq, hr⟩ := h
  unfold Trunk.reply
  split
  · exact ⟨hq, hr⟩
  · next hp => exact ⟨hq, by simpa [hp] using hr⟩

theorem move_fifos {k k' : Trunk} (hm : TrunkMove k k') (h : FifosFit k) : FifosFit k' := by
  cases hm with
  | replied a => exact reply_fifos h a
  | arrived r => exact arrive_fifos (k := k.waitIdle true) h r
  | discarded why => cases why <;> exact h
  | waited =>
    unfold Trunk.waitCharacter
    split <;> exact h
  | idled =>
    unfold Trunk.idleSeen
    split <;> exact h
  | stored c =>
    unfold Trunk.storeCharacter
    split <;> exact h
  | gapEnded =>
    unfold Trunk.gapEnd
    split <;> exact h
  | sentReply r rest hr =>
    obtain ⟨hq, hp⟩ := h
    rw [hr, List.length_cons] at hp
    exact ⟨hq, by dsimp only; omega⟩
  | reset cause i => exact ⟨by simp [resetTrunk], by simp [resetTrunk]⟩
  | _ => exact h

theorem begin_fifos {k : Trunk} {r : Request} (ht : k.takeable = some r) (h : FifosFit k) : FifosFit (k.begin r) := by
  obtain ⟨-, -, -, hlen⟩ := (k.takeable_eq_some r).mp ht
  refine ⟨?_, ?_⟩
  · have := h.1
    simp only [Trunk.begin, List.length_tail]
    omega
  · simpa [Trunk.begin] using hlen

/-- Settles O53: the pending queues grow by offers alone, which a full queue turns away; the FIFOs by the trunk port's
moves. -/
theorem stepKeepsQueueBounds : Obligations.StepKeepsQueueBounds := by
  intro s t ⟨hqueues, hfifos⟩ h
  exact ⟨step_keeps_fit length_bound h hqueues,
    step_keeps_trunk (P := FifosFit) move_fifos begin_fifos h hfifos⟩

end Sys2Proof.QueueBounds

/-! ## The supply stays sound (R154, R155, R158) -/

namespace Sys2Proof.SupplyKept

open Sys2Proof.Machine Sys2Proof.Safety

/-! ### The supply as the invariant sees it -/

/-- What `SupplySound` speaks of: the limits, the state of each unit, what each drawer holds and where its kick stands,
the inhibit and the wait list. -/
@[ext] structure Supply where
  limit   : Nat
  pending : Option Nat
  unit    : Fin 8 → UnitState
  held    : Fin 32 → Option (Fin 8)
  kick    : Fin 32 → KickState
  inhibit : Bool
  waits   : List (Fin 32)

def supply (u : DrawerUnit) : Supply :=
  { limit := u.supplyLimit, pending := u.pendingLimit, unit := fun i => u.units[i].state,
    held := fun n => u.drawers[n].unitHeld, kick := fun n => u.drawers[n].kick, inhibit := u.inhibit,
    waits := u.waitList }

structure Supply.Sound (s : Supply) : Prop where
  limit_range : 1 ≤ s.limit ∧ s.limit ≤ 8
  pending_lt  : ∀ k, s.pending = some k → 1 ≤ k ∧ k < s.limit
  unit_lt     : ∀ i, s.unit i ≠ .available → i.val < s.limit
  held_iff    : ∀ n, (s.held n).isSome ↔ s.kick n = .energized
  held_unit   : ∀ n i, s.held n = some i → s.unit i = .energizing
  held_inj    : ∀ n m, (s.held n).isSome → s.held n = s.held m → n = m
  inhibited   : s.inhibit = true → ∀ n, s.kick n ≠ .energized
  waits_nodup : s.waits.Nodup
  waits_iff   : ∀ n, n ∈ s.waits ↔ s.kick n = .waiting

theorem supplySound_iff (d : Device) : SupplySound d ↔ (supply d.drawers).Sound :=
  ⟨fun ⟨h1, h2, h3, h4, h5, h6, h7, h8, h9⟩ => ⟨h1, h2, h3, h4, h5, h6, h7, h8, h9⟩,
   fun ⟨h1, h2, h3, h4, h5, h6, h7, h8, h9⟩ => ⟨h1, h2, h3, h4, h5, h6, h7, h8, h9⟩⟩

/-! ### The moves of the supply, each of which keeps it sound -/

namespace Supply

variable {s : Supply}

/-- A drawer that holds no unit any more goes on to a state that needs none and is not WAITING. -/
def unhold (s : Supply) (n : Fin 32) (k : KickState) : Supply :=
  { s with held := Function.update s.held n none, kick := Function.update s.kick n k }

theorem Sound.unhold (h : s.Sound) {n : Fin 32} {k : KickState} (hk : k = .idle ∨ k = .confirming)
    (hw : s.kick n ≠ .waiting) : (s.unhold n k).Sound where
  limit_range := h.limit_range
  pending_lt := h.pending_lt
  unit_lt := h.unit_lt
  held_iff m := by
    rcases eq_or_ne m n with rfl | hm
    · rcases hk with rfl | rfl <;> simp [Supply.unhold]
    · simpa [Supply.unhold, hm] using h.held_iff m
  held_unit m i := by
    rcases eq_or_ne m n with rfl | hm
    · simp [Supply.unhold]
    · simpa [Supply.unhold, hm] using h.held_unit m i
  held_inj m p := by
    rcases eq_or_ne m n with rfl | hm
    · simp [Supply.unhold]
    · rcases eq_or_ne p n with rfl | hp
      · intro hs he
        simp [Supply.unhold, hm] at hs he
        simp [he] at hs
      · simpa [Supply.unhold, hm, hp] using h.held_inj m p
  inhibited hi m := by
    rcases eq_or_ne m n with rfl | hm
    · rcases hk with rfl | rfl <;> simp [Supply.unhold]
    · simpa [Supply.unhold, hm] using h.inhibited hi m
  waits_nodup := h.waits_nodup
  waits_iff m := by
    rcases eq_or_ne m n with rfl | hm
    · have := h.waits_iff m
      rcases hk with rfl | rfl <;> simp_all [Supply.unhold]
    · simpa [Supply.unhold, hm] using h.waits_iff m

/-- A unit that no drawer holds changes its state. -/
def setUnit (s : Supply) (i : Fin 8) (st : UnitState) : Supply := { s with unit := Function.update s.unit i st }

theorem Sound.setUnit (h : s.Sound) {i : Fin 8} {st : UnitState} (hfree : ∀ n, s.held n ≠ some i)
    (hst : st = .available ∨ s.unit i ≠ .available) : (s.setUnit i st).Sound :=
  { h with
    unit_lt := by
      intro j hj
      rcases eq_or_ne j i with rfl | hji
      · rcases hst with rfl | hst
        · simp [Supply.setUnit] at hj
        · exact h.unit_lt j hst
      · exact h.unit_lt j (by simpa [Supply.setUnit, hji] using hj)
    held_unit := by
      intro n j hn
      have hji : j ≠ i := fun e => hfree n (e ▸ hn)
      simpa [Supply.setUnit, hji] using h.held_unit n j hn }

/-- With no unit in use any limit of the right range may be put in force, with none pending. -/
def setLimit (s : Supply) (k : Nat) : Supply := { s with limit := k, pending := none }

theorem Sound.setLimit (h : s.Sound) {k : Nat} (hk : 1 ≤ k ∧ k ≤ 8)
    (hu : s.limit ≤ k ∨ ∀ i, s.unit i = .available) : (s.setLimit k).Sound :=
  { h with
    limit_range := hk
    pending_lt := by simp [Supply.setLimit]
    unit_lt := by
      intro i hi
      rcases hu with hu | hu
      · exact Nat.lt_of_lt_of_le (h.unit_lt i hi) hu
      · exact absurd (hu i) hi }

/-- A lower limit waits. -/
def setPending (s : Supply) (k : Nat) : Supply := { s with pending := some k }

theorem Sound.setPending (h : s.Sound) {k : Nat} (hk : 1 ≤ k ∧ k < s.limit) : (s.setPending k).Sound :=
  { h with pending_lt := by simpa [Supply.setPending] using hk }

/-- An IDLE kick becomes WAITING at the tail of the wait list. -/
def accept (s : Supply) (n : Fin 32) : Supply :=
  { s with kick := Function.update s.kick n .waiting, waits := s.waits ++ [n] }

theorem Sound.accept (h : s.Sound) {n : Fin 32} (hk : s.kick n = .idle) : (s.accept n).Sound :=
  have hnot : n ∉ s.waits := fun hm => by simp [(h.waits_iff n).mp hm] at hk
  { h with
    held_iff := by
      intro m
      rcases eq_or_ne m n with rfl | hm
      · simpa [Supply.accept, hk] using h.held_iff m
      · simpa [Supply.accept, hm] using h.held_iff m
    inhibited := by
      intro hi m
      rcases eq_or_ne m n with rfl | hm
      · simp [Supply.accept]
      · simpa [Supply.accept, hm] using h.inhibited hi m
    waits_nodup := List.nodup_append.mpr
      ⟨h.waits_nodup, List.nodup_singleton n, by rintro m hm p hp rfl; exact hnot (List.mem_singleton.mp hp ▸ hm)⟩
    waits_iff := by
      intro m
      rcases eq_or_ne m n with rfl | hm
      · simp [Supply.accept]
      · simpa [Supply.accept, hm] using h.waits_iff m }

/-- A kick that holds no unit is given up. -/
def abort (s : Supply) (n : Fin 32) : Supply :=
  { s with kick := Function.update s.kick n .idle, waits := s.waits.filter (· ≠ n) }

theorem Sound.abort (h : s.Sound) {n : Fin 32} (hk : s.kick n ≠ .energized) : (s.abort n).Sound :=
  { h with
    held_iff := by
      intro m
      rcases eq_or_ne m n with rfl | hm
      · simpa [Supply.abort, hk] using h.held_iff m
      · simpa [Supply.abort, hm] using h.held_iff m
    inhibited := by
      intro hi m
      rcases eq_or_ne m n with rfl | hm
      · simp [Supply.abort]
      · simpa [Supply.abort, hm] using h.inhibited hi m
    waits_nodup := h.waits_nodup.filter _
    waits_iff := by
      intro m
      rcases eq_or_ne m n with rfl | hm
      · simp [Supply.abort]
      · simpa [Supply.abort, hm] using h.waits_iff m }

/-- The oldest kick gets a free unit. -/
def grant (s : Supply) (n : Fin 32) (i : Fin 8) : Supply :=
  { s with
    unit := Function.update s.unit i .energizing, held := Function.update s.held n (some i)
    kick := Function.update s.kick n .energized, waits := s.waits.tail }

theorem Sound.grant (h : s.Sound) {n : Fin 32} {i : Fin 8} (hw : s.waits.head? = some n) (hi : i.val < s.limit)
    (hu : s.unit i = .available) (hin : s.inhibit = false) : (s.grant n i).Sound := by
  obtain ⟨rest, hrest⟩ : ∃ rest, s.waits = n :: rest := by
    cases hs : s.waits <;> simp_all
  have hnodup := h.waits_nodup
  rw [hrest, List.nodup_cons] at hnodup
  have hfree : ∀ m, s.held m ≠ some i := fun m hm => by simp [h.held_unit m i hm] at hu
  refine
    { limit_range := h.limit_range, pending_lt := h.pending_lt, unit_lt := ?unit_lt, held_iff := ?held_iff,
      held_unit := ?held_unit, held_inj := ?held_inj, inhibited := by simp [Supply.grant, hin],
      waits_nodup := ?waits_nodup, waits_iff := ?waits_iff }
  case unit_lt =>
    intro j hj
    rcases eq_or_ne j i with rfl | hji
    · exact hi
    · exact h.unit_lt j (by simpa [Supply.grant, hji] using hj)
  case held_iff =>
    intro m
    rcases eq_or_ne m n with rfl | hm
    · simp [Supply.grant]
    · simpa [Supply.grant, hm] using h.held_iff m
  case held_unit =>
    intro m j hm
    rcases eq_or_ne j i with rfl | hji
    · simp [Supply.grant]
    · rcases eq_or_ne m n with rfl | hmn
      · simp [Supply.grant, Ne.symm hji] at hm
      · simpa [Supply.grant, hji] using h.held_unit m j (by simpa [Supply.grant, hmn] using hm)
  case held_inj =>
    intro m p hs he
    rcases eq_or_ne m n with rfl | hm
    · rcases eq_or_ne p m with rfl | hp
      · rfl
      · exact absurd (by simpa [Supply.grant, hp] using he.symm) (hfree p)
    · rcases eq_or_ne p n with rfl | hp
      · exact absurd (by simpa [Supply.grant, hm] using he) (hfree m)
      · simp only [Supply.grant, ne_eq, hm, hp, not_false_eq_true, Function.update_of_ne] at hs he
        exact h.held_inj m p hs he
  case waits_nodup => simpa [Supply.grant, hrest] using hnodup.2
  case waits_iff =>
    intro m
    rcases eq_or_ne m n with rfl | hm
    · simpa [Supply.grant, hrest] using hnodup.1
    · have := h.waits_iff m
      simpa [Supply.grant, hrest, hm] using this

theorem Sound.setInhibit (h : s.Sound) {b : Bool} (hb : b = true → ∀ n, s.kick n ≠ .energized) :
    Sound { s with inhibit := b } := { h with inhibited := hb }

end Supply

/-! ### What the drawer unit's operations make of the supply -/

theorem supply_updDrawer (u : DrawerUnit) (n : Fin 32) (f : Drawer → Drawer) :
    supply { u with drawers := upd u.drawers n f } =
      { supply u with held := Function.update (supply u).held n (f u.drawers[n]).unitHeld
                      kick := Function.update (supply u).kick n (f u.drawers[n]).kick } := by
  refine Supply.ext rfl rfl rfl (funext fun m => ?held) (funext fun m => ?kick) rfl rfl
  all_goals
    rcases eq_or_ne m n with rfl | hm
    · simp [supply]
    · simp only [supply, upd_getElem_ne _ _ hm, Function.update_of_ne hm]

/-- Most of what happens to a drawer leaves its unit and its kick state alone. -/
theorem supply_updDrawer_keeps (u : DrawerUnit) (n : Fin 32) {f : Drawer → Drawer}
    (hu : (f u.drawers[n]).unitHeld = u.drawers[n].unitHeld) (hk : (f u.drawers[n]).kick = u.drawers[n].kick) :
    supply { u with drawers := upd u.drawers n f } = supply u := by
  rw [supply_updDrawer, hu, hk]
  exact Supply.ext rfl rfl rfl (Function.update_eq_self n _) (Function.update_eq_self n _) rfl rfl

theorem updDrawer_keeps (d : Device) (n : Fin 32) {f : Drawer → Drawer}
    (hu : (f d.drawers.drawers[n]).unitHeld = d.drawers.drawers[n].unitHeld)
    (hk : (f d.drawers.drawers[n]).kick = d.drawers.drawers[n].kick) :
    supply (d.updDrawer n f).drawers = supply d.drawers := supply_updDrawer_keeps d.drawers n hu hk

theorem supply_setUnit (u : DrawerUnit) (i : Fin 8) (v : SupplyUnit) :
    supply { u with units := u.units.set i v } = (supply u).setUnit i v.state := by
  refine Supply.ext rfl rfl (funext fun j => ?unit) rfl rfl rfl rfl
  rcases eq_or_ne j i with rfl | hj
  · simp [supply, Supply.setUnit]
  · have hne : i.val ≠ j.val := fun e => hj (Fin.ext e.symm)
    simp [supply, Supply.setUnit, hj, Vector.getElem_set_ne _ _ hne]

theorem unitsInUse_eq_zero (u : DrawerUnit) : u.unitsInUse = 0 ↔ ∀ i : Fin 8, (supply u).unit i = .available := by
  simp [DrawerUnit.unitsInUse, SupplyUnit.inUse, supply]

theorem Sound.freeUp {u : DrawerUnit} (h : (supply u).Sound) {i : Fin 8} (hi : ∀ n, (supply u).held n ≠ some i) :
    (supply (u.freeUp i)).Sound := by
  have hfreed := supply_setUnit u i { state := .available, timer := none } ▸ h.setUnit hi (.inl rfl)
  unfold DrawerUnit.freeUp
  dsimp only
  split
  · next k hk =>
    split
    · next hu =>
      have hrange := hfreed.pending_lt k hk
      exact hfreed.setLimit ⟨hrange.1, hrange.2.le.trans hfreed.limit_range.2⟩ (.inr ((unitsInUse_eq_zero _).mp hu))
    · exact hfreed
  · exact hfreed

theorem Sound.applyLimit {u : DrawerUnit} (h : (supply u).Sound) {k : Nat} (hk : 1 ≤ k ∧ k ≤ 8) :
    (supply (u.applyLimit k)).Sound := by
  unfold DrawerUnit.applyLimit
  split
  · next hu => exact h.setLimit hk (hu.imp_right (unitsInUse_eq_zero u).mp)
  · next hu => exact h.setPending ⟨hk.1, by simp only [supply]; omega⟩

/-- What `SET-DRAWER` writes next to the limit is no part of the supply that the invariant sees. -/
theorem supply_gap_monitor (u : DrawerUnit) (gap : Nat) (on : Bool) :
    supply { u with supplyGap := gap, monitor := on } = supply u := rfl

/-! ### Kicks accepted, granted and given up -/

theorem Sound.kicked {u v : DrawerUnit} (hk : Kicked u v) (h : (supply u).Sound) : (supply v).Sound := by
  induction hk with
  | refl => exact h
  | @accept v _ n hidle ih =>
    refine Eq.mp (congrArg Supply.Sound ?_) (ih.accept (n := n) hidle)
    unfold DrawerUnit.accept
    refine Supply.ext rfl rfl rfl ?_ ?_ rfl rfl
    · exact ((congrArg Supply.held (supply_updDrawer v n fun w => { w with kick := .waiting })).trans
        (Function.update_eq_self n _)).symm
    · exact (congrArg Supply.kick (supply_updDrawer v n fun w => { w with kick := .waiting })).symm

theorem supply_grant (u : DrawerUnit) (n : Fin 32) (i : Fin 8) :
    supply (u.grant n i) = (supply u).grant n i := by
  have hdrawer := supply_updDrawer u n fun w =>
    { w with kick := .energized, unitHeld := some i, openedInPulse := false, kickTimer := some u.drawers[n].pulseWidth }
  have hunit := supply_setUnit u i { state := .energizing, timer := some u.drawers[n].pulseWidth }
  unfold DrawerUnit.grant
  exact Supply.ext rfl rfl (congrArg Supply.unit hunit :) (congrArg Supply.held hdrawer :)
    (congrArg Supply.kick hdrawer :) rfl rfl

theorem kickGrant_sound {d : Device} (h : (supply d.drawers).Sound) : (supply (kickGrant d).drawers).Sound := by
  unfold kickGrant
  split
  · next n i hg =>
    obtain ⟨hin, -, hw, hi⟩ := d.drawers.nextGrant_spec n i hg
    obtain ⟨hlt, hav⟩ := d.drawers.freeUnit_spec i hi
    exact supply_grant d.drawers n i ▸ h.grant hw hlt hav hin
  · exact h

theorem supply_abortWaiting (d : Device) (n : Fin 32) (cause : Nat) :
    supply (d.abortWaiting n cause).drawers = (supply d.drawers).abort n := by
  have hdrawer := supply_updDrawer d.drawers n fun w => { w with kick := .idle }
  simp only [Device.abortWaiting, Device.offer_drawers, Device.updDrawers_drawers]
  exact Supply.ext rfl rfl rfl ((congrArg Supply.held hdrawer).trans (Function.update_eq_self n _) :)
    (congrArg Supply.kick hdrawer :) rfl rfl

/-- Kicks that hold no unit are given up one after another. -/
theorem abortAll_sound {d : Device} (cause : Nat) (ns : List (Fin 32)) (h : (supply d.drawers).Sound)
    (hk : ∀ n ∈ ns, (supply d.drawers).kick n ≠ .energized) :
    (supply (ns.foldl (fun d n => d.abortWaiting n cause) d).drawers).Sound := by
  induction ns generalizing d with
  | nil => exact h
  | cons n ns ih =>
    refine ih ?_ fun m hm => ?_
    · exact supply_abortWaiting d n cause ▸ h.abort (hk n List.mem_cons_self)
    · rw [supply_abortWaiting]
      rcases eq_or_ne m n with rfl | hne
      · simp [Supply.abort]
      · simpa [Supply.abort, hne] using hk m (List.mem_cons_of_mem _ hm)

/-! ### A supply fault (R162) -/

theorem held_of_energized {s : Supply} (h : s.Sound) {n : Fin 32} (hn : s.kick n = .energized) :
    ∃ i, s.held n = some i := Option.isSome_iff_exists.mp ((h.held_iff n).mpr hn)

theorem unhold_frees {s : Supply} (h : s.Sound) {n : Fin 32} {i : Fin 8} {k : KickState} (hi : s.held n = some i)
    (m : Fin 32) : (s.unhold n k).held m ≠ some i := by
  rcases eq_or_ne m n with rfl | hm
  · simp [Supply.unhold]
  · intro he
    have hmi : s.held m = some i := by simpa [Supply.unhold, hm] using he
    exact hm (h.held_inj m n (by simp [hmi]) (hmi.trans hi.symm))

theorem supply_cutPulse (d : Device) (n : Fin 32) {i : Fin 8} (hi : (supply d.drawers).held n = some i) :
    supply (d.cutPulse n).drawers = ((supply d.drawers).unhold n .idle).setUnit i .recovering := by
  have hdrawer := supply_updDrawer d.drawers n fun w => { w with kick := .idle, unitHeld := none, kickTimer := none }
  have hunit := supply_setUnit d.drawers i { state := .recovering, timer := some d.drawers.supplyGap }
  have hw : d.drawers.drawers[n].unitHeld = some i := hi
  simp only [Device.cutPulse, Device.offer_drawers, Device.updDrawers_drawers, hw]
  exact Supply.ext rfl rfl (congrArg Supply.unit hunit :) (congrArg Supply.held hdrawer :)
    (congrArg Supply.kick hdrawer :) rfl rfl

theorem cutPulse_sound {d : Device} (h : (supply d.drawers).Sound) {n : Fin 32}
    (hn : (supply d.drawers).kick n = .energized) : (supply (d.cutPulse n).drawers).Sound := by
  obtain ⟨i, hi⟩ := held_of_energized h hn
  rw [supply_cutPulse d n hi]
  refine (h.unhold (.inl rfl) (by simp [hn])).setUnit (unhold_frees h hi) (.inr ?_)
  simp [Supply.unhold, h.held_unit n i hi]

theorem cutPulse_kick {d : Device} (h : (supply d.drawers).Sound) {n : Fin 32}
    (hn : (supply d.drawers).kick n = .energized) :
    (supply (d.cutPulse n).drawers).kick = Function.update (supply d.drawers).kick n .idle := by
  obtain ⟨i, hi⟩ := held_of_energized h hn
  rw [supply_cutPulse d n hi]
  rfl

/-- All ENERGIZED kicks are cut one after another: none is left. -/
theorem cutAll_sound {d : Device} (ns : List (Fin 32)) (h : (supply d.drawers).Sound) (hnodup : ns.Nodup)
    (hk : ∀ n, n ∈ ns ↔ (supply d.drawers).kick n = .energized) :
    (supply (ns.foldl Device.cutPulse d).drawers).Sound ∧
      ∀ n, (supply (ns.foldl Device.cutPulse d).drawers).kick n ≠ .energized := by
  induction ns generalizing d with
  | nil => exact ⟨h, fun n hn => List.not_mem_nil ((hk n).mpr hn)⟩
  | cons n ns ih =>
    have hn := (hk n).mp List.mem_cons_self
    obtain ⟨hnot, hrest⟩ := List.nodup_cons.mp hnodup
    refine ih (cutPulse_sound h hn) hrest fun m => ?_
    rw [cutPulse_kick h hn]
    rcases eq_or_ne m n with rfl | hm
    · simpa using hnot
    · simpa [hm] using hk m

theorem abortAll_kick {d : Device} (cause : Nat) (ns : List (Fin 32)) {m : Fin 32}
    (hm : (supply d.drawers).kick m ≠ .energized) :
    (supply (ns.foldl (fun d n => d.abortWaiting n cause) d).drawers).kick m ≠ .energized := by
  induction ns generalizing d with
  | nil => exact hm
  | cons n ns ih =>
    refine ih ?_
    rw [supply_abortWaiting]
    rcases eq_or_ne m n with rfl | hne
    · simp [Supply.abort]
    · simpa [Supply.abort, hne] using hm

theorem supplyFaultTaken_sound {d : Device} (h : (supply d.drawers).Sound) :
    (supply d.supplyFaultTaken.drawers).Sound := by
  obtain ⟨hcut, hnone⟩ := cutAll_sound d.drawers.energized h ((List.nodup_finRange 32).filter _)
    (by simp [DrawerUnit.energized, supply])
  have habort := abortAll_sound 2 d.drawers.waitList hcut fun n _ => hnone n
  have hkick := fun n => abortAll_kick 2 d.drawers.waitList (hnone n)
  simp only [Device.supplyFaultTaken, Device.offer_drawers, Device.updDrawers_drawers]
  exact habort.setInhibit fun _ => hkick

/-! ### Pulses, openings and presence -/

/-- An ENERGIZED kick ends or goes on CONFIRMING: its unit recovers, or is AVAILABLE at once. -/
theorem recover_sound {u : DrawerUnit} (h : (supply u).Sound) {i : Fin 8} (hi : ∀ n, (supply u).held n ≠ some i)
    (hu : (supply u).unit i = .energizing) : (supply (u.recover i)).Sound := by
  unfold DrawerUnit.recover
  split
  · exact Sound.freeUp h hi
  · exact supply_setUnit u i _ ▸ h.setUnit hi (.inr (by simp [hu]))

theorem recover_drawers (u : DrawerUnit) (i : Fin 8) (v : Table Drawer 32) :
    { u.recover i with drawers := v } = { u with drawers := v }.recover i := by
  unfold DrawerUnit.recover DrawerUnit.freeUp
  dsimp only
  split
  · split
    · exact apply_ite (fun w : DrawerUnit => { w with drawers := v }) (_ = 0) _ _
    · rfl
  · rfl

theorem recover_drawers_eq (u : DrawerUnit) (i : Fin 8) : (u.recover i).drawers = u.drawers := by
  unfold DrawerUnit.recover DrawerUnit.freeUp
  dsimp only
  split
  · split
    · split <;> rfl
    · rfl
  · rfl

/-- The end of a pulse, and what its drawer's record becomes. -/
theorem releaseUnit_sound {u : DrawerUnit} (h : (supply u).Sound) {n : Fin 32} (hn : u.drawers[n].kick = .energized)
    {f : Drawer → Drawer} (hf : ∀ w, (f w).unitHeld = w.unitHeld)
    (hk : (∀ w, (f w).kick = .idle) ∨ ∀ w, (f w).kick = .confirming) :
    (supply { u.releaseUnit n with drawers := upd (u.releaseUnit n).drawers n f }).Sound := by
  replace hn : (supply u).kick n = .energized := hn
  obtain ⟨i, hi⟩ := held_of_energized h hn
  have hw : u.drawers[n].unitHeld = some i := hi
  obtain ⟨k, hkick, hfk⟩ : ∃ k, (k = .idle ∨ k = .confirming) ∧ ∀ w, (f w).kick = k := by
    rcases hk with hk | hk
    · exact ⟨_, .inl rfl, hk⟩
    · exact ⟨_, .inr rfl, hk⟩
  let v := upd (upd u.drawers n fun w => { w with unitHeld := none }) n f
  have hview : supply { u with drawers := v } = (supply u).unhold n k := by
    have h1 := supply_updDrawer { u with drawers := upd u.drawers n fun w => { w with unitHeld := none } } n f
    have h2 := supply_updDrawer u n fun w => { w with unitHeld := none }
    refine h1.trans (Supply.ext rfl rfl rfl ?_ ?_ rfl rfl)
    · simp only [hf, h2]
      simp [Supply.unhold]
    · simp only [hfk, h2]
      simp [Supply.unhold]
  have heq : { u.releaseUnit n with drawers := upd (u.releaseUnit n).drawers n f } = { u with drawers := v }.recover i := by
    simp only [DrawerUnit.releaseUnit, hw, recover_drawers_eq]
    exact recover_drawers u i v
  rw [heq]
  refine recover_sound (hview ▸ h.unhold hkick (by simp [hn])) ?_ ?_
  · rw [hview]
    exact unhold_frees h hi
  · exact h.held_unit n i hi

theorem pulseEnd_sound {d : Device} (h : (supply d.drawers).Sound) (n : Fin 32) :
    (supply (pulseEnd n d).drawers).Sound := by
  unfold pulseEnd
  dsimp only
  split
  · next hn =>
    split
    · rw [Device.offerDrawer_drawers]
      exact releaseUnit_sound (f := fun w => { w with kick := .idle, kickTimer := none }) h hn (fun _ => rfl)
        (.inl fun _ => rfl)
    · exact releaseUnit_sound (f := fun w => { w with kick := .confirming, kickTimer := some (w.confirmTime * 10) }) h
        hn (fun _ => rfl) (.inr fun _ => rfl)
  · exact h

/-- A CONFIRMING kick ends (R157, R159). -/
theorem confirming_ends {u : DrawerUnit} (h : (supply u).Sound) {n : Fin 32} (hn : u.drawers[n].kick = .confirming) :
    (supply { u with drawers := upd u.drawers n fun w => { w with kick := .idle, kickTimer := none } }).Sound := by
  replace hn : (supply u).kick n = .confirming := hn
  have hheld : (supply u).held n = none := by simpa [hn] using h.held_iff n
  rw [supply_updDrawer]
  refine Eq.mp (congrArg Supply.Sound ?_) (h.unhold (n := n) (k := .idle) (.inl rfl) (by simp [hn]))
  refine Supply.ext rfl rfl rfl ?_ rfl rfl rfl
  exact congrArg (Function.update (supply u).held n) hheld.symm

theorem confirmTimeout_sound {d : Device} (h : (supply d.drawers).Sound) (n : Fin 32) :
    (supply (confirmTimeout n d).drawers).Sound := by
  unfold confirmTimeout
  split
  · next hn =>
    rw [Device.offerDrawer_drawers]
    exact confirming_ends h hn
  · exact h

theorem opening_sound {d : Device} (h : (supply d.drawers).Sound) (n : Fin 32) :
    (supply (d.opening n).drawers).Sound := by
  have hopen : supply (d.updDrawer n Drawer.becomeOpen).drawers = supply d.drawers :=
    updDrawer_keeps d n rfl rfl
  have hkick : (d.updDrawer n Drawer.becomeOpen).drawers.drawers[n].kick = d.drawers.drawers[n].kick :=
    congrFun (congrArg Supply.kick hopen) n
  rw [← hopen] at h
  unfold Device.opening
  dsimp only
  split
  · rw [Device.offerDrawer_drawers, updDrawer_keeps (d.updDrawer n Drawer.becomeOpen) n (by rfl) (by rfl)]
    exact h
  · next hn =>
    rw [Device.offerDrawer_drawers, Device.offerDrawer_drawers]
    exact confirming_ends h (hkick.trans hn)
  · rwa [Device.offerDrawer_drawers]
  · next hn =>
    rw [supply_abortWaiting, Device.offerDrawer_drawers]
    refine h.abort ?_
    rw [show (supply _).kick n = _ from hkick.trans hn]
    decide

theorem closing_sound {d : Device} (h : (supply d.drawers).Sound) (n : Fin 32) :
    (supply (d.closing n).drawers).Sound := by
  unfold Device.closing
  dsimp only
  rw [Device.offerDrawer_drawers, updDrawer_keeps d n (by rfl) (by rfl)]
  exact h

theorem settle_keeps (w : Drawer) : w.settle.unitHeld = w.unitHeld ∧ w.settle.kick = w.kick := by
  unfold Drawer.settle
  dsimp only
  split <;> exact ⟨rfl, rfl⟩

theorem stabilityExpiry_sound {d : Device} (h : (supply d.drawers).Sound) (n : Fin 32) :
    (supply (stabilityExpiry n d).drawers).Sound := by
  have hstop : (supply (d.updDrawer n fun w => { w with stability := none }).drawers).Sound := by
    rwa [updDrawer_keeps d n (by rfl) (by rfl)]
  unfold stabilityExpiry
  dsimp only
  split
  · exact h
  · split
    · rwa [updDrawer_keeps _ n (settle_keeps _).1 (settle_keeps _).2]
    · split
      · exact hstop
      · split
        · exact opening_sound hstop n
        · exact closing_sound hstop n

theorem setOpenLimit_keeps (w : Drawer) (limit : Nat) :
    (w.setOpenLimit limit).unitHeld = w.unitHeld ∧ (w.setOpenLimit limit).kick = w.kick ∧
      (w.setOpenLimit limit).present = w.present := by
  unfold Drawer.setOpenLimit
  dsimp only
  split
  · exact ⟨rfl, rfl, rfl⟩
  · split
    · exact ⟨rfl, rfl, rfl⟩
    · split <;> exact ⟨rfl, rfl, rfl⟩

/-- A drawer is made ABSENT only while its kick is IDLE (R166). -/
theorem setPresence_keeps (w : Drawer) {on : Bool} (hb : on = true ∨ w.busy = false) :
    (w.setPresence on).unitHeld = w.unitHeld ∧ (w.setPresence on).kick = w.kick := by
  unfold Drawer.setPresence
  split
  · next hp =>
    refine ⟨rfl, ?_⟩
    have hidle : w.kick = .idle := by
      cases hk : w.kick <;> simp_all [Drawer.busy]
    exact hidle.symm
  all_goals exact ⟨rfl, rfl⟩

theorem busy_of_settings {w : Drawer} {on : Bool} {pulse confirm limit : Nat} (hb : on = true ∨ w.busy = false) :
    on = true ∨ ({ w with pulseWidth := pulse, confirmTime := confirm }.setOpenLimit limit).busy = false := by
  refine hb.imp_right fun hw => ?_
  obtain ⟨-, hkick, hpresent⟩ := setOpenLimit_keeps { w with pulseWidth := pulse, confirmTime := confirm } limit
  have hposition : ({ w with pulseWidth := pulse, confirmTime := confirm }.setOpenLimit limit).position =
      w.position := by
    unfold Drawer.setOpenLimit
    dsimp only
    split
    · rfl
    · split
      · rfl
      · split <;> rfl
  simpa [Drawer.busy, hkick, hpresent, hposition] using hw

theorem senseChange_sound {d : Device} (h : (supply d.drawers).Sound) (n : Fin 32) (o : Bool) :
    (supply (senseChange o n d).drawers).Sound := by
  unfold senseChange
  rw [updDrawer_keeps d n ?held ?kick]
  · exact h
  all_goals
    split
    · rfl
    · split <;> rfl

theorem unitRecovered_sound {d : Device} (h : (supply d.drawers).Sound) (i : Fin 8) :
    (supply (unitRecovered i d).drawers).Sound := by
  unfold unitRecovered
  split
  · next hr =>
    refine Sound.freeUp h fun n hn => ?_
    have hu : d.drawers.units[i].state = .energizing := h.held_unit n i hn
    rw [hr] at hu
    cases hu
  · exact h

theorem openTooLong_sound {d : Device} (h : (supply d.drawers).Sound) (n : Fin 32) :
    (supply (openTooLong n d).drawers).Sound := by
  unfold openTooLong
  dsimp only
  split
  · exact h
  · rw [updDrawer_keeps _ n (by rfl) (by rfl), Device.requestTone_drawers, Device.offerDrawer_drawers,
      updDrawer_keeps _ n (by rfl) (by rfl)]
    exact h

theorem supplyFall_sound {d : Device} (h : (supply d.drawers).Sound) : (supply (supplyFall d).drawers).Sound := by
  have hlow : (supply (d.updDrawers fun u => { u with supplyHigh := false }).drawers).Sound := h
  unfold supplyFall
  split
  · dsimp only
    split
    · exact supplyFaultTaken_sound hlow
    · exact hlow
  · exact h

/-- RESET-LANE gives up the lane's WAITING kicks and does nothing else to the drawer unit. -/
theorem resetLane_drawers (d : Device) (l : Fin 16) : ∃ e : Device, e.drawers = d.drawers ∧ (d.resetLane l).drawers =
    ((d.drawers.waitingOf l).foldl (fun d n => d.abortWaiting n 3) e).drawers := by
  refine ⟨((((((d.emptyQueue (laneQueue l)).clearRuntime l).updLane l LaneRec.laneReset).setLaneState l .closed).adopt
    l).updLane l LaneRec.enterClosedWake).offerLaneState l .closed .reset, ?_⟩
  have hempty : ((d.emptyQueue (laneQueue l)).clearRuntime l).drawers = d.drawers :=
    (clearRuntime_touches _ l .drawers (by decide)).trans (emptyQueue_touches d _ .drawers (by decide))
  simp [Device.resetLane, hempty]

/-! ### Every row keeps the supply sound -/

theorem blank_sound (cause : ResetCause) (i : Inputs) : (supply (Device.blank cause i).drawers).Sound := by
  constructor <;> simp [supply, Device.blank, resetDrawers, resetDrawer]

theorem startUp_sound (cause : ResetCause) (i : Inputs) : (supply (startUp cause i).drawers).Sound := by
  unfold startUp
  dsimp only
  split
  · exact blank_sound cause i
  · exact supplyFaultTaken_sound (blank_sound cause i)

theorem act_sound {c : Instr} {d e : Device} (ha : Act c d e) (h : (supply d.drawers).Sound) :
    (supply e.drawers).Sound := by
  by_cases hq : Block.kicks ∈ footprint c
  · cases ha with
    | nothing => exact h
    | resetLane l =>
      obtain ⟨x, hx, he⟩ := resetLane_drawers d l
      rw [← hx] at h
      rw [he]
      refine abortAll_sound 3 _ h fun n hn => ?_
      rw [← hx] at hn
      rw [(h.waits_iff n).mp (List.mem_of_mem_filter hn)]
      decide
    | clearInhibit => exact h.setInhibit (by simp)
    | setDrawer row n on pulse confirm limit _ hb =>
      rw [updDrawer_keeps d n ?held ?kick]
      · exact h
      case held => exact (setPresence_keeps _ (busy_of_settings hb)).1.trans (setOpenLimit_keeps _ limit).1
      case kick => exact (setPresence_keeps _ (busy_of_settings hb)).2.trans (setOpenLimit_keeps _ limit).2.1
    | setSupply row k gap on => exact Sound.applyLimit (supply_gap_monitor _ _ _ ▸ h) (by simp [clampTo])
    | setSupplyFault row k gap on =>
      exact supplyFaultTaken_sound (Sound.applyLimit (supply_gap_monitor _ _ _ ▸ h) (by simp [clampTo]))
    | clearCounter n => rwa [updDrawer_keeps d n (by rfl) (by rfl)]
    | senseChange n o => exact senseChange_sound h n o
    | stabilityExpiry n => exact stabilityExpiry_sound h n
    | kickGrant => exact kickGrant_sound h
    | pulseEnd n => exact pulseEnd_sound h n
    | confirmTimeout n => exact confirmTimeout_sound h n
    | unitRecovered i => exact unitRecovered_sound h i
    | openTooLong n => exact openTooLong_sound h n
    | supplyFall => exact supplyFall_sound h
    | supplyRise => exact h
    | frameEnd => exact h
    | trunkReset | powerOn | resetPinRise => exact startUp_sound _ _
    | powerOnHeld i | resetPinLow i => exact blank_sound .pin i
    | _ => simp [footprint] at hq
  · exact Sound.kicked (ha.touches _ hq) h

theorem limitMs_keeps (w : Drawer) : w.limitMs.unitHeld = w.unitHeld ∧ w.limitMs.kick = w.kick := by
  unfold Drawer.limitMs
  split
  · exact ⟨rfl, rfl⟩
  · split <;> exact ⟨rfl, rfl⟩

theorem supply_ms (u : DrawerUnit) :
    supply { u with drawers := mapTab u.drawers Drawer.ms, units := mapTab u.units SupplyUnit.ms } = supply u := by
  simp [supply, SupplyUnit.ms, Drawer.ms, limitMs_keeps]

theorem tick_sound {d : Device} (h : (supply d.drawers).Sound) : (supply d.tick.drawers).Sound := by
  unfold Device.tick
  dsimp only
  split
  · exact h
  · exact (supply_ms d.drawers).symm ▸ h

/-- Settles O54: each row moves the supply by grants, releases, cuts and limits that keep it sound. -/
theorem stepKeepsSupply : Obligations.StepKeepsSupply := by
  intro s t hs h
  exact (supplySound_iff _).mpr (step_keeps (P := fun d => (supply d.drawers).Sound) (fun _ _ hp => hp) act_sound
    (fun _ => tick_sound) h ((supplySound_iff _).mp hs))

end Sys2Proof.SupplyKept

/-! ## Slots, references and consumers stay sound (R110, R122, R128, R140) -/

namespace Sys2Proof.SlotsKept

open Sys2Proof.Machine Sys2Proof.Safety

/-! ### The pool against a count of references -/

/-- The free list and the slots, held against how many references to each slot stand somewhere. -/
structure PoolFits (p : Pool) (refs : Fin 512 → Nat) : Prop where
  nodup   : p.freeList.Nodup
  free    : ∀ r, r ∈ p.freeList ↔ p.slots[r] = none
  counted : ∀ r, ((p.slots[r].map Slot.refs).getD 0) = refs r
  used    : ∀ r : Fin 512, p.slots[r].isSome → 0 < refs r
  low     : p.lowWater ≤ p.freeCount

theorem slot_set (v : Table (Option Slot) 512) (k r : Fin 512) (x : Option Slot) :
    (v.set k x)[r] = if r = k then x else v[r] := by
  simp only [Fin.getElem_fin, Vector.getElem_set, Fin.ext_iff]
  exact if_congr eq_comm rfl rfl

/-- One reference given up is one less counted (R111). -/
theorem PoolFits.giveUp {p : Pool} {refs : Fin 512 → Nat} (h : PoolFits p refs) {k : Fin 512} (hk : 1 ≤ refs k) :
    PoolFits (p.giveUp k) (Function.update refs k (refs k - 1)) := by
  obtain ⟨s, hs⟩ : ∃ s, p.slots[k] = some s := by
    cases hs : p.slots[k] with
    | none =>
      have := h.counted k
      simp [hs] at this
      omega
    | some s => exact ⟨s, rfl⟩
  have hrefs : s.refs = refs k := by simpa [hs] using h.counted k
  have hnot : k ∉ p.freeList := fun hm => by simp [(h.free k).mp hm] at hs
  unfold Pool.giveUp
  rw [hs]
  dsimp only
  split
  · next hle =>
    have hone : refs k - 1 = 0 := by omega
    refine
      { nodup := List.nodup_append.mpr ⟨h.nodup, List.nodup_singleton k, ?_⟩, free := fun r => ?_,
        counted := fun r => ?_, used := fun r hr => ?_, low := ?_ }
    · rintro r hr x hx rfl
      exact hnot (List.mem_singleton.mp hx ▸ hr)
    · rw [slot_set]
      rcases eq_or_ne r k with rfl | hrk
      · simp
      · simpa [hrk] using h.free r
    · rw [slot_set]
      rcases eq_or_ne r k with rfl | hrk
      · simp [hone]
      · simpa [hrk] using h.counted r
    · rw [slot_set] at hr
      rcases eq_or_ne r k with rfl | hrk
      · simp at hr
      · simpa [hrk] using h.used r (by simpa [hrk] using hr)
    · have := h.low
      simp only [Pool.freeCount, List.length_append, List.length_singleton] at this ⊢
      omega
  · next hgt =>
    refine
      { nodup := h.nodup, free := fun r => ?_, counted := fun r => ?_, used := fun r hr => ?_, low := h.low }
    · rw [slot_set]
      rcases eq_or_ne r k with rfl | hrk
      · simpa using hnot
      · simpa [hrk] using h.free r
    · rw [slot_set]
      rcases eq_or_ne r k with rfl | hrk
      · simp [hrefs]
      · simpa [hrk] using h.counted r
    · rw [slot_set] at hr
      rcases eq_or_ne r k with rfl | hrk
      · simp only [Function.update_self]
        omega
      · simpa [hrk] using h.used r (by simpa [hrk] using hr)

/-- Several references given up, each of them counted before (R128). -/
theorem PoolFits.giveUpAll {p : Pool} {refs : Fin 512 → Nat} (h : PoolFits p refs) {rs : List (Fin 512)}
    (hrs : ∀ r, rs.count r ≤ refs r) : PoolFits (rs.foldl Pool.giveUp p) fun r => refs r - rs.count r := by
  induction rs generalizing p refs with
  | nil => simpa using h
  | cons k rs ih =>
    have hk : 1 ≤ refs k := by
      have := hrs k
      simp only [List.count_cons_self] at this
      omega
    have hcount (r : Fin 512) : (k :: rs).count r = rs.count r + if r = k then 1 else 0 := by
      rw [List.count_cons]
      exact congrArg _ (if_congr (beq_iff_eq.trans eq_comm) rfl rfl)
    refine Eq.mp (congrArg (PoolFits _) (funext fun r => ?_)) (ih (h.giveUp hk) fun r => ?_)
    · rcases eq_or_ne r k with rfl | hrk
      · simp only [Function.update_self, hcount, if_true]
        omega
      · simp only [hcount, if_neg hrk, Function.update_of_ne hrk, Nat.add_zero]
    · have := hrs r
      rcases eq_or_ne r k with rfl | hrk
      · simp only [Function.update_self, hcount, if_true] at this ⊢
        omega
      · rwa [hcount, if_neg hrk, Nat.add_zero, ← Function.update_of_ne hrk (refs k - 1) refs] at this

/-- A slot taken from the head of the free list, with a count of at least 1 (R114). -/
theorem PoolFits.fill {p : Pool} {refs : Fin 512 → Nat} (h : PoolFits p refs) {k : Fin 512} {rest : List (Fin 512)}
    (hf : p.freeList = k :: rest) {s : Slot} (hs : 0 < s.refs) {lanes : Table PendLane 17} :
    PoolFits { p with freeList := rest, lowWater := min p.lowWater rest.length, slots := p.slots.set k (some s),
                      lanes := lanes }
      (Function.update refs k s.refs) := by
  have hnodup := h.nodup
  rw [hf, List.nodup_cons] at hnodup
  refine { nodup := hnodup.2, free := fun r => ?_, counted := fun r => ?_, used := fun r hr => ?_,
           low := Nat.min_le_right _ _ }
  · dsimp only
    rw [slot_set]
    rcases eq_or_ne r k with rfl | hrk
    · simpa using hnodup.1
    · simpa [hrk, hf] using h.free r
  · dsimp only
    rw [slot_set]
    rcases eq_or_ne r k with rfl | hrk
    · simp
    · simpa [hrk] using h.counted r
  · dsimp only at hr
    rw [slot_set] at hr
    rcases eq_or_ne r k with rfl | hrk
    · simpa using hs
    · simpa [hrk] using h.used r (by simpa [hrk] using hr)

/-! ### Consumers, one by one -/

/-- What `ConsumersSound` asks of one consumer, and that it has at most one reference to a slot. -/
structure ConsumerOk (k : Consumer) : Prop where
  fits    : k.queued ≤ k.depth
  quiet   : k.state ≠ .active → k.queued = 0
  stalls  : k.stallTimer.isSome ↔ k.state = .active ∧ k.credit = 0 ∧ 0 < k.queued
  credit  : k.credit ≤ 255
  once    : ∀ r, refsTo k r ≤ 1

theorem syncStall_isSome (n : Nat) (k : Consumer) :
    (k.syncStall n).stallTimer.isSome ↔ k.state = .active ∧ k.credit = 0 ∧ 0 < k.queued := by
  unfold Consumer.syncStall
  dsimp only
  split
  · next h => simpa [Consumer.stalling, and_assoc] using h
  · next h => simpa [Consumer.stalling, and_assoc] using h

/-- A changed consumer whose stall timer is brought up to date is sound if all but its stall timer is. -/
theorem ConsumerOk.sync {k : Consumer} (n : Nat) (hfits : k.queued ≤ k.depth) (hquiet : k.state ≠ .active → k.queued = 0)
    (hcredit : k.credit ≤ 255) (honce : ∀ r, refsTo k r ≤ 1) : ConsumerOk (k.syncStall n) :=
  ⟨hfits, hquiet, syncStall_isSome n k, hcredit, honce⟩

/-- How many references to a slot stand in these consumers' queues. -/
def totalRefs (v : Table Consumer 8) (r : Fin 512) : Nat := ((List.finRange 8).map fun c => refsTo v[c] r).sum

/-- The pool and the consumers, sound together. -/
structure Sound (p : Pool) (v : Table Consumer 8) : Prop where
  pool : PoolFits p (totalRefs v)
  each : ∀ c : Fin 8, ConsumerOk v[c]

theorem sound_iff (d : Device) :
    SlotsSound d ∧ ConsumersSound d ↔ Sound d.pool d.delivery.consumers := by
  constructor
  · rintro ⟨⟨h1, h2, h3, h4, h5, h6⟩, hc⟩
    exact ⟨⟨h1, h2, h3, h4, h6⟩, fun c => ⟨(hc c).1, (hc c).2.1, (hc c).2.2.1, (hc c).2.2.2, h5 c⟩⟩
  · rintro ⟨⟨h1, h2, h3, h4, h6⟩, hc⟩
    exact ⟨⟨h1, h2, h3, h4, fun c => (hc c).once, h6⟩,
      fun c => ⟨(hc c).fits, (hc c).quiet, (hc c).stalls, (hc c).credit⟩⟩

/-! ### What changes nothing that matters -/

/-- A consumer without its loss flag and its drop counter. -/
def core (k : Consumer) : Consumer := { k with lossFlag := false, drops := 0 }

theorem ConsumerOk.of_core {k k' : Consumer} (h : ConsumerOk k) (hc : core k' = core k) : ConsumerOk k' := by
  have hcore : ConsumerOk (core k) := ⟨h.fits, h.quiet, h.stalls, h.credit, h.once⟩
  rw [← hc] at hcore
  exact ⟨hcore.fits, hcore.quiet, hcore.stalls, hcore.credit, hcore.once⟩

theorem refsTo_of_core {k k' : Consumer} (hc : core k' = core k) (r : Fin 512) : refsTo k' r = refsTo k r :=
  (congrArg (refsTo · r) hc : refsTo (core k') r = refsTo (core k) r)

theorem totalRefs_of_core {v w : Table Consumer 8} (hc : ∀ c : Fin 8, core w[c] = core v[c]) :
    totalRefs w = totalRefs v := by
  funext r
  unfold totalRefs
  simp only [fun c => refsTo_of_core (hc c) r]

/-- The slots, the free list and the low-water mark as they were, the consumers but for flags and drop counters. -/
theorem Sound.congr {p q : Pool} {v w : Table Consumer 8} (h : Sound p v) (hslots : q.slots = p.slots)
    (hfree : q.freeList = p.freeList) (hlow : q.lowWater = p.lowWater) (hc : ∀ c : Fin 8, core w[c] = core v[c]) :
    Sound q w := by
  obtain ⟨⟨h1, h2, h3, h4, h5⟩, heach⟩ := h
  refine ⟨?_, fun c => (heach c).of_core (hc c)⟩
  rw [totalRefs_of_core hc]
  constructor
  · rwa [hfree]
  · rwa [hfree, hslots]
  · rwa [hslots]
  · rwa [hslots]
  · rwa [Pool.freeCount, hfree, hlow]

theorem core_miss (k : Consumer) (n : Nat) : core (k.miss n) = core k := rfl

/-- An event offered changes the pending queues alone. -/
theorem Sound.offered {d : Device} {v : Table Consumer 8} (h : Sound d.pool v) (q : Fin 17) (n : Notice) :
    Sound (d.offer q n).pool v := by
  rw [Device.offer_slots]
  exact h.congr rfl rfl rfl fun _ => rfl

/-! ### References that leave a consumer -/

/-- One consumer changed: the total changes by its own change. -/
theorem totalRefs_upd (v : Table Consumer 8) (c : Fin 8) (f : Consumer → Consumer) (r : Fin 512) :
    totalRefs (upd v c f) r + refsTo v[c] r = totalRefs v r + refsTo (f v[c]) r := by
  have hsum (w : Table Consumer 8) : totalRefs w r = refsTo w[c] r + ∑ x ∈ Finset.univ.erase c, refsTo w[x] r := by
    rw [Finset.add_sum_erase Finset.univ (fun x => refsTo w[x] r) (Finset.mem_univ c), Fin.sum_univ_def]
    rfl
  have hrest : ∑ x ∈ Finset.univ.erase c, refsTo (upd v c f)[x] r = ∑ x ∈ Finset.univ.erase c, refsTo v[x] r :=
    Finset.sum_congr rfl fun x hx => by rw [upd_getElem_ne v f (Finset.ne_of_mem_erase hx)]
  rw [hsum, hsum v, hrest, upd_getElem_self]
  omega

theorem refsTo_le_total (v : Table Consumer 8) (c : Fin 8) (r : Fin 512) : refsTo v[c] r ≤ totalRefs v r :=
  List.le_sum_of_mem (List.mem_map_of_mem (List.mem_finRange c))

/-- A consumer gives up references: those are no more in its queues, and the pool has them back. -/
theorem Sound.drop {p : Pool} {v : Table Consumer 8} (h : Sound p v) {c : Fin 8} {f : Consumer → Consumer}
    {rs : List (Fin 512)} (hrs : ∀ r, refsTo (f v[c]) r + rs.count r = refsTo v[c] r) (hf : ConsumerOk (f v[c])) :
    Sound (rs.foldl Pool.giveUp p) (upd v c f) where
  pool := by
    refine Eq.mp (congrArg (PoolFits _) (funext fun r => ?_)) (h.pool.giveUpAll (rs := rs) fun r => ?_)
    · have := totalRefs_upd v c f r
      have := refsTo_le_total v c r
      have := hrs r
      omega
    · have := refsTo_le_total v c r
      have := hrs r
      omega
  each x := by
    rcases eq_or_ne x c with rfl | hx
    · rwa [upd_getElem_self]
    · rw [upd_getElem_ne v f hx]
      exact h.each x

/-! ### Flushes, depth limits and frames sent (R128, R138, R141, R145) -/

theorem refs_of_emptied {k : Consumer} (hu : k.urgentQ = []) (hr : k.routineQ = []) :
    k.queued = 0 ∧ ∀ r, refsTo k r = 0 := by
  simp [Consumer.queued, refsTo, hu, hr]

theorem count_refs (k : Consumer) (r : Fin 512) : k.refs.count r = refsTo k r := List.count_append

/-- A consumer whose queues are emptied, whatever else becomes of it. -/
theorem Sound.flushed {p : Pool} {v : Table Consumer 8} (h : Sound p v) {c : Fin 8} {f : Consumer → Consumer}
    (hu : (f v[c]).urgentQ = []) (hr : (f v[c]).routineQ = []) (hcredit : (f v[c]).credit ≤ 255) (n : Nat) :
    Sound (v[c].refs.foldl Pool.giveUp p) (upd v c fun k => (f k).syncStall n) := by
  obtain ⟨hq, hnone⟩ := refs_of_emptied hu hr
  refine h.drop (fun r => ?_) (.sync n (hq ▸ Nat.zero_le _) (fun _ => hq) hcredit fun r => hnone r ▸ Nat.zero_le 1)
  rw [show refsTo ((f v[c]).syncStall n) r = refsTo (f v[c]) r from rfl, hnone, Nat.zero_add, count_refs]

theorem flush_sound {d : Device} (h : Sound d.pool d.delivery.consumers) (c : Fin 8) :
    Sound (d.flush c).pool (d.flush c).delivery.consumers := by
  have hflushed := h.flushed (c := c)
    (f := fun k => { k with urgentQ := [], routineQ := [] }.miss d.delivery.consumers[c].refs.length) rfl rfl
    (h.each c).credit d.delivery.stallTime
  exact hflushed

theorem stallExpiry_sound {d : Device} (h : Sound d.pool d.delivery.consumers) (c : Fin 8) :
    Sound (stallExpiry c d).pool (stallExpiry c d).delivery.consumers := by
  have hflushed := h.flushed (c := c) (f := fun k => { { k with state := .stalled, urgentQ := [], routineQ := [] }.miss
    d.delivery.consumers[c].refs.length with lossFlag := true }) rfl rfl (h.each c).credit d.delivery.stallTime
  unfold stallExpiry
  split
  · exact h
  · dsimp only
    rw [Device.offer_delivery]
    exact hflushed.offered _ _

/-- What stays of a list from its front, and what its back gives up, make up the list. -/
theorem count_take_add_reverse_take {α : Type} [BEq α] (xs : List α) (n : Nat) (r : α) :
    (xs.take (xs.length - n)).count r + (xs.reverse.take n).count r = xs.count r := by
  rw [List.take_reverse, List.count_reverse, ← List.count_append, List.take_append_drop]

theorem trimmed_refs (k : Consumer) (depth : Nat) (r : Fin 512) :
    refsTo (k.trimmed depth) r + (k.excess depth).count r = refsTo k r := by
  have hu := count_take_add_reverse_take k.urgentQ (k.queued - depth - k.routineQ.length) r
  have hr := count_take_add_reverse_take k.routineQ (k.queued - depth) r
  simp only [refsTo, Consumer.trimmed, Consumer.excess, List.take_append, List.count_append, List.length_reverse]
  omega

theorem trimmed_queued (k : Consumer) (depth : Nat) : (k.trimmed depth).queued ≤ depth ∧
    (k.trimmed depth).queued ≤ k.queued := by
  simp only [Consumer.trimmed, Consumer.queued, List.length_take]
  omega

theorem setDepth_sound {d : Device} (h : Sound d.pool d.delivery.consumers) (c : Fin 8) (depth : Nat) :
    Sound (d.setDepth c depth).pool (d.setDepth c depth).delivery.consumers := by
  have hc := h.each c
  have hq := trimmed_queued d.delivery.consumers[c] depth
  refine h.drop (f := fun k => Consumer.syncStall d.delivery.stallTime
    { (k.trimmed depth).miss (d.delivery.consumers[c].excess depth).length with depth := depth })
    (trimmed_refs d.delivery.consumers[c] depth) (.sync _ hq.1 (fun hs => ?_) hc.credit fun r => ?_)
  · have := hc.quiet hs
    exact Nat.eq_zero_of_le_zero (this ▸ hq.2)
  · exact le_trans (le_of_le_of_eq (Nat.le_add_right _ _) (trimmed_refs d.delivery.consumers[c] depth r)) (hc.once r)

/-- A change of a consumer that leaves its queues alone. -/
theorem Sound.change {p : Pool} {v : Table Consumer 8} (h : Sound p v) {c : Fin 8} {f : Consumer → Consumer}
    (hu : (f v[c]).urgentQ = v[c].urgentQ) (hr : (f v[c]).routineQ = v[c].routineQ) (hf : ConsumerOk (f v[c])) :
    Sound p (upd v c f) :=
  h.drop (rs := []) (fun r => congrArg₂ (fun x y => List.count r x + List.count r y) hu hr) hf

/-- A new state and a new credit, with the stall timer brought up to date. -/
theorem ConsumerOk.restate {k : Consumer} (h : ConsumerOk k) (n : Nat) {s : ConsumerState} {credit : Nat}
    (hs : s ≠ .active → k.queued = 0) (hc : credit ≤ 255) :
    ConsumerOk ({ k with state := s, credit := credit }.syncStall n) := .sync n h.fits hs hc h.once

theorem changeConsumer_sound {d : Device} (h : Sound d.pool d.delivery.consumers) {c : Fin 8} {f : Consumer → Consumer}
    (hu : ∀ k, (f k).urgentQ = k.urgentQ) (hr : ∀ k, (f k).routineQ = k.routineQ)
    (hf : ConsumerOk ((f d.delivery.consumers[c]).syncStall d.delivery.stallTime)) :
    Sound (d.changeConsumer c f).pool (d.changeConsumer c f).delivery.consumers :=
  h.change (f := fun k => (f k).syncStall d.delivery.stallTime) (hu _) (hr _) hf

theorem activate_sound {d : Device} (h : Sound d.pool d.delivery.consumers) (c : Fin 8) :
    Sound (d.activate c).pool (d.activate c).delivery.consumers := by
  have hok {k : Consumer} (n : Nat) (hk : ConsumerOk k) : ConsumerOk (Consumer.syncStall n
      (if k.state = .inactive then { k with state := .active, credit := 0 } else k)) := by
    split
    · exact hk.restate n (by simp) (by simp)
    · exact hk.restate n hk.quiet hk.credit
  refine changeConsumer_sound h (fun k => ?_) (fun k => ?_) (hok _ (h.each c))
  all_goals split <;> rfl

theorem deactivate_sound {d : Device} (h : Sound d.pool d.delivery.consumers) (c : Fin 8) :
    Sound (d.deactivate c).pool (d.deactivate c).delivery.consumers := by
  have hempty : (d.flush c).delivery.consumers[c].queued = 0 := by
    simp [Device.flush, Device.changeConsumer, Consumer.syncStall, Consumer.miss, Consumer.queued]
  have hflush := flush_sound h c
  exact changeConsumer_sound hflush (fun _ => rfl) (fun _ => rfl)
    ((hflush.each c).restate _ (fun _ => hempty) (Nat.zero_le _))

theorem credit_sound {d : Device} (h : Sound d.pool d.delivery.consumers) (c : Fin 8) {n : Nat} (hn : n ≤ 255) :
    Sound (d.credit c n).pool (d.credit c n).delivery.consumers := by
  unfold Device.credit
  split
  · exact h
  · exact changeConsumer_sound h (fun _ => rfl) (fun _ => rfl)
      ((h.each c).restate _ (h.each c).quiet (Nat.min_le_left _ _))
  · rw [Device.offer_delivery]
    refine Sound.offered ?_ _ _
    exact changeConsumer_sound h (fun _ => rfl) (fun _ => rfl)
      ((h.each c).restate _ (fun hs => absurd rfl hs) hn)

theorem creditTo_sound {d : Device} (h : Sound d.pool d.delivery.consumers) (c : Nat) {n : Nat} (hn : n ≤ 255) :
    Sound (d.creditTo c n).pool (d.creditTo c n).delivery.consumers := by
  unfold Device.creditTo
  split
  · exact credit_sound h _ hn
  · exact h

/-- The queue's head leaves. -/
theorem takeHead_refs {k : Consumer} {x : Fin 512} {urgent : Bool}
    (hx : (if urgent then k.urgentQ else k.routineQ).head? = some x) (r : Fin 512) :
    refsTo (k.takeHead urgent) r + [x].count r = refsTo k r := by
  obtain ⟨rest, hrest⟩ : ∃ rest, (if urgent then k.urgentQ else k.routineQ) = x :: rest := by
    cases hq : (if urgent then k.urgentQ else k.routineQ) with
    | nil => simp [hq] at hx
    | cons y rest => simp_all
  cases urgent
  · simp only [Bool.false_eq_true, if_false] at hrest
    simp [Consumer.takeHead, refsTo, hrest, List.count_cons]
    omega
  · simp only [if_true] at hrest
    simp [Consumer.takeHead, refsTo, hrest, List.count_cons]
    omega

theorem takeHead_queued (k : Consumer) (urgent : Bool) : (k.takeHead urgent).queued ≤ k.queued ∧
    (k.takeHead urgent).depth = k.depth ∧ (k.takeHead urgent).state = k.state ∧
    (k.takeHead urgent).credit ≤ k.credit := by
  cases urgent <;> simp [Consumer.takeHead, Consumer.queued]

theorem chooseFrame_head {u : Delivery} {c : Fin 8} {r : Fin 512} {urgent : Bool}
    (h : u.chooseFrame = some (c, r, urgent)) :
    (if urgent then u.consumers[c].urgentQ else u.consumers[c].routineQ).head? = some r := by
  have hfirst {f : Consumer → List (Fin 512)} {c : Fin 8} {r : Fin 512} (hw : u.firstWith f = some (c, r)) :
      (f u.consumers[c]).head? = some r := by
    obtain ⟨x, -, hx⟩ := List.exists_of_findSome?_eq_some hw
    split at hx
    · obtain ⟨y, hy, he⟩ := Option.map_eq_some_iff.mp hx
      cases he
      exact hy
    · cases hx
  unfold Delivery.chooseFrame at h
  split at h
  · next hw =>
    cases h
    exact hfirst hw
  · split at h
    · next hw =>
      cases h
      exact hfirst hw
    · cases h

theorem takeFrame_sound {d : Device} (h : Sound d.pool d.delivery.consumers) {c : Fin 8} {r : Fin 512} {urgent : Bool}
    (hc : d.delivery.chooseFrame = some (c, r, urgent)) :
    Sound (d.takeFrame c r urgent).pool (d.takeFrame c r urgent).delivery.consumers := by
  have hk := h.each c
  obtain ⟨hq, hdepth, hstate, hcredit⟩ := takeHead_queued d.delivery.consumers[c] urgent
  have hrefs := takeHead_refs (chooseFrame_head hc)
  refine h.drop (rs := [r]) (f := fun k => (k.takeHead urgent).syncStall d.delivery.stallTime) hrefs
    (.sync _ (hdepth ▸ hq.trans hk.fits) (fun hs => ?_) (hcredit.trans hk.credit) fun x => ?_)
  · exact Nat.eq_zero_of_le_zero (hk.quiet (hstate ▸ hs) ▸ hq)
  · exact (Nat.le_add_right _ _).trans ((hrefs x).le.trans (hk.once x))

/-! ### Admission (R113 to R115) -/

def isTaking : Member → Bool
  | .taking _ => true
  | .out | .refused => false

/-- One consumer, as the delivery of a reference leaves it (R114, step 4). -/
def delivered (n : Nat) (r : Fin 512) (k : Consumer) : Member → Consumer
  | .taking p => (k.append r p).syncStall n
  | .refused => k.miss 1
  | .out => k

theorem deliver_getElem (u : Delivery) (s : SortedSet) (r : Fin 512) (c : Fin 8) :
    (u.deliver s r).consumers[c] = delivered u.stallTime r u.consumers[c] s[c] := by
  unfold Delivery.deliver
  rw [tab_getElem]
  cases s[c] <;> rfl

theorem taken_eq (s : SortedSet) : s.taken = (List.finRange 8).countP fun c => isTaking s[c] := by
  unfold SortedSet.taken
  refine congrArg (List.countP · (List.finRange 8)) (funext fun c => ?_)
  cases s[c] <;> rfl

theorem sum_map_ite {α : Type} (xs : List α) (p : α → Bool) : (xs.map fun x => if p x then 1 else 0).sum = xs.countP p := by
  induction xs with
  | nil => rfl
  | cons x xs ih => rw [List.map_cons, List.sum_cons, List.countP_cons, ih, Nat.add_comm]

theorem refsTo_append (k : Consumer) (r x : Fin 512) (p : Priority) :
    refsTo (k.append r p) x = refsTo k x + if x = r then 1 else 0 := by
  have hone : [r].count x = if x = r then 1 else 0 := by
    rw [List.count_singleton]
    exact if_congr (beq_iff_eq.trans eq_comm) rfl rfl
  cases p
  · simp only [Consumer.append, refsTo, List.count_append, hone]
    omega
  · simp only [Consumer.append, refsTo, List.count_append, hone]
    omega

theorem queued_append (k : Consumer) (r : Fin 512) (p : Priority) : (k.append r p).queued = k.queued + 1 := by
  cases p
  · simp only [Consumer.append, Consumer.queued, List.length_append, List.length_singleton]
    omega
  · simp only [Consumer.append, Consumer.queued, List.length_append, List.length_singleton]
    omega

theorem append_rest (k : Consumer) (r : Fin 512) (p : Priority) :
    (k.append r p).state = k.state ∧ (k.append r p).credit = k.credit ∧ (k.append r p).depth = k.depth := by
  cases p <;> exact ⟨rfl, rfl, rfl⟩

theorem refsTo_delivered (n : Nat) (r x : Fin 512) (k : Consumer) (m : Member) :
    refsTo (delivered n r k m) x = refsTo k x + if x = r ∧ isTaking m then 1 else 0 := by
  cases m with
  | taking p =>
    exact (refsTo_append k r x p).trans (by simp [isTaking])
  | _ => simp [delivered, isTaking, Consumer.miss, refsTo]

/-- A consumer is sorted as taking only if it is ACTIVE and below its depth limit (R127). -/
theorem sorted_taking {k : Consumer} {p : Option Priority} (h : isTaking (k.sorted p) = true) :
    k.state = .active ∧ k.queued < k.depth := by
  unfold Consumer.sorted at h
  split at h
  · cases h
  · cases h
  · cases h
  · next hs =>
    split at h
    · cases h
    · next hd => exact ⟨hs, Nat.lt_of_not_le hd⟩

theorem ConsumerOk.delivered {k : Consumer} (h : ConsumerOk k) (n : Nat) {r : Fin 512} (hr : refsTo k r = 0)
    {m : Member} (hm : isTaking m = true → k.state = .active ∧ k.queued < k.depth) :
    ConsumerOk (delivered n r k m) := by
  cases m with
  | taking p =>
    obtain ⟨hs, hq⟩ := hm rfl
    obtain ⟨hstate, hcredit, hdepth⟩ := append_rest k r p
    refine .sync n ?_ (fun hne => absurd (hstate.trans hs) hne) (hcredit ▸ h.credit) fun x => ?_
    · rw [queued_append, hdepth]
      exact hq
    · rw [refsTo_append]
      split
      · next he => rw [he, hr]
      · exact h.once x
  | refused => exact h.of_core rfl
  | out => exact h

theorem totalRefs_deliver (u : Delivery) (s : SortedSet) {r : Fin 512} (hr : totalRefs u.consumers r = 0) :
    totalRefs (u.deliver s r).consumers = Function.update (totalRefs u.consumers) r s.taken := by
  funext x
  have hsum : totalRefs (u.deliver s r).consumers x = totalRefs u.consumers x +
      ((List.finRange 8).map fun c => if x = r ∧ isTaking s[c] then 1 else 0).sum := by
    unfold totalRefs
    rw [← List.sum_map_add]
    refine congrArg List.sum (List.map_congr_left fun c _ => ?_)
    rw [deliver_getElem, refsTo_delivered]
  rw [hsum]
  rcases eq_or_ne x r with rfl | hx
  · simp only [true_and, hr, Nat.zero_add, sum_map_ite, Function.update_self, taken_eq]
  · simp [hx]

theorem admitHead_sound {d : Device} (h : Sound d.pool d.delivery.consumers) {q : Fin 17} {e : Entry} {s : SortedSet}
    {k : Fin 512} {rest : List (Fin 512)} (hf : d.pool.freeList = k :: rest) (ht : s.taken ≠ 0)
    (hs : ∀ c : Fin 8, isTaking s[c] = true →
      d.delivery.consumers[c].state = .active ∧ d.delivery.consumers[c].queued < d.delivery.consumers[c].depth) :
    Sound (d.admitHead q e s k rest).pool (d.admitHead q e s k rest).delivery.consumers := by
  have hzero : totalRefs d.delivery.consumers k = 0 := by
    have hnone : d.pool.slots[k] = none := (h.pool.free k).mp (hf ▸ List.mem_cons_self)
    simpa [hnone] using (h.pool.counted k).symm
  unfold Device.admitHead
  dsimp only
  rw [Device.updDelivery_pool, Device.updDelivery_delivery, Device.releaseBody_pool, Device.releaseBody_delivery,
    Device.updPool_pool, Device.updPool_delivery]
  refine ⟨?_, fun c => ?_⟩
  · rw [totalRefs_deliver _ _ hzero]
    exact h.pool.fill hf (s := ⟨_, _, s.taken⟩) (Nat.pos_of_ne_zero ht)
  · rw [deliver_getElem]
    have hr : refsTo d.delivery.consumers[c] k ≤ 0 := hzero ▸ refsTo_le_total _ c k
    exact (h.each c).delivered _ (Nat.le_zero.mp hr) (hs c)

theorem flagRefused_core (d : Device) (s : SortedSet) (c : Fin 8) :
    core (d.flagRefused s).delivery.consumers[c] = core d.delivery.consumers[c] := by
  unfold Device.flagRefused
  rw [Device.updDelivery_delivery, tab_getElem]
  split
  · exact core_miss _ 1
  · rfl

theorem flagMembers_core (d : Device) (s : SortedSet) (c : Fin 8) :
    core (d.flagMembers s).delivery.consumers[c] = core d.delivery.consumers[c] := by
  unfold Device.flagMembers
  rw [Device.updDelivery_delivery, tab_getElem]
  split
  · exact core_miss _ 1
  · rfl

theorem discardHead_sound {d : Device} (h : Sound d.pool d.delivery.consumers) (q : Fin 17) (e : Entry)
    (s : SortedSet) : Sound (d.discardHead q e s).pool (d.discardHead q e s).delivery.consumers := by
  unfold Device.discardHead
  refine h.congr ?_ ?_ ?_ fun c => ?_
  · simp [Device.flagRefused, Device.updPend]
  · simp [Device.flagRefused, Device.updPend]
  · simp [Device.flagRefused, Device.updPend]
  · rw [flagRefused_core]
    simp

theorem attempt_sound {d : Device} (h : Sound d.pool d.delivery.consumers) (q : Fin 17) :
    Sound (d.attempt q).pool (d.attempt q).delivery.consumers := by
  have hserved : Sound (d.updPool fun p => { p with lastServed := q }).pool d.delivery.consumers :=
    h.congr rfl rfl rfl fun _ => rfl
  unfold Device.attempt
  split
  · exact h
  · next e _ _ =>
    have hwait : Sound ((d.updPool fun p => { p with lastServed := q }).waitHead q
        (d.delivery.computeSet q e.ev.kind)).pool d.delivery.consumers := hserved.congr rfl rfl rfl fun _ => rfl
    dsimp only
    split
    · exact discardHead_sound hserved q _ _
    · next ht =>
      split
      · exact hwait
      · next hf =>
        split
        · refine admitHead_sound (d := d.updPool fun p => { p with lastServed := q }) hserved hf ht fun c hc => ?_
          rw [Delivery.computeSet, tab_getElem] at hc
          exact sorted_taking hc
        · exact hwait

theorem admission_sound {d : Device} (h : Sound d.pool d.delivery.consumers) :
    Sound (admission d).pool (admission d).delivery.consumers := by
  unfold admission
  split
  · exact attempt_sound h _
  · exact h

theorem limitExpiry_core (d : Device) (q : Fin 17) (c : Fin 8) :
    core (limitExpiry q d).delivery.consumers[c] = core d.delivery.consumers[c] := by
  unfold limitExpiry
  dsimp only
  split
  · split
    · rw [flagMembers_core]
      simp
    · simp
  · rfl

theorem emptyQueue_core (d : Device) (q : Fin 17) (c : Fin 8) :
    core (d.emptyQueue q).delivery.consumers[c] = core d.delivery.consumers[c] := by
  have hlost (es : List Entry) (x : Device) : (es.foldl (fun d e => d.loseEntry q e) x).delivery = x.delivery := by
    induction es generalizing x with
    | nil => rfl
    | cons e es ih => exact (ih _).trans (by simp)
  unfold Device.emptyQueue
  dsimp only
  split
  · rw [flagMembers_core]
    exact congrArg (fun u : Delivery => core u.consumers[c]) (hlost _ _)
  · exact congrArg (fun u : Delivery => core u.consumers[c]) (hlost _ _)

/-! ### Every row keeps them sound -/

theorem blank_sound (cause : ResetCause) (i : Inputs) :
    Sound (Device.blank cause i).pool (Device.blank cause i).delivery.consumers where
  pool := by
    constructor <;> simp [Device.blank, resetPool, resetDelivery, totalRefs, refsTo, resetConsumer, Pool.freeCount,
      List.nodup_finRange]
  each c := by
    have hc : (Device.blank cause i).delivery.consumers[c] =
        resetConsumer (if c = 0 then .active else .inactive) := by simp [Device.blank, resetDelivery]
    rw [hc]
    constructor <;> simp [resetConsumer, Consumer.queued, refsTo]

/-- What leaves the pool but for its queues, and the consumers, alone keeps them sound. -/
theorem Sound.untouched {d e : Device} (h : Sound d.pool d.delivery.consumers) {bs : List Block}
    (ht : Touches bs d e) (hs : Block.slots ∉ bs) (hc : ∀ c : Fin 8, core e.delivery.consumers[c] =
      core d.delivery.consumers[c]) : Sound e.pool e.delivery.consumers := by
  have hpool : { e.pool with lanes := d.pool.lanes } = d.pool := ht .slots hs
  exact h.congr (congrArg Pool.slots hpool :) (congrArg Pool.freeList hpool :) (congrArg Pool.lowWater hpool :) hc

theorem core_of_eq {d e : Device} (h : e.delivery.consumers = d.delivery.consumers) (c : Fin 8) :
    core e.delivery.consumers[c] = core d.delivery.consumers[c] := by rw [h]

theorem startUp_sound (cause : ResetCause) (i : Inputs) :
    Sound (startUp cause i).pool (startUp cause i).delivery.consumers := by
  have hstart := (blank_sound cause i).offered deviceQueue { kind := .deviceStarted, detail1 := byteOf cause.code }
  unfold startUp
  dsimp only
  split
  · rw [Device.offer_delivery]
    exact hstart
  · have ht := supplyFaultTaken_touches ((Device.blank cause i).offer deviceQueue
      { kind := .deviceStarted, detail1 := byteOf cause.code })
    rw [← Device.offer_delivery (Device.blank cause i)] at hstart
    exact hstart.untouched ht (by decide) (core_of_eq (ht .consumers (by decide)))

theorem act_sound {c : Instr} {d e : Device} (ha : Act c d e) (h : Sound d.pool d.delivery.consumers) :
    Sound e.pool e.delivery.consumers := by
  by_cases hq : Block.slots ∈ footprint c ∨ Block.consumers ∈ footprint c
  · cases ha with
    | nothing => exact h
    | resetLane l =>
      refine h.untouched (resetLane_touches d l) (by decide) fun c => ?_
      rw [← emptyQueue_core d (laneQueue l) c]
      exact core_of_eq (resetLane_touches_emptied d l .consumers (by decide)) c
    | setAdmission r m => exact h.congr rfl rfl rfl fun _ => rfl
    | readPool =>
      obtain ⟨⟨h1, h2, h3, h4, -⟩, heach⟩ := h
      exact ⟨⟨h1, h2, h3, h4, le_rfl⟩, heach⟩
    | setActive c dep => exact activate_sound (setDepth_sound h c _) c
    | setInactive c dep => exact deactivate_sound (setDepth_sound h c _) c
    | flushConsumer c => exact flush_sound h c
    | readConsumer c =>
      refine h.congr rfl rfl rfl fun x => ?_
      rw [Device.updConsumer_delivery, upd_getElem]
      split <;> rfl
    | creditFrame b _ c n hn => exact creditTo_sound (d := d.updTrunk fun t => t.waitIdle true) h c hn
    | sendReply r rest _ hr => exact h
    | sendEvent c r urgent f _ hc hf => exact takeFrame_sound h hc
    | frameEnd => exact h
    | trunkReset | powerOn | resetPinRise => exact startUp_sound _ _
    | powerOnHeld i | resetPinLow i => exact blank_sound .pin i
    | admission => exact admission_sound h
    | limitExpiry q => exact h.untouched (limitExpiry_touches q d) (by decide) (limitExpiry_core d q)
    | stallExpiry c => exact stallExpiry_sound h c
    | setDrawer row | setSupply row | setSupplyFault row => simp [footprint_setDrawerRow row] at hq
    | _ => simp [footprint] at hq
  · obtain ⟨hs, hc⟩ := not_or.mp hq
    exact h.untouched ha.touches hs (core_of_eq (ha.touches _ hc))

theorem Sound.ms {p : Pool} {v : Table Consumer 8} (h : Sound p v) {lanes : Table PendLane 17} :
    Sound { p with lanes := lanes } (mapTab v Consumer.ms) := by
  have hrefs : totalRefs (mapTab v Consumer.ms) = totalRefs v := by
    funext r
    simp [totalRefs, refsTo, Consumer.ms]
  refine ⟨?_, fun c => ?_⟩
  · obtain ⟨h1, h2, h3, h4, h5⟩ := h.pool
    rw [hrefs]
    exact ⟨h1, h2, h3, h4, h5⟩
  · obtain ⟨h1, h2, h3, h4, h5⟩ := h.each c
    rw [mapTab_getElem]
    exact ⟨h1, h2, by rw [Consumer.ms, countDown, Option.isSome_map]; exact h3, h4, h5⟩

theorem tick_sound {d : Device} (h : Sound d.pool d.delivery.consumers) : Sound d.tick.pool d.tick.delivery.consumers := by
  unfold Device.tick
  dsimp only
  split
  · exact h
  · exact h.ms

/-- Settles O55: each row moves references between the pool and the consumers one for one. -/
theorem stepKeepsSlots : Obligations.StepKeepsSlots := by
  intro s t hs hc h
  exact (sound_iff _).mpr (step_keeps (P := fun d => Sound d.pool d.delivery.consumers) (fun _ _ hp => hp) act_sound
    (fun _ => tick_sound) h ((sound_iff _).mp ⟨hs, hc⟩))

end Sys2Proof.SlotsKept

/-! ## The lane operations, block by block -/

namespace Sys2Proof.Machine

/-! ### Tables -/

theorem upd_upd {α : Type} {n : Nat} (v : Table α n) (i : Fin n) (f g : α → α) :
    upd (upd v i f) i g = upd v i (g ∘ f) := by
  refine Vector.ext fun j hj => ?_
  rw [upd_getElem_nat, upd_getElem_nat, upd_getElem_nat]
  split <;> rfl

theorem upd_id {α : Type} {n : Nat} (v : Table α n) (i : Fin n) {f : α → α} (h : f v[i] = v[i]) : upd v i f = v := by
  refine Vector.ext fun j hj => ?_
  rw [upd_getElem_nat]
  split
  · next e =>
    subst e
    exact h
  · rfl

theorem upd_congr {α : Type} {n : Nat} (v : Table α n) (i : Fin n) {f g : α → α} (h : f v[i] = g v[i]) :
    upd v i f = upd v i g := by rw [upd, upd, h]

/-! ### A lane's ports -/

theorem laneOf_eq_iff (n : Fin 32) (l : Fin 16) : laneOf n = l ↔ n = ofLane l 0 ∨ n = ofLane l 1 := by
  simp only [laneOf, ofLane, Fin.ext_iff]
  omega

theorem ofLane_ne (l : Fin 16) : ofLane l 1 ≠ ofLane l 0 := by
  simp only [ofLane, Ne, Fin.ext_iff]
  omega

/-- Both ports of a lane changed alike. -/
theorem upd_lane_ports (v : Table Port 32) (l : Fin 16) (f : Port → Port) (n : Fin 32) :
    (upd (upd v (ofLane l 0) f) (ofLane l 1) f)[n] = if laneOf n = l then f v[n] else v[n] := by
  rw [upd_getElem, upd_getElem]
  by_cases h1 : n = ofLane l 1
  · subst h1
    rw [if_pos rfl, if_neg (ofLane_ne l), if_pos ((laneOf_eq_iff _ l).mpr (.inr rfl))]
  · by_cases h0 : n = ofLane l 0
    · subst h0
      rw [if_neg h1, if_pos rfl, if_pos ((laneOf_eq_iff _ l).mpr (.inl rfl))]
    · rw [if_neg h1, if_neg h0, if_neg (mt (laneOf_eq_iff n l).mp (not_or.mpr ⟨h0, h1⟩))]

theorem tellPorts_ports (d : Device) (l : Fin 16) (o : Bool) (n : Fin 32) :
    (d.tellPorts l o).ports[n] = if laneOf n = l then d.ports[n].follow (d.ports[n].enable && o) else d.ports[n] :=
  upd_lane_ports d.ports l (fun p => p.follow (p.enable && o)) n

/-! ### Lane states -/

theorem setLaneState_lanes (d : Device) (l : Fin 16) (s : LaneState) :
    (d.setLaneState l s).lanes = upd d.lanes l fun r => { r with state := s } := by
  rw [Device.setLaneState, Device.settleLamp_lanes]
  rfl

/-- The lane record after an adoption (R18, R21). -/
def LaneRec.adopted (r : LaneRec) : LaneRec :=
  match r.pendingSet with
  | none => r
  | some g => { r with active := g, pendingSet := none }.adoptWake

theorem adopt_lanes (d : Device) (l : Fin 16) : (d.adopt l).lanes = upd d.lanes l LaneRec.adopted := by
  unfold Device.adopt
  split
  · next h => exact (upd_id d.lanes l (f := LaneRec.adopted) (by simp only [LaneRec.adopted, h])).symm
  · next g h =>
    rw [Device.updTrans_lanes, Device.updLane_lanes]
    refine upd_congr d.lanes l ?_
    simp only [LaneRec.adopted, h]

theorem adopted_state (r : LaneRec) : r.adopted.state = r.state := by
  unfold LaneRec.adopted
  split
  · rfl
  · exact (LaneRec.adoptWake_keeps _).1

/-- The lane record of a departing lane (R6, R8). -/
def LaneRec.departed (dest : LaneState) (r : LaneRec) : LaneRec :=
  let v := { { r with state := dest }.closeWindow with watchTimer := some 8 }.adopted
  if dest = .closed then v.enterClosedWake else v

theorem depart_lanes (d : Device) (l : Fin 16) (dest : LaneState) (c : LaneCause) :
    (d.depart l dest c).lanes = upd d.lanes l (LaneRec.departed dest) := by
  have hwind : (d.windDown l).lanes = d.lanes := windDown_touches d l .lanes (by decide)
  unfold Device.depart LaneRec.departed
  dsimp only
  rw [Device.departKeymap_lanes]
  split
  · rw [Device.updLane_lanes, adopt_lanes, Device.offerLaneState_lanes, Device.updLane_lanes, setLaneState_lanes, hwind,
      upd_upd, upd_upd, upd_upd]
    rfl
  · rw [adopt_lanes, Device.offerLaneState_lanes, Device.updLane_lanes, setLaneState_lanes, hwind, upd_upd, upd_upd]
    rfl

theorem departed_state (dest : LaneState) (r : LaneRec) : (LaneRec.departed dest r).state = dest := by
  unfold LaneRec.departed
  dsimp only
  split
  · rw [(LaneRec.enterClosedWake_keeps _).1, adopted_state]
    rfl
  · rw [adopted_state]
    rfl

/-- A departing lane winds its keyboard down; what follows touches neither scanner nor ports. -/
theorem depart_touches_wound (d : Device) (l : Fin 16) (dest : LaneState) (c : LaneCause) :
    Touches [.lanes, .states, .settings, .trans, .keymaps, .queues, .tlu] (d.windDown l) (d.depart l dest c) := by
  unfold Device.depart
  dsimp only
  have h1 : Touches [.lanes, .states, .settings, .trans, .keymaps, .queues, .tlu] (d.windDown l) _ :=
    ((((setLaneState_touches (d.windDown l) l dest).seq
      (updLane_touches _ l fun r => { r.closeWindow with watchTimer := some 8 })).seq
      (offerLaneState_touches _ l dest c)).seq (adopt_touches _ l)).mono (by decide)
  refine Touches.trans ?_ ((departKeymap_touches _ l).mono (by decide))
  split
  · exact (h1.seq (updLane_touches _ l _)).mono (by decide)
  · exact h1

theorem windDown_ports (d : Device) (l : Fin 16) :
    (d.windDown l).ports = if d.lanes[l].state = .opened then (d.tellPorts l false).ports else d.ports := by
  have hreleases (ps : List (Fin 128)) (x : Device) : (ps.foldl (fun d p => d.translateRelease l p) x).ports = x.ports :=
    releases_touches x l ps .ports (by decide)
  unfold Device.windDown
  dsimp only
  split
  · unfold Device.tellPorts
    rw [Device.updPort_ports, Device.updPort_ports, Device.updTrans_ports, Device.updScan_ports, hreleases,
      Device.withdrawPass_ports, Device.updPort_ports, Device.updPort_ports]
  · rw [Device.updTrans_ports, Device.updScan_ports, hreleases, Device.withdrawPass_ports]

theorem depart_ports (d : Device) (l : Fin 16) (dest : LaneState) (c : LaneCause) :
    (d.depart l dest c).ports = if d.lanes[l].state = .opened then (d.tellPorts l false).ports else d.ports :=
  Eq.trans (depart_touches_wound d l dest c .ports (by decide)) (windDown_ports d l)

/-! ### OPEN-LANE, SUSPEND-LANE, RESUME-LANE: lanes and ports -/

theorem offerLaneState_ports (d : Device) (l : Fin 16) (s : LaneState) (c : LaneCause) :
    (d.offerLaneState l s c).ports = d.ports := tell_touches d _ _ (by rfl) .ports (by decide)

theorem openLane_ports (d : Device) (l : Fin 16) : (d.openLane l).ports = (d.tellPorts l true).ports := by
  unfold Device.openLane
  dsimp only
  rw [offerLaneState_ports]
  simp [Device.tellPorts]

theorem suspendLane_ports (d : Device) (l : Fin 16) : (d.suspendLane l).ports = (d.tellPorts l false).ports := by
  unfold Device.suspendLane
  rw [offerLaneState_ports]
  simp [Device.tellPorts]

theorem resumeLane_ports (d : Device) (l : Fin 16) : (d.resumeLane l).ports = (d.tellPorts l true).ports := by
  unfold Device.resumeLane
  rw [offerLaneState_ports]
  simp [Device.tellPorts]

theorem openLane_lanes (d : Device) (l : Fin 16) : (d.openLane l).lanes =
    upd d.lanes l fun r => { { r with state := .opened }.stopWake with watchTimer := none } := by
  unfold Device.openLane
  dsimp only
  rw [Device.offerLaneState_lanes, Device.tellPorts_lanes, Device.updLane_lanes, Device.updScan_lanes,
    setLaneState_lanes, upd_upd]
  rfl

theorem suspendLane_lanes (d : Device) (l : Fin 16) : (d.suspendLane l).lanes =
    upd d.lanes l fun r => { r with state := .suspended }.closeWindow := by
  unfold Device.suspendLane
  rw [Device.offerLaneState_lanes, Device.tellPorts_lanes, Device.updLane_lanes, setLaneState_lanes, upd_upd]
  rfl

theorem resumeLane_lanes (d : Device) (l : Fin 16) : (d.resumeLane l).lanes =
    upd d.lanes l fun r => { r with state := .opened } := by
  unfold Device.resumeLane
  rw [Device.offerLaneState_lanes, Device.tellPorts_lanes, setLaneState_lanes]

theorem closeFaulted_lanes (d : Device) (l : Fin 16) : (d.closeFaulted l).lanes =
    upd d.lanes l fun r => { r with state := .closed }.enterClosedWake := by
  unfold Device.closeFaulted
  rw [Device.offerLaneState_lanes, Device.updLane_lanes, setLaneState_lanes, upd_upd]
  rfl

/-! ### Buffers released by entries that are lost -/

/-- The ports after the release of the buffer that a body refers to (R80). -/
def releasedBy (v : Table Port 32) : BodyRef → Table Port 32
  | .buffer n b _ _ => upd v n fun p => p.release b
  | .absent | .bytes _ => v

theorem releaseBody_ports (d : Device) (b : BodyRef) : (d.releaseBody b).ports = releasedBy d.ports b := by
  cases b <;> rfl

theorem loseEntry_ports (d : Device) (q : Fin 17) (e : Entry) : (d.loseEntry q e).ports = releasedBy d.ports e.body :=
  releaseBody_ports _ _

theorem loseAll_ports (q : Fin 17) (es : List Entry) (d : Device) :
    (es.foldl (fun d e => d.loseEntry q e) d).ports = es.foldl (fun v e => releasedBy v e.body) d.ports := by
  induction es generalizing d with
  | nil => rfl
  | cons e es ih => rw [List.foldl_cons, ih, loseEntry_ports, List.foldl_cons]

theorem emptyQueue_ports (d : Device) (q : Fin 17) : (d.emptyQueue q).ports =
    d.pool.lanes[q].queue.foldl (fun v e => releasedBy v e.body) d.ports := by
  have hflag (x : Device) (s : SortedSet) : (x.flagMembers s).ports = x.ports := rfl
  unfold Device.emptyQueue
  dsimp only
  split
  · exact (hflag _ _).trans (loseAll_ports q _ _)
  · exact loseAll_ports q _ _

/-- Other ports than the body's are not touched. -/
theorem releasedBy_other (v : Table Port 32) {b : BodyRef} {n : Fin 32} (hb : ∀ c i j, b ≠ .buffer n c i j) :
    (releasedBy v b)[n] = v[n] := by
  cases b with
  | buffer m c i j => exact upd_getElem_ne v _ fun hm => hb c i j (by rw [hm])
  | _ => rfl

theorem releasedAll_other (es : List Entry) (v : Table Port 32) {n : Fin 32}
    (hes : ∀ e ∈ es, ∀ c i j, e.body ≠ .buffer n c i j) :
    (es.foldl (fun v e => releasedBy v e.body) v)[n] = v[n] := by
  induction es generalizing v with
  | nil => rfl
  | cons e es ih =>
    rw [List.foldl_cons, ih _ fun x hx => hes x (List.mem_cons_of_mem _ hx),
      releasedBy_other v (hes e List.mem_cons_self)]

/-- RESET-LANE's port state does not remember what was released before. -/
theorem laneReset_release (p : Port) (b : BufferId) : (p.release b).laneReset = p.laneReset := by
  unfold Port.release
  split
  · cases b <;> rfl
  · rfl

theorem laneReset_releasedAll (es : List Entry) (v : Table Port 32) (n : Fin 32) :
    (es.foldl (fun v e => releasedBy v e.body) v)[n].laneReset = v[n].laneReset := by
  induction es generalizing v with
  | nil => rfl
  | cons e es ih =>
    rw [List.foldl_cons, ih]
    cases e.body with
    | buffer m c i j =>
      rw [releasedBy, upd_getElem]
      split
      · exact laneReset_release _ c
      · rfl
    | _ => rfl

theorem offer_ports (d : Device) (q : Fin 17) (n : Notice) :
    (d.offer q n).ports = if d.pool.lanes[q].queue.length < 8 then d.ports else releasedBy d.ports n.body := by
  split
  · next h => rw [d.offer_of_room q n h]; rfl
  · next h =>
    rw [d.offer_of_full q n (Nat.le_of_not_lt h), loseEntry_ports]
    rfl

/-! ### A queue emptied (R117) -/

/-- A pending queue after the loss of `k` entries is counted and marked (R109). -/
def PendLane.lost (k : Nat) (p : PendLane) : PendLane :=
  { p with lossCount := if k = 0 then p.lossCount else sat16 p.lossCount k, gap := p.gap || decide (0 < k) }

theorem lost_succ (k : Nat) (p : PendLane) :
    ({ p with lossCount := sat16 p.lossCount 1, gap := true } : PendLane).lost k = p.lost (k + 1) := by
  cases k with
  | zero => simp [PendLane.lost]
  | succ k =>
    have hsat : sat16 (sat16 p.lossCount 1) (k + 1) = sat16 p.lossCount (k + 1 + 1) := by
      simp only [sat16]
      omega
    simp [PendLane.lost, hsat]

theorem loseEntry_lanes (d : Device) (q : Fin 17) (e : Entry) : (d.loseEntry q e).pool.lanes =
    upd d.pool.lanes q fun p => { p with lossCount := sat16 p.lossCount 1, gap := true } := by
  rw [Device.loseEntry, Device.releaseBody_pool]
  rfl

theorem loseAll_lanes (q : Fin 17) (es : List Entry) (d : Device) :
    (es.foldl (fun d e => d.loseEntry q e) d).pool.lanes = upd d.pool.lanes q (PendLane.lost es.length) := by
  induction es generalizing d with
  | nil => exact (upd_id _ q (by simp [PendLane.lost])).symm
  | cons e es ih =>
    rw [List.foldl_cons, ih, loseEntry_lanes, upd_upd]
    exact upd_congr _ q (lost_succ _ _)

/-- A pending queue whose entries have all been lost. -/
def PendLane.emptied (p : PendLane) : PendLane :=
  { p with queue := [], waiting := false, waitTimer := none, lastSet := none }.lost p.queue.length

theorem emptyQueue_lanes (d : Device) (q : Fin 17) : (d.emptyQueue q).pool.lanes = upd d.pool.lanes q PendLane.emptied := by
  have hlost : (d.pool.lanes[q].queue.foldl (fun d e => d.loseEntry q e) (d.updPend q fun n =>
      { n with queue := [], waiting := false, waitTimer := none, lastSet := none })).pool.lanes =
      upd d.pool.lanes q PendLane.emptied := by
    rw [loseAll_lanes, Device.updPend_pool, upd_upd]
    exact upd_congr _ q rfl
  unfold Device.emptyQueue
  dsimp only
  split
  · exact hlost
  · exact hlost

/-! ### RESET-LANE: lanes and ports -/

/-- The lane record after RESET-LANE (R10). -/
def LaneRec.wiped (r : LaneRec) : LaneRec := { r.laneReset with state := .closed }.adopted.enterClosedWake

theorem wiped_state (r : LaneRec) : r.wiped.state = .closed := by
  rw [LaneRec.wiped, (LaneRec.enterClosedWake_keeps _).1, adopted_state]

theorem abortAll_touches (d : Device) (ns : List (Fin 32)) (cause : Nat) :
    Touches [.queues, .drawers, .kicks] d (ns.foldl (fun d n => d.abortWaiting n cause) d) :=
  .foldl (fun d n => abortWaiting_touches d n cause) ns d

theorem resetLane_lanes (d : Device) (l : Fin 16) : (d.resetLane l).lanes = upd d.lanes l LaneRec.wiped := by
  have hrun : ((d.emptyQueue (laneQueue l)).clearRuntime l).lanes = d.lanes :=
    ((emptyQueue_touches d _).seq (clearRuntime_touches _ l)) .lanes (by decide)
  unfold Device.resetLane
  dsimp only
  rw [Device.departKeymap_lanes, Device.updLamp_lanes, Device.updGen_lanes]
  refine Eq.trans (abortAll_touches _ _ 3 .lanes (by decide)) ?_
  rw [Device.offerLaneState_lanes, Device.updLane_lanes, adopt_lanes, setLaneState_lanes, Device.updLane_lanes, hrun,
    upd_upd, upd_upd, upd_upd]
  rfl

theorem resetLane_ports (d : Device) (l : Fin 16) (n : Fin 32) : (d.resetLane l).ports[n] =
    if laneOf n = l then (d.emptyQueue (laneQueue l)).ports[n].laneReset
    else (d.emptyQueue (laneQueue l)).ports[n] := by
  have hclear (x : Device) : (x.clearRuntime l).ports[n] = if laneOf n = l then x.ports[n].laneReset else x.ports[n] := by
    unfold Device.clearRuntime
    dsimp only
    rw [Device.updPort_ports, Device.updPort_ports, upd_lane_ports, Device.updTrans_ports, Device.updScan_ports,
      Device.withdrawPass_ports]
  rw [← hclear]
  refine congrArg (·[n]) ?_
  unfold Device.resetLane
  dsimp only
  refine Eq.trans (departKeymap_touches _ l .ports (by decide)) ?_
  rw [Device.updLamp_ports, Device.updGen_ports]
  refine Eq.trans (abortAll_touches _ _ 3 .ports (by decide)) ?_
  rw [offerLaneState_ports, Device.updLane_ports, Device.adopt_ports, Device.setLaneState_ports, Device.updLane_ports]

/-! ### Keymaps -/

theorem switchKeymap_keymaps (d : Device) (l : Fin 16) (i : Fin 8) (f : Bool) : (d.switchKeymap l i f).keymaps =
    { d.keymaps with lanes := upd d.keymaps.lanes l fun _ => { active := some i, pendingImg := none, switchTimer := none } } := by
  rw [Device.switchKeymap, Device.offer_keymaps]
  rfl

theorem departKeymap_keymaps (d : Device) (l : Fin 16) : (d.departKeymap l).keymaps = Claims.switched d l := by
  unfold Device.departKeymap Claims.switched
  cases d.keymaps.lanes[l].pendingImg with
  | some i => exact switchKeymap_keymaps d l i false
  | none => rfl

/-- The keymaps after a switch depend on the keymaps alone. -/
theorem switched_congr {d e : Device} (h : e.keymaps = d.keymaps) (l : Fin 16) : Claims.switched e l = Claims.switched d l := by
  unfold Claims.switched
  rw [h]

theorem depart_keymaps (d : Device) (l : Fin 16) (dest : LaneState) (c : LaneCause) :
    (d.depart l dest c).keymaps = Claims.switched d l := by
  have hwind : (d.windDown l).keymaps = d.keymaps := windDown_touches d l .keymaps (by decide)
  unfold Device.depart
  dsimp only
  rw [departKeymap_keymaps]
  refine switched_congr ?_ l
  split
  · rw [Device.updLane_keymaps, Device.adopt_keymaps, Device.offerLaneState_keymaps, Device.updLane_keymaps,
      Device.setLaneState_keymaps, hwind]
  · rw [Device.adopt_keymaps, Device.offerLaneState_keymaps, Device.updLane_keymaps, Device.setLaneState_keymaps, hwind]

theorem resetLane_keymaps (d : Device) (l : Fin 16) : (d.resetLane l).keymaps = Claims.switched d l := by
  have hrun : ((d.emptyQueue (laneQueue l)).clearRuntime l).keymaps = d.keymaps :=
    ((emptyQueue_touches d _).seq (clearRuntime_touches _ l)) .keymaps (by decide)
  unfold Device.resetLane
  dsimp only
  rw [departKeymap_keymaps]
  refine switched_congr ?_ l
  rw [Device.updLamp_keymaps, Device.updGen_keymaps]
  refine Eq.trans (abortAll_touches _ _ 3 .keymaps (by decide)) ?_
  rw [Device.offerLaneState_keymaps, Device.updLane_keymaps, Device.adopt_keymaps, Device.setLaneState_keymaps,
    Device.updLane_keymaps, hrun]

theorem quietSwitch_keymaps (d : Device) (l : Fin 16) : (d.quietSwitch l).keymaps =
    if d.scanner.lanes[l].countKeys .pressed + d.scanner.lanes[l].countKeys .blocked = 0 then Claims.switched d l
    else d.keymaps := by
  unfold Device.quietSwitch Claims.switched
  cases d.keymaps.lanes[l].pendingImg with
  | some i =>
    dsimp only
    split
    · exact switchKeymap_keymaps d l i false
    · rfl
  | none => exact (ite_self d.keymaps).symm

/-! ### A pass starts and ends -/

theorem startPass_lanes (d : Device) (l : Fin 16) : (d.startPass l).lanes = upd d.lanes l LaneRec.adopted := by
  have happly (x : Device) : (x.applyAdopted l).lanes = x.lanes := applyAdopted_touches x l .lanes (by decide)
  unfold Device.startPass
  dsimp only
  rw [Device.updScanner_lanes]
  split
  · rw [happly, adopt_lanes]
    rfl
  · next h =>
    refine (upd_id d.lanes l (f := LaneRec.adopted) ?_).symm
    rw [Option.not_isSome_iff_eq_none] at h
    simp only [LaneRec.adopted, h]

/-! ### The scanner's part of the lane operations -/

theorem openLane_scanner (d : Device) (l : Fin 16) : (d.openLane l).scanner =
    { d.scanner with lanes := upd d.scanner.lanes l fun m => m.enter d.lanes[l].active.scanPeriod } := by
  unfold Device.openLane
  dsimp only
  rw [Device.offerLaneState_scanner, Device.tellPorts_scanner, Device.updLane_scanner, Device.updScan,
    Device.updScanner_scanner, Device.setLaneState_scanner]

theorem withdraw_clear_scanner (d : Device) (l : Fin 16) :
    ((d.withdrawPass l).updScan l LaneScan.clearKeys).scanner = Claims.withdrawn d l := by
  unfold Device.withdrawPass Device.updScan Claims.withdrawn
  simp only [Device.updScanner_scanner, upd_upd]
  refine congrArg (fun v => ({ d.scanner with lanes := v } : Scanner)) (congrArg (d.scanner.lanes.set l · _) ?_)
  simp [LaneScan.clearKeys, Scanner.inPass, Bool.beq_eq_decide_eq]

theorem withdrawn_congr {d e : Device} (h : e.scanner = d.scanner) (l : Fin 16) :
    Claims.withdrawn e l = Claims.withdrawn d l := by
  unfold Claims.withdrawn
  rw [h]

theorem windDown_scanner (d : Device) (l : Fin 16) : (d.windDown l).scanner = Claims.withdrawn d l := by
  have hclear (x : Device) : ((x.updScan l LaneScan.clearKeys).updTrans l KeyTrans.clearOwner).scanner =
      (x.updScan l LaneScan.clearKeys).scanner := rfl
  have hreleases (ps : List (Fin 128)) : (((ps.foldl (fun d p => d.translateRelease l p) (d.withdrawPass l)).updScan l
      LaneScan.clearKeys).updTrans l KeyTrans.clearOwner).scanner = Claims.withdrawn d l := by
    rw [hclear, ← withdraw_clear_scanner, Device.updScan, Device.updScanner_scanner,
      releases_touches _ l ps .scanner (by decide)]
    rfl
  unfold Device.windDown
  dsimp only
  split
  · rw [Device.tellPorts_scanner, hreleases]
  · exact hreleases _

theorem depart_scanner (d : Device) (l : Fin 16) (dest : LaneState) (c : LaneCause) :
    (d.depart l dest c).scanner = Claims.withdrawn d l :=
  Eq.trans (depart_touches_wound d l dest c .scanner (by decide)) (windDown_scanner d l)

theorem resetLane_scanner (d : Device) (l : Fin 16) : (d.resetLane l).scanner = Claims.withdrawn d l := by
  have hempty : (d.emptyQueue (laneQueue l)).scanner = d.scanner := emptyQueue_touches d _ .scanner (by decide)
  unfold Device.resetLane
  dsimp only
  rw [Device.departKeymap_scanner, Device.updLamp_scanner, Device.updGen_scanner]
  refine Eq.trans (abortAll_touches _ _ 3 .scanner (by decide)) ?_
  rw [Device.offerLaneState_scanner, Device.updLane_scanner, Device.adopt_scanner, Device.setLaneState_scanner,
    Device.updLane_scanner]
  unfold Device.clearRuntime
  dsimp only
  rw [Device.updPort_scanner, Device.updPort_scanner, Device.updTrans_scanner, withdraw_clear_scanner,
    withdrawn_congr hempty]

/-- Keys LATCHED, the integrators unchanged (R31, R58). -/
def LaneScan.latchAll (ps : List (Fin 128)) (m : LaneScan) : LaneScan :=
  { m with keys := ps.foldl (fun (v : Table KeyState 128) (p : Fin 128) => v.set p .latched) m.keys }

theorem latchKeys_scanner (d : Device) (l : Fin 16) (ps : List (Fin 128)) :
    (ps.foldl (fun d p => d.latchKey l p) d).scanner =
      { d.scanner with lanes := upd d.scanner.lanes l (LaneScan.latchAll ps) } := by
  induction ps generalizing d with
  | nil => exact congrArg (fun v => ({ d.scanner with lanes := v } : Scanner)) (upd_id _ l rfl).symm
  | cons p ps ih =>
    rw [List.foldl_cons, ih]
    unfold Device.latchKey Device.updScan
    rw [Device.updScanner_scanner, Device.translateRelease_scanner]
    dsimp only
    rw [upd_upd]
    rfl

/-- What the scanner of a lane does with settings adopted at a pass start (R30, R31). -/
def LaneScan.fit (g : Settings) (m : LaneScan) : LaneScan :=
  let v := { m with integ := mapTab m.integ (min g.debounce) }
  v.latchAll (v.overLimit g.rollover)

theorem applyAdopted_scanner (d : Device) (l : Fin 16) : (d.applyAdopted l).scanner =
    { d.scanner with lanes := upd d.scanner.lanes l (LaneScan.fit d.lanes[l].active) } := by
  unfold Device.applyAdopted
  dsimp only
  rw [latchKeys_scanner, Device.updScan, Device.updScanner_scanner]
  dsimp only
  rw [upd_upd]
  refine congrArg (fun v => ({ d.scanner with lanes := v } : Scanner)) (upd_congr _ l ?_)
  rw [upd_getElem_self]
  rfl

/-- What an adoption at a pass start makes of the lane's part of the scanner: nothing without a pending set. -/
def LaneScan.refit (r : LaneRec) (m : LaneScan) : LaneScan :=
  match r.pendingSet with
  | some g => m.fit g
  | none => m

theorem adopted_active (r : LaneRec) : r.adopted.active = r.pendingSet.getD r.active := by
  unfold LaneRec.adopted
  split
  · next h => rw [h]; rfl
  · next g h => rw [(LaneRec.adoptWake_keeps _).2.1, h]; rfl

/-- A device whose lane `l` has adopted its pending set, if there is one, in lane controller and scanner. -/
def Device.refit (d : Device) (l : Fin 16) : Device :=
  if d.lanes[l].pendingSet.isSome then (d.adopt l).applyAdopted l else d

theorem refit_scanner (d : Device) (l : Fin 16) : (d.refit l).scanner =
    { d.scanner with lanes := upd d.scanner.lanes l (LaneScan.refit d.lanes[l]) } := by
  unfold Device.refit
  split
  · next hp =>
    obtain ⟨g, hg⟩ := Option.isSome_iff_exists.mp hp
    rw [applyAdopted_scanner, Device.adopt_scanner, adopt_lanes, upd_getElem_self, adopted_active, hg]
    refine congrArg (fun v => ({ d.scanner with lanes := v } : Scanner)) (upd_congr _ l ?_)
    simp only [LaneScan.refit, hg]
    rfl
  · next hp =>
    rw [Option.not_isSome_iff_eq_none] at hp
    refine congrArg (fun v => ({ d.scanner with lanes := v } : Scanner)) (upd_id _ l ?_).symm
    simp only [LaneScan.refit, hp]

theorem refit_lanes (d : Device) (l : Fin 16) : (d.refit l).lanes = upd d.lanes l LaneRec.adopted := by
  unfold Device.refit
  split
  · rw [applyAdopted_touches _ l .lanes (by decide), adopt_lanes]
  · next hp =>
    rw [Option.not_isSome_iff_eq_none] at hp
    refine (upd_id d.lanes l (f := LaneRec.adopted) ?_).symm
    simp only [LaneRec.adopted, hp]

/-- The part when the driver has taken a lane's waiting pass (R27), before the settings are adopted. -/
def Device.takePass (d : Device) (l : Fin 16) : Device :=
  (d.updScan l fun m => { m with waiting := false, discard := false }).updScanner fun m =>
    { m with laneInPass := some l, lastServed := l }

theorem startPass_eq (d : Device) (l : Fin 16) : d.startPass l =
    ((d.takePass l).refit l).updScanner fun m =>
      { m with
        passLeft := ((d.takePass l).refit l).lanes[l].active.columns * m.dwell
        passColumns := ((d.takePass l).refit l).lanes[l].active.columns, passDwell := m.dwell } := rfl

theorem startPass_scanner (d : Device) (l : Fin 16) :
    (d.startPass l).scanner =
      { laneInPass := some l, passLeft := (d.lanes[l].pendingSet.getD d.lanes[l].active).columns * d.scanner.dwell
        passColumns := (d.lanes[l].pendingSet.getD d.lanes[l].active).columns
        passDwell := d.scanner.dwell, lastServed := l, dwell := d.scanner.dwell
        lanes := upd d.scanner.lanes l fun m =>
          LaneScan.refit d.lanes[l] { m with waiting := false, discard := false } } := by
  rw [startPass_eq, Device.updScanner_scanner, refit_scanner, refit_lanes, upd_getElem_self, adopted_active]
  unfold Device.takePass Device.updScan
  simp only [Device.updScanner_scanner, Device.updScanner_lanes, upd_upd]
  rfl

/-- The lane's part of the scanner after a pass whose discard mark is clear (R34 to R39). -/
def LaneScan.passed (m : LaneScan) (g : Settings) (raw : BitVec 128) (dead : Fin 128 → Bool) : LaneScan :=
  { m.sampled g raw with keys := ((m.sampled g raw).pressStep g dead).keys }

theorem completePass_scanner (d : Device) (l : Fin 16) (raw : BitVec 128) (lock : KeyLock) :
    (d.completePass l raw lock).scanner = { d.scanner with
      lanes := upd d.scanner.lanes l fun m => m.passed d.lanes[l].active raw (d.dead l) } := by
  unfold Device.completePass
  dsimp only
  rw [quietSwitch_touches _ l .scanner (by decide), passNotice_touches _ l _ _ .scanner (by decide),
    Device.sampleLock_scanner, Device.updScan, Device.updScanner_scanner]
  exact congrArg (fun v => ({ d.scanner with lanes := v } : Scanner)) (upd_congr _ l rfl)

/-- The lane's part of the scanner after the end of its pass (R32, R33). -/
def LaneScan.ended (m : LaneScan) (g : Settings) (raw : BitVec 128) (dead : Fin 128 → Bool) : LaneScan :=
  if m.discard then { m with discard := false } else m.passed g raw dead

/-- The driver without a pass (R23). -/
def Scanner.freed (s : Scanner) : Scanner := { s with laneInPass := none, passLeft := 0, passColumns := 0, passDwell := 0 }

theorem passEnd_scanner (d : Device) {l : Fin 16} (hl : d.scanner.laneInPass = some l) (raw : BitVec 128)
    (lock : KeyLock) (wake : BitVec 128) : (passEnd raw lock wake d).scanner =
      { d.scanner with
        lanes := upd d.scanner.lanes l fun m => m.ended d.lanes[l].active raw (d.dead l) }.freed := by
  have hfreed (x : Device) : ((x.updScanner fun m =>
      { m with laneInPass := none, passLeft := 0, passColumns := 0, passDwell := 0 }).takeDueReadings wake).scanner =
      x.scanner.freed := takeDueReadings_touches _ wake .scanner (by decide)
  unfold passEnd
  rw [hl]
  dsimp only
  rw [hfreed]
  split
  · next hd =>
    have hended : d.scanner.lanes[l].ended d.lanes[l].active raw (d.dead l) = { d.scanner.lanes[l] with discard := false } :=
      if_pos hd
    rw [upd_congr d.scanner.lanes l (f := fun m => m.ended d.lanes[l].active raw (d.dead l))
      (g := fun m => { m with discard := false }) hended]
    rfl
  · next hd =>
    have hended : d.scanner.lanes[l].ended d.lanes[l].active raw (d.dead l) =
        d.scanner.lanes[l].passed d.lanes[l].active raw (d.dead l) := if_neg hd
    rw [completePass_scanner, upd_congr d.scanner.lanes l (f := fun m => m.ended d.lanes[l].active raw (d.dead l))
      (g := fun m => m.passed d.lanes[l].active raw (d.dead l)) hended]

theorem forcedSwitch_scanner (d : Device) {l : Fin 16} {x : Nat} {i : Fin 8}
    (hx : d.keymaps.lanes[l].switchTimer = some x) (hi : d.keymaps.lanes[l].pendingImg = some i) :
    (forcedSwitch l d).scanner = { d.scanner with
      lanes := upd d.scanner.lanes l fun m => (m.latchAll (m.positions .pressed)).latchBlocked } := by
  unfold forcedSwitch
  rw [hx, hi]
  dsimp only
  rw [Device.switchKeymap_scanner, Device.updScan, Device.updScanner_scanner, latchKeys_scanner]
  dsimp only
  rw [upd_upd]
  exact congrArg (fun v => ({ d.scanner with lanes := v } : Scanner)) (upd_congr _ l rfl)

/-! ### Lamps and tones -/

theorem autoMode_eq (p : Lamp) (s : LaneState) : p.overrideMode.getD s.autoMode = Claims.modeIn p s := by
  unfold Claims.modeIn
  cases p.overrideMode with
  | some m => rfl
  | none => cases s <;> rfl

theorem lampMode_eq (d : Device) (l : Fin 16) : d.lampMode l = Claims.modeIn d.tlu.lamps[l] d.lanes[l].state :=
  autoMode_eq _ _

theorem flashing_iff (m : LampMode) : m.flashing = true ↔ Claims.flashes m := by
  cases m <;> simp [LampMode.flashing, Claims.flashes]

theorem settleLamp_tlu (d : Device) (l : Fin 16) : (d.settleLamp l).tlu = Claims.lampIn d.tlu l d.lanes[l].state := by
  unfold Device.settleLamp Claims.lampIn
  rw [lampMode_eq]
  dsimp only
  cases hs : d.tlu.lamps[l].staged with
  | none =>
    have happly : d.tlu.lamps[l].applyStaged = d.tlu.lamps[l] := by simp only [Lamp.applyStaged, hs]
    split
    · rfl
    · exact congrArg (fun v => ({ d.tlu with lamps := v } : ToneUnit)) (upd_id d.tlu.lamps l happly)
  | some m =>
    have happly : d.tlu.lamps[l].applyStaged = { overrideMode := m, staged := none } := by
      simp only [Lamp.applyStaged, hs]
    dsimp only
    by_cases hf : (Claims.modeIn d.tlu.lamps[l] d.lanes[l].state).flashing = true
    · rw [if_pos hf, if_pos ((flashing_iff _).mp hf)]
    · rw [if_neg hf, if_neg (mt (flashing_iff _).mpr hf)]
      exact congrArg (fun p => ({ d.tlu with lamps := d.tlu.lamps.set l p } : ToneUnit)) happly

theorem setLaneState_tlu (d : Device) (l : Fin 16) (s : LaneState) :
    (d.setLaneState l s).tlu = Claims.lampIn d.tlu l s := by
  rw [Device.setLaneState, settleLamp_tlu, Device.updLane_tlu, Device.updLane_lanes, upd_getElem_self]

theorem openLane_tlu (d : Device) (l : Fin 16) : (d.openLane l).tlu = Claims.lampIn d.tlu l .opened := by
  unfold Device.openLane
  dsimp only
  rw [Device.offerLaneState_tlu, Device.tellPorts_tlu, Device.updLane_tlu, Device.updScan_tlu, setLaneState_tlu]

theorem suspendLane_tlu (d : Device) (l : Fin 16) : (d.suspendLane l).tlu = Claims.lampIn d.tlu l .suspended := by
  unfold Device.suspendLane
  rw [Device.offerLaneState_tlu, Device.tellPorts_tlu, Device.updLane_tlu, setLaneState_tlu]

theorem resumeLane_tlu (d : Device) (l : Fin 16) : (d.resumeLane l).tlu = Claims.lampIn d.tlu l .opened := by
  unfold Device.resumeLane
  rw [Device.offerLaneState_tlu, Device.tellPorts_tlu, setLaneState_tlu]

theorem closeFaulted_tlu (d : Device) (l : Fin 16) : (d.closeFaulted l).tlu = Claims.lampIn d.tlu l .closed := by
  unfold Device.closeFaulted
  rw [Device.offerLaneState_tlu, Device.updLane_tlu, setLaneState_tlu]

theorem depart_tlu (d : Device) (l : Fin 16) (dest : LaneState) (c : LaneCause) :
    (d.depart l dest c).tlu = Claims.lampIn d.tlu l dest := by
  have hwind : (d.windDown l).tlu = d.tlu := windDown_touches d l .tlu (by decide)
  unfold Device.depart
  dsimp only
  rw [Device.departKeymap_tlu]
  split
  · rw [Device.updLane_tlu, Device.adopt_tlu, Device.offerLaneState_tlu, Device.updLane_tlu, setLaneState_tlu, hwind]
  · rw [Device.adopt_tlu, Device.offerLaneState_tlu, Device.updLane_tlu, setLaneState_tlu, hwind]

/-- The lamp that RESET-LANE sets last does not remember one staged before. -/
theorem lampIn_upd (u : ToneUnit) (l : Fin 16) (s : LaneState) (p : Lamp) :
    { Claims.lampIn u l s with lamps := upd (Claims.lampIn u l s).lamps l fun _ => p } =
      { u with lamps := upd u.lamps l fun _ => p } := by
  unfold Claims.lampIn
  dsimp only
  split
  · split
    · rfl
    · exact congrArg (fun v => ({ u with lamps := v } : ToneUnit)) (Vector.ext fun j hj => by
        rw [upd_getElem_nat, upd_getElem_nat]
        split
        · rfl
        · next hne => rw [Vector.getElem_set_ne _ _ (Ne.symm hne)])
  · rfl

theorem resetLane_tlu (d : Device) (l : Fin 16) : (d.resetLane l).tlu =
    { d.tlu with
      generators := upd d.tlu.generators l Generator.stop
      lamps := upd d.tlu.lamps l fun _ => { overrideMode := none, staged := none } } := by
  have hempty : ((d.emptyQueue (laneQueue l)).clearRuntime l).tlu = d.tlu :=
    ((emptyQueue_touches d _).seq (clearRuntime_touches _ l)) .tlu (by decide)
  have habort (x : Device) : (((x.drawers.waitingOf l).foldl (fun d n => d.abortWaiting n 3) x).updGen l
      Generator.stop).tlu = { x.tlu with generators := upd x.tlu.generators l Generator.stop } := by
    rw [Device.updGen_tlu, abortAll_touches _ _ 3 .tlu (by decide)]
  unfold Device.resetLane
  dsimp only
  rw [Device.departKeymap_tlu, Device.updLamp_tlu, habort, Device.offerLaneState_tlu, Device.updLane_tlu, Device.adopt_tlu,
    setLaneState_tlu, Device.updLane_tlu, hempty]
  have hlamp := lampIn_upd d.tlu l .closed { overrideMode := none, staged := none }
  have hgen : (Claims.lampIn d.tlu l .closed).generators = d.tlu.generators :=
    (congrArg ToneUnit.generators hlamp :)
  dsimp only
  rw [hgen]
  exact congrArg (fun u : ToneUnit => { u with generators := upd d.tlu.generators l Generator.stop }) hlamp

/-- A request to start a tone, on the tone unit alone (R173). -/
def ToneUnit.request (u : ToneUnit) (l : Fin 16) (e : Fin 8) : ToneUnit :=
  if u.grants l e then { u with generators := upd u.generators l fun _ => startTone e u.tones[e] } else u

theorem requestTone_tlu (d : Device) (l : Fin 16) (e : Fin 8) : (d.requestTone l e).tlu = d.tlu.request l e := by
  unfold Device.requestTone ToneUnit.request
  split <;> rfl

theorem requestToneOpt_tlu (d : Device) (l : Fin 16) (e : Option (Fin 8)) : (d.requestToneOpt l e).tlu =
    match e with
    | some e => d.tlu.request l e
    | none => d.tlu := by
  cases e with
  | some e => exact requestTone_tlu d l e
  | none => rfl

theorem classify_tlu (d : Device) (n : Fin 32) (b : BufferId) :
    (d.classify n b).tlu = d.tlu ∨ ∃ e, (d.classify n b).tlu = d.tlu.request (laneOf n) e := by
  have hmatch (m : Option (Fin 32)) : (d.countMatch m).tlu = d.tlu := countMatch_touches d m .tlu (by decide)
  unfold Device.classify
  dsimp only
  split
  · exact .inl (hmatch _)
  · rw [requestToneOpt_tlu]
    split
    · next e _ => exact .inr ⟨e, by rw [Device.offer_tlu, hmatch]⟩
    · exact .inl (by rw [Device.offer_tlu, hmatch])

theorem recordEnd_tlu (d : Device) (n : Fin 32) (b : BufferId) :
    (d.recordEnd n b).tlu = d.tlu ∨ ∃ e, (d.recordEnd n b).tlu = d.tlu.request (laneOf n) e := by
  unfold Device.recordEnd
  dsimp only
  split
  · exact .inl (by simp)
  · exact classify_tlu _ n b

end Sys2Proof.Machine

/-! ## The ports' buffers stay sound (R71, R73, R75, R76, R79, R80) -/

namespace Sys2Proof.BuffersKept

open Sys2Proof.Machine Sys2Proof.Safety

/-! ### One port -/

/-- What `PortsSound` asks of a port's buffers and current buffer. -/
def BufsOk (p : Port) : Prop :=
  (match p.current with
   | none => p.bufX.state = .held ∧ p.bufY.state = .held ∧ p.state ≠ .stopping
   | some b => (p.buf b).state ≠ .held ∧ (p.buf b.other).state ≠ .filling ∧
     (p.state = .stopping → (p.buf b).state = .filling) ∧ (p.state = .disabled → (p.buf b).state = .free)) ∧
  ∀ b : BufferId, (p.buf b).chars.length = min 48 (p.buf b).received

/-- A port of a lane that is OPEN or not. -/
def PortOk (isOpen : Prop) (p : Port) : Prop := (p.state = .active ↔ p.enable = true ∧ isOpen) ∧ BufsOk p

/-- What of a port its soundness rests on. -/
def portCore (p : Port) : PortState × Buffer × Buffer × Option BufferId × Bool :=
  (p.state, p.bufX, p.bufY, p.current, p.enable)

theorem PortOk.of_core {isOpen : Prop} {p p' : Port} (h : PortOk isOpen p) (hc : portCore p' = portCore p) :
    PortOk isOpen p' := by
  simp only [portCore, Prod.mk.injEq] at hc
  obtain ⟨hs, hx, hy, hcur, he⟩ := hc
  have hbuf (b : BufferId) : p'.buf b = p.buf b := by cases b <;> simp [Port.buf, hx, hy]
  unfold PortOk BufsOk
  simp only [hs, hx, hy, hcur, he, hbuf]
  exact h

theorem follow_buf (p : Port) (x : Bool) (b : BufferId) : (p.follow x).buf b = p.buf b := by
  unfold Port.follow
  split <;> cases b <;> rfl

theorem follow_enable (p : Port) (x : Bool) : (p.follow x).enable = p.enable := by
  unfold Port.follow
  split <;> rfl

theorem restate_buf (p : Port) (s : PortState) (b : BufferId) : ({ p with state := s } : Port).buf b = p.buf b := by
  cases b <;> rfl

/-- Another state, STOPPING only over a FILLING buffer and DISABLED only without one. -/
theorem BufsOk.restate {p : Port} (h : BufsOk p) {s : PortState}
    (hstop : s = .stopping → ∃ b, p.current = some b ∧ (p.buf b).state = .filling)
    (hoff : s = .disabled → ∀ b, p.current = some b → (p.buf b).state = .free) : BufsOk { p with state := s } := by
  obtain ⟨hcur, hchars⟩ := h
  refine ⟨?_, fun b => by rw [restate_buf]; exact hchars b⟩
  dsimp only
  cases hc : p.current with
  | none =>
    simp only [hc] at hcur hstop
    exact ⟨hcur.1, hcur.2.1, fun hs => by obtain ⟨_, he, -⟩ := hstop hs; cases he⟩
  | some b =>
    simp only [hc, Option.some.injEq] at hcur hstop hoff
    exact ⟨hcur.1, hcur.2.1, fun hs => by obtain ⟨_, rfl, hf⟩ := hstop hs; exact hf, fun hs => hoff hs b rfl⟩

/-- The current buffer of a port is FREE or FILLING. -/
theorem BufsOk.current {p : Port} (h : BufsOk p) {b : BufferId} (hc : p.current = some b) :
    (p.buf b).state = .free ∨ (p.buf b).state = .filling := by
  have hcur := h.1
  simp only [hc] at hcur
  cases hb : (p.buf b).state with
  | free => exact .inl rfl
  | filling => exact .inr rfl
  | held => exact absurd hb hcur.1

/-- A port that has followed its permission is sound and ACTIVE exactly if it is permitted (R73). -/
theorem BufsOk.follow {p : Port} (h : BufsOk p) (x : Bool) :
    ((p.follow x).state = .active ↔ x = true) ∧ BufsOk (p.follow x) := by
  unfold Port.follow
  split
  · exact ⟨by simp, h.restate (by simp) (by simp)⟩
  · next hs => exact ⟨by simp [hs], h⟩
  · next hs => exact ⟨by simp [hs], h⟩
  · dsimp only
    cases hc : p.current with
    | none => exact ⟨by simp, hc ▸ h.restate (by simp [hc]) (by simp [hc])⟩
    | some b =>
      rcases h.current hc with hb | hb
      · exact ⟨by simp [hb], hc ▸ h.restate (by simp [hc, hb]) (by simp [hc, hb])⟩
      · exact ⟨by simp [hb], hc ▸ h.restate (by simp [hc, hb]) (by simp [hc, hb])⟩
  · exact ⟨by simp, h.restate (by simp) (by simp)⟩
  · next hs => exact ⟨by simp [hs], h⟩

theorem PortOk.follow {p : Port} {isOpen isOpen' : Prop} (h : PortOk isOpen p) {o : Bool} (ho : o = true ↔ isOpen') :
    PortOk isOpen' (p.follow (p.enable && o)) := by
  obtain ⟨hs, hb⟩ := h.2.follow (p.enable && o)
  refine ⟨?_, hb⟩
  rw [hs, follow_enable, Bool.and_eq_true, ho]

theorem BufsOk.release {p : Port} (h : BufsOk p) (b : BufferId) : BufsOk (p.release b) := by
  obtain ⟨hcur, hchars⟩ := h
  unfold Port.release
  split
  · next hb =>
    refine ⟨?_, fun c => ?_⟩
    · cases hc : p.current with
      | none =>
        simp only [hc] at hcur
        cases b <;> simp [Port.setBuf, Port.buf, BufferId.other, freeBuffer, hc, hcur]
      | some c =>
        simp only [hc] at hcur
        cases b <;> cases c <;> simp_all [Port.setBuf, Port.buf, BufferId.other, freeBuffer]
    · have := hchars c
      cases b <;> cases c <;> simp_all [Port.setBuf, Port.buf, freeBuffer]
  · exact ⟨hcur, hchars⟩

theorem release_state (p : Port) (b : BufferId) :
    (p.release b).state = p.state ∧ (p.release b).enable = p.enable := by
  unfold Port.release
  split
  · cases b <;> exact ⟨rfl, rfl⟩
  · exact ⟨rfl, rfl⟩

theorem PortOk.release {isOpen : Prop} {p : Port} (h : PortOk isOpen p) (b : BufferId) :
    PortOk isOpen (p.release b) := by
  refine ⟨?_, h.2.release b⟩
  rw [(release_state p b).1, (release_state p b).2]
  exact h.1

/-- Which buffers are HELD after a release: those that were, but for the one released. -/
theorem release_held (p : Port) (b c : BufferId) :
    ((p.release b).buf c).state = .held ↔ (p.buf c).state = .held ∧ c ≠ b := by
  unfold Port.release
  split
  · next hb => cases b <;> cases c <;> simp_all [Port.setBuf, Port.buf, freeBuffer]
  · next hb =>
    rcases eq_or_ne c b with rfl | hc
    · simpa using hb
    · simp [hc]

/-! ### The characters of a record (R76) -/

/-- A port whose record goes on or begins keeps its soundness; nothing is HELD by it. -/
theorem BufsOk.storeChar {p : Port} (h : BufsOk p) {b : BufferId} (hc : p.current = some b)
    (hs : p.state = .active ∨ (p.buf b).state = .filling) (c : Byte) (good : Bool) :
    BufsOk ((p.beginRecord b).storeChar b c good) := by
  obtain ⟨hcur, hchars⟩ := h
  simp only [hc] at hcur
  obtain ⟨hheld, hother, -, hoff⟩ := hcur
  have hlen (v : Buffer) (hv : v.chars.length = min 48 v.received) :
      (if sat16 v.received 1 ≤ Config.recordLength then v.chars ++ [c] else v.chars).length =
        min 48 (sat16 v.received 1) := by
    by_cases hle : sat16 v.received 1 ≤ Config.recordLength
    · rw [if_pos hle, List.length_append, List.length_singleton, hv]
      simp only [Config.recordLength, sat16] at hle ⊢
      omega
    · rw [if_neg hle, hv]
      simp only [Config.recordLength, sat16] at hle ⊢
      omega
  have hzero := hlen { state := .filling, chars := [], received := 0 } rfl
  have hx := hchars .x
  have hy := hchars .y
  cases hb : (p.buf b).state with
  | held => exact absurd hb hheld
  | free =>
    have hactive : p.state = .active := hs.resolve_right (by simp [hb])
    refine ⟨?_, fun a => ?_⟩
    · cases b <;> simp_all [Port.beginRecord, Port.storeChar, Port.setBuf, Port.buf, BufferId.other]
    · cases b <;> cases a <;> simp_all [Port.beginRecord, Port.storeChar, Port.setBuf, Port.buf]
  | filling =>
    have hon : p.state ≠ .disabled := fun he => by simp [hoff he] at hb
    have hnext := hlen (p.buf b) (hchars b)
    refine ⟨?_, fun a => ?_⟩
    · cases b <;> simp_all [Port.beginRecord, Port.storeChar, Port.setBuf, Port.buf, BufferId.other]
    · cases b <;> cases a <;> simp_all [Port.beginRecord, Port.storeChar, Port.setBuf, Port.buf]

theorem storeChar_rest (p : Port) (b : BufferId) (c : Byte) (good : Bool) :
    ((p.beginRecord b).storeChar b c good).state = p.state ∧ ((p.beginRecord b).storeChar b c good).enable = p.enable := by
  unfold Port.beginRecord
  split <;> cases b <;> exact ⟨rfl, rfl⟩

theorem storeChar_held (p : Port) {b : BufferId} (hb : (p.buf b).state ≠ .held) (c : Byte) (good : Bool) (a : BufferId) :
    (((p.beginRecord b).storeChar b c good).buf a).state = .held ↔ (p.buf a).state = .held := by
  unfold Port.beginRecord
  split <;> cases b <;> cases a <;> simp_all [Port.storeChar, Port.setBuf, Port.buf]

/-! ### The end of a record (R79) -/

/-- Where a port stands after the record in buffer `b` has ended: the buffer FREE and still current, or HELD with the
other buffer current if that is FREE. -/
def ended (p : Port) (b : BufferId) (v : Buffer) : Port := ((p.setBuf b v).nextBuffer b).endStopping

theorem setBuf_buf (p : Port) (b : BufferId) (v : Buffer) (c : BufferId) :
    (p.setBuf b v).buf c = if c = b then v else p.buf c := by
  cases b <;> cases c <;> rfl

theorem setBuf_rest (p : Port) (b : BufferId) (v : Buffer) :
    (p.setBuf b v).current = p.current ∧ (p.setBuf b v).state = p.state ∧ (p.setBuf b v).enable = p.enable := by
  cases b <;> exact ⟨rfl, rfl, rfl⟩

theorem other_ne (b : BufferId) : b.other ≠ b := by cases b <;> decide

theorem other_other (b : BufferId) : b.other.other = b := by cases b <;> rfl

theorem endStopping_eq (p : Port) :
    p.endStopping = { p with state := if p.state = .stopping then .disabled else p.state } := by
  unfold Port.endStopping
  split <;> rfl

/-- A port without a record in progress is sound once it has stopped. -/
theorem endStopping_ok {p : Port} (hchars : ∀ b, (p.buf b).chars.length = min 48 (p.buf b).received)
    (hcur : (p.current = none ∧ p.bufX.state = .held ∧ p.bufY.state = .held) ∨
      ∃ b, p.current = some b ∧ (p.buf b).state = .free ∧ (p.buf b.other).state ≠ .filling) : BufsOk p.endStopping := by
  have hns : (if p.state = .stopping then PortState.disabled else p.state) ≠ .stopping := by
    split
    · decide
    · assumption
  rw [endStopping_eq]
  refine ⟨?_, fun b => by rw [restate_buf]; exact hchars b⟩
  rcases hcur with ⟨hc, hx, hy⟩ | ⟨b, hc, hb, ho⟩
  · simp only [hc]
    exact ⟨hx, hy, hns⟩
  · simp only [hc]
    exact ⟨fun he : (p.buf b).state = .held => by simp [hb] at he, ho, fun he => absurd he hns, fun _ => hb⟩

theorem BufsOk.ended_free {p : Port} (h : BufsOk p) {b : BufferId} (hc : p.current = some b) :
    BufsOk (ended p b freeBuffer) := by
  obtain ⟨hcur, hchars⟩ := h
  simp only [hc] at hcur
  have hnext : (p.setBuf b freeBuffer).nextBuffer b = p.setBuf b freeBuffer := by
    rw [Port.nextBuffer, setBuf_buf, if_pos rfl, if_neg (by decide)]
  unfold ended
  rw [hnext]
  refine endStopping_ok (fun c => ?_) (.inr ⟨b, (setBuf_rest p b _).1.trans hc, ?_, ?_⟩)
  · rw [setBuf_buf]
    split
    · rfl
    · exact hchars c
  · rw [setBuf_buf, if_pos rfl]
    rfl
  · rw [setBuf_buf, if_neg (other_ne b)]
    exact hcur.2.1

theorem BufsOk.ended_held {p : Port} (h : BufsOk p) {b : BufferId} (hc : p.current = some b) :
    BufsOk (ended p b { p.buf b with state := .held }) := by
  obtain ⟨hcur, hchars⟩ := h
  simp only [hc] at hcur
  have hnext : (p.setBuf b { p.buf b with state := .held }).nextBuffer b =
      { p.setBuf b { p.buf b with state := .held } with
        current := if (p.buf b.other).state = .free then some b.other else none } := by
    rw [Port.nextBuffer, setBuf_buf, if_pos rfl, if_pos rfl, setBuf_buf, if_neg (other_ne b)]
  have hbuf (a : Option BufferId) (c : BufferId) : ({ p.setBuf b { p.buf b with state := .held } with
      current := a } : Port).buf c = if c = b then { p.buf b with state := .held } else p.buf c := by
    rw [← setBuf_buf]
    cases c <;> rfl
  unfold ended
  rw [hnext]
  refine endStopping_ok (fun c => ?_) ?_
  · rw [hbuf]
    split
    · exact hchars b
    · exact hchars c
  · by_cases ho : (p.buf b.other).state = .free
    · refine .inr ⟨b.other, by simp [ho], ?_, ?_⟩
      · rw [hbuf, if_neg (other_ne b)]
        exact ho
      · rw [hbuf, if_pos (other_other b)]
        simp
    · have hheld : (p.buf b.other).state = .held := by
        cases hs : (p.buf b.other).state with
        | free => exact absurd hs ho
        | filling => exact absurd hs hcur.2.1
        | held => rfl
      refine .inl ⟨by simp [ho], ?_, ?_⟩
      · cases b <;> simp_all [Port.setBuf, Port.buf, BufferId.other]
      · cases b <;> simp_all [Port.setBuf, Port.buf, BufferId.other]

theorem ended_held_iff (p : Port) (b : BufferId) (v : Buffer) (c : BufferId) :
    ((ended p b v).buf c).state = .held ↔ if c = b then v.state = .held else (p.buf c).state = .held := by
  have hnext (q : Port) : (q.nextBuffer b).buf c = q.buf c := by
    unfold Port.nextBuffer
    split
    · cases c <;> rfl
    · rfl
  unfold ended
  rw [endStopping_eq, restate_buf, hnext, setBuf_buf]
  split <;> rfl

/-! ### HELD buffers against the entries that refer to them -/

/-- How many entries of a queue refer to a buffer. -/
def entriesOn (p : PendLane) (n : Fin 32) (b : BufferId) : Nat := p.queue.countP fun e => refersTo e n b

/-- `HeldBuffersSound` on the queues and the ports alone. -/
def HeldOk (v : Table PendLane 17) (ports : Table Port 32) : Prop :=
  ∀ (n : Fin 32) (b : BufferId) (q : Fin 17), entriesOn v[q] n b =
    if q = laneQueue (laneOf n) ∧ (ports[n].buf b).state = .held then 1 else 0

theorem HeldOk.congr {v w : Table PendLane 17} {ports ports' : Table Port 32} (h : HeldOk v ports)
    (hq : ∀ n b (q : Fin 17), entriesOn w[q] n b = entriesOn v[q] n b)
    (hp : ∀ (n : Fin 32) b, (ports'[n].buf b).state = .held ↔ (ports[n].buf b).state = .held) : HeldOk w ports' := by
  intro n b q
  rw [hq, h n b q]
  exact if_congr (and_congr_right' (hp n b).symm) rfl rfl

/-- Events without a scanner record refer to no buffer. -/
theorem entriesOn_told {v w : Table PendLane 17} (h : Told Plain v w) (n : Fin 32) (b : BufferId) (q : Fin 17) :
    entriesOn w[q] n b = entriesOn v[q] n b := by
  induction h with
  | refl => rfl
  | @tell w _ q' e hb ih =>
    rw [← ih, upd_getElem]
    split
    · have hno : refersTo e n b = false := by
        unfold refersTo
        split
        · next he =>
          rw [Plain, he] at hb
          cases hb
        · rfl
        · rfl
      unfold PendLane.tell
      split
      · simp [entriesOn, hno]
      · rfl
    · rfl

/-- A buffer that an entry refers to is HELD, and the entry stands in its lane's queue. -/
theorem HeldOk.held {v : Table PendLane 17} {ports : Table Port 32} (h : HeldOk v ports) {q : Fin 17} {e : Entry}
    (he : e ∈ v[q].queue) {n : Fin 32} {b : BufferId} (hr : refersTo e n b = true) :
    q = laneQueue (laneOf n) ∧ (ports[n].buf b).state = .held := by
  have hpos : 0 < entriesOn v[q] n b := List.countP_pos_iff.mpr ⟨e, he, hr⟩
  rw [h n b q] at hpos
  by_contra hc
  rw [if_neg hc] at hpos
  exact lt_irrefl 0 hpos

theorem refersTo_iff {e : Entry} {n : Fin 32} {b : BufferId} :
    refersTo e n b = true ↔ ∃ i j, e.body = .buffer n b i j := by
  unfold refersTo
  split
  · next he => simp [he]
  · next he => simp [he]
  · next he => simp [he]

/-- The port after the release of the buffer that a body refers to. -/
theorem releaseBody_port (d : Device) (e : Entry) (n : Fin 32) (b : BufferId) :
    ((d.releaseBody e.body).ports[n].buf b).state = .held ↔
      (d.ports[n].buf b).state = .held ∧ refersTo e n b = false := by
  unfold Device.releaseBody refersTo
  cases e.body with
  | buffer m c i j =>
    dsimp only
    rw [Device.updPort_ports, upd_getElem]
    split
    · next hm =>
      subst hm
      rw [release_held]
      cases b <;> cases c <;> simp
    · next hm => simp [Ne.symm hm]
  | _ => simp

/-- The head leaves its queue and the buffer it refers to is released. -/
theorem HeldOk.pop {d : Device} {v w : Table PendLane 17} (h : HeldOk v d.ports) {q : Fin 17} {e : Entry}
    {rest : List Entry} (hv : v[q].queue = e :: rest) (hw : w[q].queue = rest)
    (hother : ∀ r : Fin 17, r ≠ q → w[r] = v[r]) : HeldOk w (d.releaseBody e.body).ports := by
  intro n b r
  have hhead : refersTo e n b = true → q = laneQueue (laneOf n) ∧ (d.ports[n].buf b).state = .held :=
    h.held (hv ▸ List.mem_cons_self)
  have hwas := h n b q
  rw [if_congr (and_congr_right' (releaseBody_port d e n b)) rfl rfl]
  rcases eq_or_ne r q with rfl | hr
  · have hcount : entriesOn v[r] n b = entriesOn w[r] n b + if refersTo e n b = true then 1 else 0 := by
      rw [entriesOn, hv, List.countP_cons, entriesOn, hw]
    rw [hcount] at hwas
    by_cases href : refersTo e n b = true
    · rw [if_pos href, if_pos (hhead href)] at hwas
      rw [if_neg (by simp [href])]
      omega
    · rw [if_neg href, Nat.add_zero] at hwas
      rw [hwas]
      simp only [Bool.not_eq_true] at href
      simp [href]
  · rw [hother r hr, h n b r]
    by_cases href : refersTo e n b = true
    · have hrn : ¬ r = laneQueue (laneOf n) := fun he => hr (he.trans (hhead href).1.symm)
      rw [if_neg (by simp [hrn]), if_neg (by simp [hrn])]
    · simp only [Bool.not_eq_true] at href
      simp [href]

/-- An entry that refers to a buffer just HELD is appended to the lane's queue. -/
theorem HeldOk.hold {v w : Table PendLane 17} {ports ports' : Table Port 32} (h : HeldOk v ports) {n : Fin 32}
    {b : BufferId} {e : Entry} (he : ∀ m c, refersTo e m c = true ↔ m = n ∧ c = b)
    (hfree : (ports[n].buf b).state ≠ .held)
    (hw : w[laneQueue (laneOf n)].queue = v[laneQueue (laneOf n)].queue ++ [e])
    (hother : ∀ r : Fin 17, r ≠ laneQueue (laneOf n) → w[r] = v[r])
    (hp : ∀ m c, (ports'[m].buf c).state = .held ↔ if m = n ∧ c = b then True else (ports[m].buf c).state = .held) :
    HeldOk w ports' := by
  intro m c r
  have hwas := h m c r
  by_cases hmc : m = n ∧ c = b
  · obtain ⟨rfl, rfl⟩ := hmc
    have hnow : (ports'[m].buf c).state = .held := (hp m c).mpr (by simp)
    rw [if_neg (fun hc => hfree hc.2)] at hwas
    rcases eq_or_ne r (laneQueue (laneOf m)) with rfl | hr
    · rw [if_pos ⟨rfl, hnow⟩, entriesOn, hw, List.countP_append, List.countP_singleton, if_pos ((he m c).mpr ⟨rfl, rfl⟩)]
      exact congrArg (· + 1) hwas
    · rw [if_neg (fun hc => hr hc.1), hother r hr]
      exact hwas
  · have hsame : entriesOn w[r] m c = entriesOn v[r] m c := by
      rcases eq_or_ne r (laneQueue (laneOf n)) with rfl | hr
      · rw [entriesOn, hw, List.countP_append, List.countP_singleton, if_neg (fun hc => hmc ((he m c).mp hc))]
        rfl
      · rw [hother r hr]
    rw [hsame, hwas]
    exact if_congr (and_congr_right' (by rw [hp m c, if_neg hmc])) rfl rfl

/-! ### Ports and entries together -/

/-- `PortsSound` and `HeldBuffersSound`. -/
structure Ok (d : Device) : Prop where
  ports : ∀ n : Fin 32, PortOk (d.lanes[laneOf n].state = .opened) d.ports[n]
  held  : HeldOk d.pool.lanes d.ports

theorem ok_iff (d : Device) : PortsSound d ∧ HeldBuffersSound d ↔ Ok d :=
  ⟨fun h => ⟨h.1, h.2⟩, fun h => ⟨h.1, h.2⟩⟩

theorem Ok.congr {d e : Device} (h : Ok d) (hs : ∀ l : Fin 16, e.lanes[l].state = d.lanes[l].state)
    (hp : e.ports = d.ports) (hq : Told Plain d.pool.lanes e.pool.lanes) : Ok e := by
  refine ⟨fun n => ?_, h.held.congr (entriesOn_told hq) fun n b => by rw [hp]⟩
  rw [hp, hs]
  exact h.ports n

/-- One port changed in what its soundness does not rest on. -/
theorem Ok.updPort_core {d : Device} (h : Ok d) (n : Fin 32) {f : Port → Port}
    (hf : portCore (f d.ports[n]) = portCore d.ports[n]) : Ok (d.updPort n f) := by
  have hbuf (b : BufferId) : (f d.ports[n]).buf b = d.ports[n].buf b := by
    simp only [portCore, Prod.mk.injEq] at hf
    cases b
    · exact hf.2.1
    · exact hf.2.2.1
  refine ⟨fun m => ?_, h.held.congr (fun _ _ _ => rfl) fun m b => ?_⟩
  · rw [Device.updPort_ports, upd_getElem]
    split
    · next hm => exact hm ▸ (h.ports n).of_core hf
    · exact h.ports m
  · rw [Device.updPort_ports, upd_getElem]
    split
    · next hm => rw [hm, hbuf]
    · rfl

/-- The ports of a lane that becomes OPEN or leaves OPEN are told so (R74). -/
theorem Ok.told {d e : Device} (h : Ok d) {l : Fin 16} {o : Bool} (hq : Told Plain d.pool.lanes e.pool.lanes)
    (hp : e.ports = (d.tellPorts l o).ports)
    (hs : ∀ m : Fin 16, e.lanes[m].state = .opened ↔ if m = l then o = true else d.lanes[m].state = .opened) : Ok e := by
  refine ⟨fun n => ?_, h.held.congr (entriesOn_told hq) fun n b => ?_⟩
  · rw [hp, tellPorts_ports]
    split
    · next hl => exact (h.ports n).follow ((hs (laneOf n)).trans (by rw [if_pos hl])).symm
    · next hl =>
      rw [show (e.lanes[laneOf n].state = .opened) = (d.lanes[laneOf n].state = .opened) from
        propext ((hs _).trans (by rw [if_neg hl]))]
      exact h.ports n
  · rw [hp, tellPorts_ports]
    split
    · rw [follow_buf]
    · rfl

/-! ### Lanes that open, close and are reset -/

theorem upd_state (v : Table LaneRec 16) {l : Fin 16} {f : LaneRec → LaneRec} {s : LaneState} (hf : ∀ r, (f r).state = s)
    (m : Fin 16) : (upd v l f)[m].state = if m = l then s else v[m].state := by
  rw [upd_getElem]
  split
  · exact hf _
  · rfl

theorem openLane_ok {d : Device} (h : Ok d) (l : Fin 16) : Ok (d.openLane l) := by
  refine h.told (l := l) (o := true) (openLane_touches d l .entries (by decide)) (openLane_ports d l) fun m => ?_
  rw [openLane_lanes, upd_state _ (s := .opened) fun _ => rfl]
  split <;> simp

theorem suspendLane_ok {d : Device} (h : Ok d) (l : Fin 16) : Ok (d.suspendLane l) := by
  refine h.told (l := l) (o := false) (suspendLane_touches d l .entries (by decide)) (suspendLane_ports d l) fun m => ?_
  rw [suspendLane_lanes, upd_state _ (s := .suspended) fun _ => rfl]
  split <;> simp

theorem resumeLane_ok {d : Device} (h : Ok d) (l : Fin 16) : Ok (d.resumeLane l) := by
  refine h.told (l := l) (o := true) (resumeLane_touches d l .entries (by decide)) (resumeLane_ports d l) fun m => ?_
  rw [resumeLane_lanes, upd_state _ (s := .opened) fun _ => rfl]
  split <;> simp

/-- A lane in a state other than OPEN goes to one that is not OPEN either: its ports are not told. -/
theorem Ok.unopened {d e : Device} (h : Ok d) {l : Fin 16} (hl : d.lanes[l].state ≠ .opened)
    (hq : Told Plain d.pool.lanes e.pool.lanes) (hp : e.ports = d.ports)
    (hs : ∀ m : Fin 16, e.lanes[m].state = .opened ↔ if m = l then False else d.lanes[m].state = .opened) : Ok e := by
  refine ⟨fun n => ?_, h.held.congr (entriesOn_told hq) fun n b => by rw [hp]⟩
  have hsame : e.lanes[laneOf n].state = .opened ↔ d.lanes[laneOf n].state = .opened := by
    rw [hs]
    split
    · next hn => exact iff_of_false id (hn ▸ hl)
    · rfl
  rw [hp, show (e.lanes[laneOf n].state = .opened) = _ from propext hsame]
  exact h.ports n

theorem depart_ok {d : Device} (h : Ok d) (l : Fin 16) {dest : LaneState} (hd : dest ≠ .opened) (c : LaneCause) :
    Ok (d.depart l dest c) := by
  have hq : Told Plain d.pool.lanes (d.depart l dest c).pool.lanes := depart_touches d l dest c .entries (by decide)
  have hports := depart_ports d l dest c
  have hs (m : Fin 16) : (d.depart l dest c).lanes[m].state = .opened ↔
      if m = l then False else d.lanes[m].state = .opened := by
    rw [depart_lanes, upd_state _ (departed_state dest)]
    split
    · exact iff_of_false hd id
    · rfl
  by_cases hopen : d.lanes[l].state = .opened
  · rw [if_pos hopen] at hports
    exact h.told hq hports (by simpa using hs)
  · rw [if_neg hopen] at hports
    exact h.unopened hopen hq hports hs

theorem closeFaulted_ok {d : Device} (h : Ok d) {l : Fin 16} (hl : d.lanes[l].state = .faulted) :
    Ok (d.closeFaulted l) := by
  refine h.unopened (l := l) (by rw [hl]; decide) (closeFaulted_touches d l .entries (by decide))
    (closeFaulted_touches d l .ports (by decide)) fun m => ?_
  rw [closeFaulted_lanes, upd_state _ (s := .closed) fun _ => (LaneRec.enterClosedWake_keeps _).1]
  split <;> simp

theorem laneReset_ok (p : Port) : BufsOk p.laneReset := by
  refine ⟨?_, fun b => ?_⟩
  · simp [Port.laneReset, Port.buf, BufferId.other, freeBuffer]
  · cases b <;> rfl

theorem laneReset_free (p : Port) (b : BufferId) : (p.laneReset.buf b).state = .free := by
  cases b <;> rfl

theorem resetLane_queue (d : Device) (l : Fin 16) (n : Fin 32) (b : BufferId) (q : Fin 17) :
    entriesOn (d.resetLane l).pool.lanes[q] n b =
      if q = laneQueue l then 0 else entriesOn d.pool.lanes[q] n b := by
  rw [entriesOn_told (resetLane_touches_emptied d l .entries (by decide)), emptyQueue_lanes, upd_getElem]
  split
  · rfl
  · rfl

theorem resetLane_ok {d : Device} (h : Ok d) (l : Fin 16) : Ok (d.resetLane l) := by
  have hmine (n : Fin 32) (hn : laneOf n ≠ l) : (d.resetLane l).ports[n] = d.ports[n] := by
    rw [resetLane_ports, if_neg hn, emptyQueue_ports, releasedAll_other]
    intro e he c i j hb
    have hq := (h.held.held he (refersTo_iff.mpr ⟨i, j, hb⟩)).1
    exact hn (by simpa [laneQueue, Fin.ext_iff, eq_comm] using hq)
  have hreset (n : Fin 32) (hn : laneOf n = l) : (d.resetLane l).ports[n] = d.ports[n].laneReset := by
    rw [resetLane_ports, if_pos hn, emptyQueue_ports, laneReset_releasedAll]
  have hs (m : Fin 16) : (d.resetLane l).lanes[m].state = if m = l then .closed else d.lanes[m].state := by
    rw [resetLane_lanes, upd_state _ wiped_state]
  refine ⟨fun n => ?_, fun n b q => ?_⟩
  · by_cases hn : laneOf n = l
    · rw [hreset n hn, hs, if_pos hn]
      exact ⟨by simp [Port.laneReset], laneReset_ok _⟩
    · rw [hmine n hn, hs, if_neg hn]
      exact h.ports n
  · rw [resetLane_queue]
    by_cases hn : laneOf n = l
    · have hno (P : Prop) : ¬ (P ∧ ((d.resetLane l).ports[n].buf b).state = .held) := by
        rw [hreset n hn, laneReset_free]
        simp
      rw [if_neg (hno _)]
      by_cases hq : q = laneQueue l
      · rw [if_pos hq]
      · rw [if_neg hq, h.held n b q, if_neg (fun hc => hq (hn ▸ hc.1))]
    · rw [hmine n hn]
      by_cases hq : q = laneQueue l
      · rw [if_pos hq, if_neg]
        rintro ⟨he, -⟩
        exact hn (by simpa [laneQueue, Fin.ext_iff, eq_comm] using hq.symm.trans he)
      · rw [if_neg hq]
        exact h.held n b q

/-! ### Heads that leave their queue (R113, R114, R116) -/

theorem releaseBody_ok (d : Device) {b : BodyRef} {P : Fin 32 → Prop} (h : ∀ n, PortOk (P n) d.ports[n]) (n : Fin 32) :
    PortOk (P n) (d.releaseBody b).ports[n] := by
  rw [releaseBody_ports]
  cases b with
  | buffer m c i j =>
    rw [releasedBy, upd_getElem]
    split
    · exact (h n).release c
    · exact h n
  | _ => exact h n

/-- The head of a queue has left it and the buffer it refers to is released; nothing else matters. -/
theorem Ok.popped {d e : Device} (h : Ok d) {q : Fin 17} {x : Entry} {rest : List Entry}
    (hv : d.pool.lanes[q].queue = x :: rest) (hs : e.lanes = d.lanes) (hp : e.ports = (d.releaseBody x.body).ports)
    {f : PendLane → PendLane} (hf : ∀ p, (f p).queue = p.queue.tail) (hl : e.pool.lanes = upd d.pool.lanes q f) : Ok e := by
  refine ⟨fun n => ?_, ?_⟩
  · rw [hs, hp]
    exact releaseBody_ok d h.ports n
  · rw [hp]
    refine h.held.pop hv ?_ fun r hr => ?_
    · rw [hl, upd_getElem_self, hf, hv, List.tail_cons]
    · rw [hl, upd_getElem_ne _ _ hr]

theorem attempt_ok {d : Device} (h : Ok d) (q : Fin 17) : Ok (d.attempt q) := by
  unfold Device.attempt
  split
  · exact h
  · next e rest hq =>
    have hserved : Ok (d.updPool fun p => { p with lastServed := q }) := h.congr (fun _ => rfl) rfl .refl
    have hwait (s : SortedSet) : Ok ((d.updPool fun p => { p with lastServed := q }).waitHead q s) := by
      refine ⟨h.ports, h.held.congr (fun n b r => ?_) fun _ _ => Iff.rfl⟩
      unfold Device.waitHead
      rw [Device.updPend_pool, Device.updPool_pool, upd_getElem]
      split <;> rfl
    dsimp only
    split
    · refine hserved.popped (e := Device.discardHead _ q e _) hq ?_ ?_ (f := PendLane.popHead) (fun _ => rfl) ?_
      · simp [Device.discardHead, Device.flagRefused]
      · simp [Device.discardHead, Device.flagRefused, releaseBody_ports]
      · simp [Device.discardHead, Device.flagRefused]
    · split
      · exact hwait _
      · split
        · refine hserved.popped (e := Device.admitHead _ q e _ _ _) hq ?_ ?_
            (f := fun n => { n with gap := false }.popHead) (fun _ => rfl) ?_
          · simp [Device.admitHead]
          · simp [Device.admitHead, releaseBody_ports]
          · simp [Device.admitHead]
        · exact hwait _

theorem admission_ok {d : Device} (h : Ok d) : Ok (admission d) := by
  unfold admission
  split
  · exact attempt_ok h _
  · exact h

theorem limitExpiry_ok {d : Device} (h : Ok d) (q : Fin 17) : Ok (limitExpiry q d) := by
  unfold limitExpiry
  dsimp only
  split
  · next e rest _ _ hq =>
    have hlost : Ok ((d.updPend q PendLane.popHead).loseEntry q e) := by
      refine h.popped hq ?_ ?_
        (f := (fun p => { p with lossCount := sat16 p.lossCount 1, gap := true }) ∘ PendLane.popHead) (fun _ => rfl) ?_
      · simp
      · rw [loseEntry_ports, releaseBody_ports]
        rfl
      · rw [loseEntry_lanes, Device.updPend_pool, upd_upd]
    split
    · exact ⟨hlost.ports, hlost.held⟩
    · exact hlost
  · exact h

/-! ### Characters and record ends (R76, R79) -/

/-- One port changed, with its HELD buffers as they were. -/
theorem Ok.updPort {d : Device} (h : Ok d) (n : Fin 32) {f : Port → Port}
    (hf : PortOk (d.lanes[laneOf n].state = .opened) (f d.ports[n]))
    (hheld : ∀ b, ((f d.ports[n]).buf b).state = .held ↔ (d.ports[n].buf b).state = .held) : Ok (d.updPort n f) := by
  refine ⟨fun m => ?_, h.held.congr (fun _ _ _ => rfl) fun m b => ?_⟩
  · rw [Device.updPort_ports, upd_getElem]
    split
    · next hm => exact hm ▸ hf
    · exact h.ports m
  · rw [Device.updPort_ports, upd_getElem]
    split
    · next hm => rw [hm, hheld]
    · rfl

theorem countRecord_core (p : Port) : portCore p.countRecord = portCore p := rfl

/-- A buffer just HELD and released again is FREE, and still the current one. -/
theorem release_setBuf {p : Port} {b : BufferId} (hc : p.current = some b) (v : Buffer) :
    (p.setBuf b { v with state := .held }).release b = p.setBuf b freeBuffer := by
  unfold Port.release
  rw [setBuf_buf, if_pos rfl, if_pos rfl]
  cases b <;> simp [Port.setBuf, hc]

/-- What the classification of a sound record makes of its port and its lane's queue (R80, R92): the entry is queued,
or the buffer is FREE again. -/
inductive Settled (d e : Device) (n : Fin 32) (b : BufferId) : Prop
  | queued (x : Entry) (i j : Nat) (hx : x.body = .buffer n b i j) (hp : e.ports = d.ports)
      (hq : e.pool.lanes[laneQueue (laneOf n)].queue = d.pool.lanes[laneQueue (laneOf n)].queue ++ [x])
      (ho : ∀ q : Fin 17, q ≠ laneQueue (laneOf n) → e.pool.lanes[q] = d.pool.lanes[q])
  | freed (o : Bool) (hp : e.ports = upd d.ports n fun p => { p with overrun := o }.release b)
      (hq : ∀ q : Fin 17, e.pool.lanes[q].queue = d.pool.lanes[q].queue)

theorem Settled.of_eq {d d' e e' : Device} {n : Fin 32} {b : BufferId} (h : Settled d e n b) (hd : d.ports = d'.ports)
    (hd' : d.pool = d'.pool) (he : e'.ports = e.ports) (he' : e'.pool = e.pool) : Settled d' e' n b := by
  cases h with
  | queued x i j hx hp hq ho =>
    rw [hd] at hp
    rw [hd'] at hq ho
    exact .queued x i j hx (he.trans hp) (he' ▸ hq) (he' ▸ ho)
  | freed o hp hq =>
    rw [hd] at hp
    rw [hd'] at hq
    exact .freed o (he.trans hp) (he' ▸ hq)

theorem offer_settled (d : Device) (n : Fin 32) {b : BufferId} {v : Notice} {i j : Nat}
    (hv : v.body = .buffer n b i j) : Settled d (d.offer (laneQueue (laneOf n)) v) n b := by
  have hlanes := offer_lanes d (laneQueue (laneOf n)) v
  have hports := offer_ports d (laneQueue (laneOf n)) v
  by_cases hroom : d.pool.lanes[laneQueue (laneOf n)].queue.length < 8
  · rw [if_pos hroom] at hports
    refine .queued { ev := d.eventOf (laneQueue (laneOf n)) v, body := v.body } i j hv hports ?_ fun q hq => ?_
    · rw [hlanes, upd_getElem_self, PendLane.tell, if_pos hroom]
    · rw [hlanes, upd_getElem_ne _ _ hq]
  · rw [if_neg hroom, hv] at hports
    refine .freed d.ports[n].overrun (hports.trans (upd_congr d.ports n rfl)) fun q => ?_
    rw [hlanes, upd_getElem]
    split
    · next hq => rw [PendLane.tell, if_neg (hq ▸ hroom)]
    · rfl

theorem classify_settled (d : Device) (n : Fin 32) (b : BufferId) : Settled d (d.classify n b) n b := by
  have hmatch (m : Option (Fin 32)) : (d.countMatch m).ports = d.ports ∧ (d.countMatch m).pool = d.pool := by
    unfold Device.countMatch
    split <;> exact ⟨rfl, rfl⟩
  unfold Device.classify
  dsimp only
  split
  · refine .freed (d.ports[n].overrun || d.ports[n].markOverrun) ?_ fun q => by simp [hmatch]
    rw [Device.updPort_ports, Device.updPort_ports, upd_upd, (hmatch _).1]
    exact upd_congr d.ports n rfl
  · refine Settled.of_eq (d := d.countMatch (d.rules.firstMatch (laneOf n) (d.ports[n].buf b).chars)) ?_
      (hmatch _).1 (hmatch _).2 (Device.requestToneOpt_ports _ _ _)
      (Device.requestToneOpt_pool _ _ _)
    exact offer_settled _ n rfl

/-- The end of a record: the buffer FREE again with no entry that refers to it, or HELD with one at the tail of the
lane's queue. -/
theorem recordEnd_cases (d : Device) (n : Fin 32) {b : BufferId} (hb : d.ports[n].current = some b) :
    ∃ p, portCore p = portCore d.ports[n] ∧
      (((d.recordEnd n b).ports = upd d.ports n (fun _ => ended p b freeBuffer) ∧
        ∀ m c (q : Fin 17), entriesOn (d.recordEnd n b).pool.lanes[q] m c = entriesOn d.pool.lanes[q] m c) ∨
      ((d.recordEnd n b).ports = upd d.ports n (fun _ => ended p b { p.buf b with state := .held }) ∧
        (∀ q : Fin 17, q ≠ laneQueue (laneOf n) → (d.recordEnd n b).pool.lanes[q] = d.pool.lanes[q]) ∧
        ∃ x i j, x.body = .buffer n b i j ∧ (d.recordEnd n b).pool.lanes[laneQueue (laneOf n)].queue =
          d.pool.lanes[laneQueue (laneOf n)].queue ++ [x])) := by
  unfold Device.recordEnd
  dsimp only
  split
  · refine ⟨d.ports[n].countRecord, countRecord_core _, .inl ⟨?_, fun m c q => ?_⟩⟩
    · rw [Device.updPort_ports, Device.updPort_ports]
      rw [tell_touches _ _ _ (faultNotice_bufferless n _ _) .ports (by decide), Device.updPort_ports, upd_upd, upd_upd]
      exact upd_congr d.ports n rfl
    · exact entriesOn_told (tell_touches _ _ _ (faultNotice_bufferless n _ _) .entries (by decide)) m c q
  · have hset := classify_settled ((d.updPort n Port.countRecord).updPort n fun p =>
      p.setBuf b { p.buf b with state := .held }) n b
    cases hset with
    | queued x i j hx hp hq ho =>
      refine ⟨d.ports[n].countRecord, countRecord_core _, .inr ⟨?_, ho, x, i, j, hx, hq⟩⟩
      rw [Device.updPort_ports, hp, Device.updPort_ports, Device.updPort_ports, upd_upd, upd_upd]
      exact upd_congr d.ports n rfl
    | freed o hp hq =>
      refine ⟨{ d.ports[n].countRecord with overrun := o }, rfl, .inl ⟨?_, fun m c q => ?_⟩⟩
      · rw [Device.updPort_ports, hp, Device.updPort_ports, Device.updPort_ports, upd_upd, upd_upd, upd_upd]
        refine upd_congr d.ports n ?_
        have hrel := release_setBuf (p := { d.ports[n].countRecord with overrun := o }) (b := b) hb
          (d.ports[n].countRecord.buf b)
        have hset : ({ (d.ports[n].countRecord.setBuf b { d.ports[n].countRecord.buf b with state := .held }) with
            overrun := o } : Port) = { d.ports[n].countRecord with overrun := o }.setBuf b
              { d.ports[n].countRecord.buf b with state := .held } := by cases b <;> rfl
        rw [← hset] at hrel
        exact congrArg (fun q => (q.nextBuffer b).endStopping) hrel
      · exact congrArg (fun l => l.countP fun e => refersTo e m c) (hq q)

/-- What the end of a record makes of its port's state. -/
theorem ended_state (p : Port) (b : BufferId) (v : Buffer) : (ended p b v).enable = p.enable ∧
    ((ended p b v).state = .active ↔ p.state = .active) := by
  have hnext : (p.setBuf b v).nextBuffer b = { p.setBuf b v with
      current := ((p.setBuf b v).nextBuffer b).current } := by
    unfold Port.nextBuffer
    split <;> rfl
  obtain ⟨-, hstate, henable⟩ := setBuf_rest p b v
  unfold ended
  rw [endStopping_eq, hnext]
  dsimp only
  rw [hstate, henable]
  refine ⟨rfl, ?_⟩
  split
  · next hs => simp [hs]
  · rfl

theorem recordEnd_ok {d : Device} (h : Ok d) (n : Fin 32) {b : BufferId} (hb : d.ports[n].current = some b)
    (hf : (d.ports[n].buf b).state = .filling) : Ok (d.recordEnd n b) := by
  have hlanes : (d.recordEnd n b).lanes = d.lanes := recordEnd_touches d n b .lanes (by decide)
  obtain ⟨p, hcore, hcases⟩ := recordEnd_cases d n hb
  have hp := (h.ports n).of_core hcore
  have hbufs (c : BufferId) : p.buf c = d.ports[n].buf c := by
    simp only [portCore, Prod.mk.injEq] at hcore
    cases c
    · exact hcore.2.1
    · exact hcore.2.2.1
  have hc : p.current = some b := by
    simp only [portCore, Prod.mk.injEq] at hcore
    exact hcore.2.2.2.1.trans hb
  have hports {v : Buffer} (hv : BufsOk (ended p b v)) (he : (d.recordEnd n b).ports = upd d.ports n fun _ => ended p b v)
      (m : Fin 32) : PortOk ((d.recordEnd n b).lanes[laneOf m].state = .opened) (d.recordEnd n b).ports[m] := by
    rw [hlanes, he, upd_getElem]
    split
    · next hm =>
      refine ⟨?_, hv⟩
      rw [(ended_state p b v).1, (ended_state p b v).2, hm]
      exact hp.1
    · exact h.ports m
  rcases hcases with ⟨he, hq⟩ | ⟨he, ho, x, i, j, hx, hq⟩
  · refine ⟨hports (hp.2.ended_free hc) he, h.held.congr hq fun m c => ?_⟩
    rw [he, upd_getElem]
    split
    · next hm =>
      rw [ended_held_iff, hm]
      split
      · next hcb =>
        rw [hcb, hf]
        decide
      · rw [hbufs]
    · rfl
  · refine ⟨hports (hp.2.ended_held hc) he, h.held.hold (n := n) (b := b) (fun m c => ?_) (by rw [hf]; decide) hq ho
      fun m c => ?_⟩
    · rw [refersTo_iff, hx]
      constructor
      · rintro ⟨_, _, hxy⟩
        cases hxy
        exact ⟨rfl, rfl⟩
      · rintro ⟨rfl, rfl⟩
        exact ⟨i, j, rfl⟩
    · rw [he, upd_getElem]
      by_cases hm : m = n
      · rw [if_pos hm, ended_held_iff, hm]
        by_cases hcb : c = b
        · rw [if_pos hcb, if_pos ⟨rfl, hcb⟩]
          exact iff_of_true rfl trivial
        · rw [if_neg hcb, if_neg (fun hx => hcb hx.2), hbufs]
      · rw [if_neg hm, if_neg (fun hx => hm hx.1)]

theorem recordChar_ok {d : Device} (h : Ok d) (n : Fin 32) {b : BufferId} (hb : d.ports[n].current = some b)
    (hs : d.ports[n].state = .active ∨ (d.ports[n].buf b).state = .filling) (c : Byte) (good : Bool) :
    Ok (d.recordChar n b c good) := by
  unfold Device.recordChar
  dsimp only
  split
  · split
    · next hf => exact recordEnd_ok h n hb hf
    · exact h
  · have hp := h.ports n
    have hfree : (d.ports[n].buf b).state ≠ .held := by
      rcases hp.2.current hb with hf | hf <;> rw [hf] <;> decide
    refine h.updPort n ⟨?_, hp.2.storeChar hb hs c good⟩ (storeChar_held _ hfree c good)
    rw [(storeChar_rest _ b c good).1, (storeChar_rest _ b c good).2]
    exact hp.1

theorem scannerCharacter_ok {d : Device} (h : Ok d) (c : Byte) (good : Bool) (n : Fin 32) :
    Ok (scannerCharacter c good n d) := by
  have hread : Ok (d.updPort n fun p => { p with charRate := none }) := h.updPort_core n rfl
  have hdiscarded := hread.updPort_core n (f := fun p => { p with cDiscarded := sat16 p.cDiscarded 1 }) rfl
  unfold scannerCharacter
  dsimp only
  split
  · next hs hb => exact recordChar_ok hread n hb (.inl hs) c good
  · exact hread.updPort_core n rfl
  · next hs hb =>
    split
    · next hf => exact recordChar_ok hread n hb (.inr hf) c good
    · exact hdiscarded
  · exact hdiscarded
  · exact hdiscarded

theorem idleExpiry_ok {d : Device} (h : Ok d) (n : Fin 32) : Ok (idleExpiry n d) := by
  unfold idleExpiry
  dsimp only
  split
  · next hb =>
    split
    · next hf => exact recordEnd_ok h n hb hf
    · exact h
  · exact h

/-! ### Every row keeps them sound -/

theorem setPort_ok {d : Device} (h : Ok d) (n : Fin 32) (rate : PortRate) (term : Option Byte) (gap : Nat) (on : Bool) :
    Ok (d.updPort n fun p => { p with bitRate := rate, terminator := term, idleGap := gap, enable := on }.follow
      (on && d.lanes[laneOf n].state == LaneState.opened)) := by
  have hbufs : BufsOk { d.ports[n] with bitRate := rate, terminator := term, idleGap := gap, enable := on } := (h.ports n).2
  obtain ⟨hs, hok⟩ := hbufs.follow (on && d.lanes[laneOf n].state == LaneState.opened)
  refine h.updPort n ⟨?_, hok⟩ fun b => ?_
  · rw [hs, follow_enable, Bool.and_eq_true, beq_iff_eq]
  · rw [follow_buf]
    cases b <;> rfl

theorem blank_ok (cause : ResetCause) (i : Inputs) : Ok (Device.blank cause i) := by
  refine ⟨fun n => ?_, fun n b q => ?_⟩
  · have hn : (Device.blank cause i).ports[n] = resetPort := by simp [Device.blank]
    rw [hn]
    refine ⟨by simp [resetPort], ?_, fun b => ?_⟩
    · simp [resetPort, Port.buf, BufferId.other, freeBuffer]
    · cases b <;> rfl
  · have hn : ((Device.blank cause i).ports[n].buf b).state = .free := by
      cases b <;> simp [Device.blank, resetPort, Port.buf, freeBuffer]
    rw [hn]
    simp [entriesOn, Device.blank, resetPool, emptyPendLane]

theorem startUp_ok (cause : ResetCause) (i : Inputs) : Ok (startUp cause i) := by
  have hstart : Ok ((Device.blank cause i).offer deviceQueue { kind := .deviceStarted, detail1 := byteOf cause.code }) := by
    have ht := tell_touches (Device.blank cause i) deviceQueue { kind := .deviceStarted, detail1 := byteOf cause.code }
      (by rfl)
    exact (blank_ok cause i).congr (ht .states (by decide)) (ht .ports (by decide)) (ht .entries (by decide))
  unfold startUp
  dsimp only
  split
  · exact hstart
  · have ht := supplyFaultTaken_touches ((Device.blank cause i).offer deviceQueue
      { kind := .deviceStarted, detail1 := byteOf cause.code })
    exact hstart.congr (ht .states (by decide)) (ht .ports (by decide)) (ht .entries (by decide))

theorem duePoint_ok {d : Device} (h : Ok d) (l : Fin 16) : Ok (duePoint l d) := by
  have hscan (f : LaneScan → LaneScan) : Ok (d.updScan l f) := ⟨h.ports, h.held⟩
  unfold duePoint
  dsimp only
  split
  · exact h
  · split
    · split
      · exact hscan _
      · exact depart_ok (hscan _) l (by decide) _
    · exact hscan _

theorem act_ok {c : Instr} {d e : Device} (ha : Act c d e) (h : Ok d) : Ok e := by
  by_cases hq : Block.ports ∈ footprint c ∨ Block.states ∈ footprint c ∨ Block.entries ∈ footprint c
  · cases ha with
    | nothing => exact h
    | openLane l => exact openLane_ok h l
    | suspendLane l => exact suspendLane_ok h l
    | resumeLane l => exact resumeLane_ok h l
    | closeLane l => exact depart_ok h l (by decide) _
    | closeFaulted l _ hs => exact closeFaulted_ok h hs
    | resetLane l => exact resetLane_ok h l
    | duePoint l => exact duePoint_ok h l
    | setPort n rate term gap on => exact setPort_ok h n rate term gap on
    | readPort n => exact h.updPort_core n rfl
    | startBit n => exact h.updPort_core n rfl
    | readPool =>
      refine ⟨h.ports, h.held.congr (fun m b q => ?_) fun _ _ => Iff.rfl⟩
      simp [Pool.cleared, entriesOn]
    | scannerCharacter n c good => exact scannerCharacter_ok h c good n
    | idleExpiry n => exact idleExpiry_ok h n
    | admission => exact admission_ok h
    | limitExpiry q => exact limitExpiry_ok h q
    | frameEnd => exact ⟨h.ports, h.held⟩
    | trunkReset | powerOn | resetPinRise => exact startUp_ok _ _
    | powerOnHeld i | resetPinLow i => exact ⟨(blank_ok .pin i).ports, (blank_ok .pin i).held⟩
    | setDrawer row | setSupply row | setSupplyFault row => simp [footprint_setDrawerRow row] at hq
    | _ => simp [footprint] at hq
  · obtain ⟨hp, hs, hq⟩ := not_or.mp hq |>.imp_right not_or.mp
    exact h.congr (ha.touches _ hs) (ha.touches _ hp) (ha.touches _ hq)

theorem ms_ok {d : Device} (h : Ok d) : Ok d.ms := by
  have hn (n : Fin 32) : d.ms.ports[n] = d.ports[n].ms := mapTab_getElem d.ports Port.ms n
  have hl (l : Fin 16) : d.ms.lanes[l].state = d.lanes[l].state :=
    (congrArg LaneRec.state (mapTab_getElem d.lanes LaneRec.ms l) :)
  have hq (q : Fin 17) : d.ms.pool.lanes[q] = d.pool.lanes[q].ms := mapTab_getElem d.pool.lanes PendLane.ms q
  refine ⟨fun n => ?_, h.held.congr (fun n b q => ?_) fun n b => ?_⟩
  · rw [hn, hl]
    exact (h.ports n).of_core rfl
  · rw [hq]
    rfl
  · rw [hn]
    cases b <;> rfl

theorem tick_ok {d : Device} (h : Ok d) : Ok d.tick := by
  unfold Device.tick
  dsimp only
  split
  · exact ⟨h.ports, h.held⟩
  · have hus : Ok { d with scanner := d.scanner.us
                           tlu := { d.tlu with generators := mapTab d.tlu.generators Generator.us } } :=
      ⟨h.ports, h.held⟩
    exact ⟨(ms_ok hus).ports, (ms_ok hus).held⟩

/-- Settles O57: a buffer and the entry that refers to it come and go together. -/
theorem stepKeepsBuffers : Obligations.StepKeepsBuffers := by
  intro s t hp hh h
  exact (ok_iff _).mpr (step_keeps (P := Ok) (fun _ _ hp => ⟨hp.ports, hp.held⟩) act_ok (fun _ => tick_ok) h
    ((ok_iff _).mp ⟨hp, hh⟩))

end Sys2Proof.BuffersKept

/-! ## Settings stay in their ranges, and keymaps with their lanes (R20, R21, R49, R55, R56) -/

namespace Sys2Proof.AssignmentsKept

open Sys2Proof.Machine Sys2Proof.Safety

/-! ### Settings -/

/-- What `SettingsInRange` asks of one lane. -/
def InRange (r : LaneRec) : Prop := r.active.clamped = r.active ∧ ∀ g, r.pendingSet = some g → g.clamped = g

theorem clampTo_clampTo {lo hi : Nat} (h : lo ≤ hi) (v : Nat) : clampTo lo hi (clampTo lo hi v) = clampTo lo hi v := by
  simp only [clampTo]
  omega

theorem clamped_clamped (g : Settings) : g.clamped.clamped = g.clamped := by
  simp [Settings.clamped, clampTo_clampTo]

/-- Range depends on the two setting sets alone. -/
theorem InRange.of_eq {r r' : LaneRec} (h : InRange r) (ha : r'.active = r.active) (hp : r'.pendingSet = r.pendingSet) :
    InRange r' := by
  unfold InRange
  rw [ha, hp]
  exact h

theorem InRange.adopted {r : LaneRec} (h : InRange r) : InRange r.adopted := by
  unfold LaneRec.adopted
  split
  · exact h
  · next g hg =>
    have hkeep := LaneRec.adoptWake_keeps { r with active := g, pendingSet := none }
    exact InRange.of_eq (r := { r with active := g, pendingSet := none }) ⟨h.2 g hg, by simp⟩ hkeep.2.1 hkeep.2.2

theorem InRange.enterClosedWake {r : LaneRec} (h : InRange r) : InRange r.enterClosedWake :=
  h.of_eq (LaneRec.enterClosedWake_keeps r).2.1 (LaneRec.enterClosedWake_keeps r).2.2

theorem InRange.departed {r : LaneRec} (h : InRange r) (dest : LaneState) : InRange (LaneRec.departed dest r) := by
  have hadopted := InRange.adopted (r := { { r with state := dest }.closeWindow with watchTimer := some 8 }) h
  unfold LaneRec.departed
  dsimp only
  split
  · exact hadopted.enterClosedWake
  · exact hadopted

theorem InRange.wiped {r : LaneRec} (h : InRange r) : InRange r.wiped :=
  (InRange.adopted (r := { r.laneReset with state := .closed }) h).enterClosedWake

/-- Every lane's settings in their ranges. -/
def AllInRange (v : Table LaneRec 16) : Prop := ∀ l : Fin 16, InRange v[l]

theorem AllInRange.upd {v : Table LaneRec 16} (h : AllInRange v) (l : Fin 16) {f : LaneRec → LaneRec}
    (hf : ∀ r, InRange r → InRange (f r)) : AllInRange (upd v l f) := by
  intro m
  rw [upd_getElem]
  split
  · exact hf _ (h m)
  · exact h m

theorem AllInRange.same {d e : Device} (h : AllInRange d.lanes) (hs : Same d e .settings) : AllInRange e.lanes :=
  fun l => (h l).of_eq (hs l).1 (hs l).2

theorem blank_inRange (cause : ResetCause) (i : Inputs) : AllInRange (Device.blank cause i).lanes := by
  intro l
  have hl : (Device.blank cause i).lanes[l] = resetLaneRec := by simp [Device.blank]
  rw [hl]
  exact ⟨by decide, by simp [resetLaneRec]⟩

theorem startUp_touches (cause : ResetCause) (i : Inputs) :
    Touches [.queues, .drawers, .kicks] (Device.blank cause i) (startUp cause i) := by
  have hstart := tell_touches (Device.blank cause i) deviceQueue
    { kind := .deviceStarted, detail1 := byteOf cause.code } (by rfl)
  unfold startUp
  dsimp only
  split
  · exact hstart.mono (by decide)
  · exact (hstart.seq (supplyFaultTaken_touches _)).mono (by decide)

theorem duePoint_inRange {d : Device} (h : AllInRange d.lanes) (l : Fin 16) : AllInRange (duePoint l d).lanes := by
  unfold duePoint
  dsimp only
  split
  · exact h
  · split
    · split
      · exact h
      · rw [depart_lanes]
        exact AllInRange.upd h l fun r hr => hr.departed _
    · exact h

theorem act_inRange {c : Instr} {d e : Device} (ha : Act c d e) (h : AllInRange d.lanes) : AllInRange e.lanes := by
  by_cases hq : Block.settings ∈ footprint c
  · cases ha with
    | nothing => exact h
    | closeLane l => exact depart_lanes d l _ _ ▸ h.upd l fun r hr => hr.departed _
    | closeFaulted l => exact closeFaulted_lanes d l ▸ h.upd l fun r hr => InRange.enterClosedWake hr
    | duePoint l => exact duePoint_inRange h l
    | resetLane l => exact resetLane_lanes d l ▸ h.upd l fun r hr => hr.wiped
    | setPending l g => exact h.upd l fun r hr => ⟨hr.1, by rintro _ ⟨⟩; exact clamped_clamped g⟩
    | setAtOnce l g =>
      have hset : AllInRange (d.updLane l fun r => { r with pendingSet := some g.clamped }).lanes :=
        h.upd l fun r hr => ⟨hr.1, by rintro _ ⟨⟩; exact clamped_clamped g⟩
      exact adopt_lanes _ l ▸ hset.upd l fun r hr => hr.adopted
    | passStart =>
      unfold Machine.passStart
      split
      · exact startPass_lanes d _ ▸ h.upd _ fun r hr => hr.adopted
      · exact h
    | frameEnd => exact h
    | trunkReset | powerOn | resetPinRise => exact (blank_inRange _ _).same (startUp_touches _ _ .settings (by decide))
    | powerOnHeld i | resetPinLow i => exact blank_inRange .pin i
    | setDrawer row | setSupply row | setSupplyFault row => simp [footprint_setDrawerRow row] at hq
    | _ => simp [footprint] at hq
  · exact h.same (ha.touches _ hq)

theorem ms_inRange {d : Device} (h : AllInRange d.lanes) : AllInRange d.ms.lanes := by
  intro l
  have hl : d.ms.lanes[l] = d.lanes[l].ms := mapTab_getElem d.lanes LaneRec.ms l
  rw [hl]
  exact (h l).of_eq rfl rfl

theorem tick_inRange {d : Device} (h : AllInRange d.lanes) : AllInRange d.tick.lanes := by
  unfold Device.tick
  dsimp only
  split
  · exact h
  · exact ms_inRange (d := { d with scanner := d.scanner.us, tlu := _ }) h

/-! ### Keymaps -/

/-- What `KeymapsSound` asks of one lane: which images are READY, the lane's assignment, and whether it scans. -/
def MapOk (ready : Fin 8 → Prop) (m : LaneMap) (scanning : Prop) : Prop :=
  (∀ i, m.active = some i ∨ m.pendingImg = some i → ready i) ∧
  (scanning → m.active.isSome) ∧
  (m.pendingImg.isSome ↔ m.switchTimer.isSome) ∧
  (m.pendingImg.isSome → scanning ∧ m.pendingImg ≠ m.active)

/-- Every lane's assignment, held against the images and the lane states. -/
def MapsOk (k : KeymapStore) (v : Table LaneRec 16) : Prop :=
  ∀ l : Fin 16, MapOk (fun i => k.images[i].state = .ready) k.lanes[l] (v[l].state.scanning = true)

theorem MapOk.mono {ready ready' : Fin 8 → Prop} {m : LaneMap} {scanning : Prop} (h : MapOk ready m scanning)
    (hr : ∀ i, m.active = some i ∨ m.pendingImg = some i → ready i → ready' i) : MapOk ready' m scanning :=
  ⟨fun i hi => hr i hi (h.1 i hi), h.2.1, h.2.2.1, h.2.2.2⟩

theorem MapsOk.states {k : KeymapStore} {v w : Table LaneRec 16} (h : MapsOk k v)
    (hs : ∀ l : Fin 16, w[l].state = v[l].state) : MapsOk k w := by
  intro l
  rw [hs]
  exact h l

/-- A switch makes one READY image active and none pending. -/
theorem MapOk.switch {ready : Fin 8 → Prop} {i : Fin 8} (hi : ready i) (scanning : Prop) :
    MapOk ready { active := some i, pendingImg := none, switchTimer := none } scanning := by
  refine ⟨?_, fun _ => rfl, by simp, by simp⟩
  rintro j (hj | hj)
  · cases hj
    exact hi
  · cases hj

/-- One lane changed, in its state or its assignment. -/
theorem MapsOk.change {k : KeymapStore} {v w : Table LaneRec 16} (h : MapsOk k v) (l : Fin 16) {m : LaneMap}
    (hl : MapOk (fun i => k.images[i].state = .ready) m (w[l].state.scanning = true))
    (ho : ∀ l' : Fin 16, l' ≠ l → w[l'].state = v[l'].state) :
    MapsOk { k with lanes := upd k.lanes l fun _ => m } w := by
  intro l'
  dsimp only
  rcases eq_or_ne l' l with rfl | hne
  · rw [upd_getElem_self]
    exact hl
  · rw [upd_getElem_ne _ _ hne, ho l' hne]
    exact h l'

/-- A lane changed in its state alone. -/
theorem MapsOk.move {k : KeymapStore} {v : Table LaneRec 16} (h : MapsOk k v) (l : Fin 16) {f : LaneRec → LaneRec}
    (hl : MapOk (fun i => k.images[i].state = .ready) k.lanes[l] ((f v[l]).state.scanning = true)) :
    MapsOk k (upd v l f) := by
  intro l'
  rcases eq_or_ne l' l with rfl | hne
  · rw [upd_getElem_self]
    exact hl
  · rw [upd_getElem_ne _ _ hne]
    exact h l'

/-- An assignment that is sound for a lane that does not scan needs no active image. -/
theorem MapOk.still {ready : Fin 8 → Prop} {m : LaneMap} {scanning scanning' : Prop} (h : MapOk ready m scanning)
    (hp : m.pendingImg = none) (hs : scanning' → m.active.isSome) : MapOk ready m scanning' :=
  ⟨h.1, hs, h.2.2.1, by simp [hp]⟩

/-- The switch of a pending image, in a lane that stays as it is or leaves its scanning state. -/
theorem MapsOk.switched {d : Device} {w : Table LaneRec 16} (h : MapsOk d.keymaps d.lanes) (l : Fin 16)
    (hs : w[l].state.scanning = true → d.lanes[l].state.scanning = true)
    (ho : ∀ l' : Fin 16, l' ≠ l → w[l'].state = d.lanes[l'].state) : MapsOk (Claims.switched d l) w := by
  unfold Claims.switched
  split
  · next i hi => exact h.change l (MapOk.switch ((h l).1 i (.inr hi)) _) ho
  · next hi =>
    intro l'
    rcases eq_or_ne l' l with rfl | hne
    · exact (h l').still hi fun hw => (h l').2.1 (hs hw)
    · rw [ho l' hne]
      exact h l'

theorem depart_maps {d : Device} (h : MapsOk d.keymaps d.lanes) (l : Fin 16) {dest : LaneState}
    (hd : dest.scanning = false) (c : LaneCause) : MapsOk (d.depart l dest c).keymaps (d.depart l dest c).lanes := by
  rw [depart_keymaps, depart_lanes]
  refine h.switched l (fun hs => ?_) fun l' hne => by rw [upd_getElem_ne _ _ hne]
  rw [upd_getElem_self, departed_state, hd] at hs
  cases hs

theorem resetLane_maps {d : Device} (h : MapsOk d.keymaps d.lanes) (l : Fin 16) :
    MapsOk (d.resetLane l).keymaps (d.resetLane l).lanes := by
  rw [resetLane_keymaps, resetLane_lanes]
  refine h.switched l (fun hs => ?_) fun l' hne => by rw [upd_getElem_ne _ _ hne]
  rw [upd_getElem_self, wiped_state] at hs
  cases hs

theorem duePoint_maps {d : Device} (h : MapsOk d.keymaps d.lanes) (l : Fin 16) :
    MapsOk (duePoint l d).keymaps (duePoint l d).lanes := by
  unfold duePoint
  dsimp only
  split
  · exact h
  · split
    · split
      · exact h
      · exact depart_maps (d := d.updScan l _) h l (by decide) _
    · exact h

/-- An image that no lane uses is written or erased. -/
theorem MapsOk.write {k : KeymapStore} {v : Table LaneRec 16} (h : MapsOk k v) {i : Fin 8} (hu : k.inUse i = false)
    (f : Image → Image) : MapsOk { k with images := upd k.images i f } v := by
  intro l
  refine (h l).mono fun j hj hr => ?_
  have hne : j ≠ i := by
    rintro rfl
    have hl : (k.lanes[l].active == some j || k.lanes[l].pendingImg == some j) = true := by simpa using hj
    rw [KeymapStore.inUse, List.any_eq_false] at hu
    exact hu l (List.mem_finRange l) hl
  dsimp only
  rw [upd_getElem_ne _ _ hne]
  exact hr

theorem verifyWalkEnd_maps {d : Device} (h : MapsOk d.keymaps d.lanes) :
    MapsOk (verifyWalkEnd d).keymaps (verifyWalkEnd d).lanes := by
  unfold verifyWalkEnd
  split
  · exact h
  · next w _ =>
    dsimp only
    split
    · intro l
      refine (h l).mono fun j _ hr => ?_
      rw [Device.reply_keymaps]
      change (upd d.keymaps.images w.image _)[j].state = .ready
      rw [upd_getElem]
      split
      · dsimp only
        rw [hr, ite_self]
      · exact hr
    · exact h

theorem assignKeymap_maps {d : Device} (h : MapsOk d.keymaps d.lanes) (l : Fin 16) {i : Fin 8}
    (hr : d.keymaps.images[i].state = .ready) : MapsOk (d.assignKeymap l i).keymaps (d.assignKeymap l i).lanes := by
  obtain ⟨hready, hactive, -, -⟩ := h l
  unfold Device.assignKeymap
  split
  · refine h.change l (m := { d.keymaps.lanes[l] with pendingImg := none, switchTimer := none }) ?_ fun _ _ => rfl
    exact ⟨fun j hj => hready j (.inl (hj.resolve_right (by simp))), hactive, by simp, by simp⟩
  · next hne =>
    split
    · rw [switchKeymap_keymaps, Device.switchKeymap_lanes]
      exact h.change l (MapOk.switch hr _) fun _ _ => rfl
    · next hscan =>
      obtain ⟨-, hs⟩ := not_or.mp hscan
      have hnew : MapOk (fun i => d.keymaps.images[i].state = .ready)
          { d.keymaps.lanes[l] with
            pendingImg := some i, switchTimer := some (d.lanes[l].active.switchTimeout * 1000) }
          (d.lanes[l].state.scanning = true) := by
        refine ⟨?_, hactive, by simp, fun _ => ⟨by simpa using hs, fun he => hne he.symm⟩⟩
        rintro j (hj | hj)
        · exact hready j (.inl hj)
        · cases hj
          exact hr
      exact h.change l hnew fun _ _ => rfl

theorem forcedSwitch_maps {d : Device} (h : MapsOk d.keymaps d.lanes) (l : Fin 16) :
    MapsOk (forcedSwitch l d).keymaps (forcedSwitch l d).lanes := by
  unfold forcedSwitch
  split
  · next i _ hi =>
    have hlatch := latchKeys_touches d l (d.scanner.lanes[l].positions .pressed)
    dsimp only
    rw [switchKeymap_keymaps, Device.switchKeymap_lanes, Device.updScan_lanes, Device.updScan_keymaps,
      hlatch .lanes (by decide), hlatch .keymaps (by decide)]
    exact h.change l (MapOk.switch ((h l).1 i (.inr hi)) _) fun _ _ => rfl
  · exact h

/-- What a pass end does before the keymap store's notice leaves the keymaps and the lane states alone. -/
theorem passEnd_maps {d : Device} (h : MapsOk d.keymaps d.lanes) (raw : BitVec 128) (lock : KeyLock) (wake : BitVec 128) :
    MapsOk (passEnd raw lock wake d).keymaps (passEnd raw lock wake d).lanes := by
  have hstates := passEnd_touches raw lock wake d .states (by decide)
  refine MapsOk.states ?_ hstates
  unfold passEnd
  split
  · exact h
  · next l _ =>
    dsimp only
    rw [takeDueReadings_touches _ wake .keymaps (by decide), Device.updScanner_keymaps]
    split
    · exact h
    · unfold Device.completePass
      dsimp only
      rw [quietSwitch_keymaps]
      have hsame (x : Device) (hx : x.keymaps = d.keymaps) : MapsOk (Claims.switched x l) d.lanes := by
        rw [switched_congr hx]
        exact h.switched l id fun _ _ => rfl
      have hnotice (x : Device) (rs : List (Fin 128)) (ps : List (Fin 128 × Bool)) :
          (x.passNotice l rs ps).keymaps = x.keymaps := passNotice_touches x l rs ps .keymaps (by decide)
      split
      · exact hsame _ (by rw [hnotice, Device.sampleLock_keymaps]; rfl)
      · rw [hnotice, Device.sampleLock_keymaps]
        exact h

theorem blank_maps (cause : ResetCause) (i : Inputs) :
    MapsOk (Device.blank cause i).keymaps (Device.blank cause i).lanes := by
  intro l
  have hl : (Device.blank cause i).keymaps.lanes[l] = { active := none, pendingImg := none, switchTimer := none } := by
    simp [Device.blank, resetKeymaps]
  have hs : (Device.blank cause i).lanes[l] = resetLaneRec := by simp [Device.blank]
  rw [hl, hs]
  exact ⟨by simp, by simp [resetLaneRec, LaneState.scanning], by simp, by simp⟩

theorem startUp_maps (cause : ResetCause) (i : Inputs) : MapsOk (startUp cause i).keymaps (startUp cause i).lanes := by
  rw [startUp_touches cause i .keymaps (by decide), startUp_touches cause i .lanes (by decide)]
  exact blank_maps cause i

theorem act_maps {c : Instr} {d e : Device} (ha : Act c d e) (h : MapsOk d.keymaps d.lanes) :
    MapsOk e.keymaps e.lanes := by
  by_cases hq : Block.keymaps ∈ footprint c ∨ Block.states ∈ footprint c
  · cases ha with
    | nothing => exact h
    | openLane l _ hs hk =>
      have hnone : d.keymaps.lanes[l].pendingImg = none := by
        by_contra hp
        have := ((h l).2.2.2 (Option.isSome_iff_ne_none.mpr hp)).1
        rw [hs] at this
        cases this
      rw [openLane_touches d l .keymaps (by decide), openLane_lanes]
      exact h.move l ((h l).still hnone fun _ => hk)
    | suspendLane l _ hs =>
      rw [suspendLane_touches d l .keymaps (by decide), suspendLane_lanes]
      refine h.move l ?_
      have hl := h l
      rwa [hs] at hl
    | resumeLane l _ hs =>
      rw [resumeLane_touches d l .keymaps (by decide), resumeLane_lanes]
      refine h.move l ?_
      have hl := h l
      rwa [hs] at hl
    | closeLane l => exact depart_maps h l rfl _
    | closeFaulted l _ hs =>
      rw [closeFaulted_touches d l .keymaps (by decide), closeFaulted_lanes]
      refine h.move l ?_
      have hl := h l
      rw [hs] at hl
      rwa [(LaneRec.enterClosedWake_keeps _).1]
    | resetLane l => exact resetLane_maps h l
    | duePoint l => exact duePoint_maps h l
    | writeKeymap i t _ hu => exact h.write hu _
    | verifyKeymap w => exact h
    | verifyWalkEnd => exact verifyWalkEnd_maps h
    | eraseKeymap i _ hu => exact h.write hu _
    | assignKeymap l i _ hr => exact assignKeymap_maps h l hr
    | passEnd raw a b wake => exact passEnd_maps h raw _ wake
    | forcedSwitch l => exact forcedSwitch_maps h l
    | frameEnd => exact h
    | trunkReset | powerOn | resetPinRise => exact startUp_maps _ _
    | powerOnHeld i | resetPinLow i => exact blank_maps .pin i
    | setDrawer row | setSupply row | setSupplyFault row => simp [footprint_setDrawerRow row] at hq
    | _ => simp [footprint] at hq
  · obtain ⟨hk, hs⟩ := not_or.mp hq
    rw [ha.touches _ hk]
    exact h.states (ha.touches _ hs)

theorem ms_maps {d : Device} (h : MapsOk d.keymaps d.lanes) : MapsOk d.ms.keymaps d.ms.lanes := by
  intro l
  have hl : d.ms.lanes[l].state = d.lanes[l].state :=
    (congrArg LaneRec.state (mapTab_getElem d.lanes LaneRec.ms l) :)
  have hm : d.ms.keymaps.lanes[l] = d.keymaps.lanes[l].ms := mapTab_getElem d.keymaps.lanes LaneMap.ms l
  obtain ⟨hready, hactive, htimer, hpending⟩ := h l
  rw [hl, hm]
  refine ⟨hready, hactive, ?_, hpending⟩
  rw [LaneMap.ms, countDown, Option.isSome_map]
  exact htimer

theorem tick_maps {d : Device} (h : MapsOk d.keymaps d.lanes) : MapsOk d.tick.keymaps d.tick.lanes := by
  unfold Device.tick
  dsimp only
  split
  · exact h
  · exact ms_maps (d := { d with scanner := d.scanner.us, tlu := _ }) h

/-- Settles O58: setting sets are stored clamped; images are assigned READY, and switched where their lane leaves. -/
theorem stepKeepsAssignments : Obligations.StepKeepsAssignments := by
  intro s t h
  exact ⟨fun hs => step_keeps (P := fun d => AllInRange d.lanes) (fun _ _ hp => hp) act_inRange
      (fun _ => tick_inRange) h hs,
    fun hs => step_keeps (P := fun d => MapsOk d.keymaps d.lanes) (fun _ _ hp => hp) act_maps (fun _ => tick_maps) h hs⟩

end Sys2Proof.AssignmentsKept

/-! ## The receiver, tones and lamps, and the counters stay in their ranges (R171, R180, R182, R184) -/

namespace Sys2Proof.CountsKept

open Sys2Proof.Machine Sys2Proof.Safety Sys2Proof.QueueBounds

/-! ### The receiver -/

/-- A frame stored so far is short of 5 bytes and its payload, whose length is at most 64. -/
def FrameShort (f : List Byte) : Prop := ∀ n, frameLength f = some n → n ≤ 64 ∧ f.length < n + 5

/-- What `ReceiverSound` asks of the trunk port. -/
def Receives (k : Trunk) : Prop := (k.receiver ≠ .receiving → k.frame = []) ∧ FrameShort k.frame

theorem frameShort_nil : FrameShort [] := by
  intro n hn
  cases hn

theorem Receives.waiting {k : Trunk} (hf : k.frame = []) : Receives k :=
  ⟨fun _ => hf, hf ▸ frameShort_nil⟩

/-- The length byte is the third, so a fourth byte and those after it leave it as it is. -/
theorem frameLength_append {f : List Byte} (h : 3 ≤ f.length) (c : Byte) : frameLength (f ++ [c]) = frameLength f := by
  unfold frameLength
  rw [List.getElem?_append_left (by omega)]

theorem FrameShort.append {f : List Byte} (h : FrameShort f) {c : Byte} (hc : frameComplete (f ++ [c]) = false)
    (hl : lengthTooLong (f ++ [c]) = false) : FrameShort (f ++ [c]) := by
  intro n hn
  by_cases hlen : 3 ≤ f.length
  · rw [frameLength_append hlen] at hn
    obtain ⟨hle, hlt⟩ := h n hn
    refine ⟨hle, ?_⟩
    simp only [frameComplete, frameLength_append hlen, hn, List.length_append, List.length_cons, List.length_nil,
      Bool.and_eq_false_iff, beq_eq_false_iff_ne, ne_eq, Option.some.injEq, decide_eq_false_iff_not] at hc ⊢
    omega
  · have hthree : (f ++ [c]).length = 3 := by
      have := (List.getElem?_eq_some_iff.mp (Option.map_eq_some_iff.mp hn).choose_spec.1).1
      simp only [List.length_append, List.length_cons, List.length_nil] at this ⊢
      omega
    simp only [lengthTooLong, hthree, hn, beq_self_eq_true, Bool.true_and, decide_eq_false_iff_not] at hl
    rw [hthree]
    omega

theorem storeCharacter_receives {k : Trunk} (h : Receives k) (c : Byte) : Receives (k.storeCharacter c) := by
  unfold Trunk.storeCharacter
  split
  · next hm =>
    refine ⟨fun hr => absurd rfl hr, ?_⟩
    unfold Trunk.mayStore at hm
    split at hm
    · cases hm
    · next hr =>
      have hf : k.frame = [] := h.1 (by rw [hr]; decide)
      rw [Trunk.store, hf]
      exact fun n hn => by cases hn
    · rw [Bool.and_eq_true, Bool.not_eq_true', Bool.not_eq_true'] at hm
      exact h.2.append hm.1 hm.2
  · exact h

theorem move_receives {k k' : Trunk} (hm : TrunkMove k k') (h : Receives k) : Receives k' := by
  cases hm with
  | replied a =>
    unfold Trunk.reply
    split <;> exact h
  | arrived r =>
    unfold Trunk.arrive
    split
    · exact .waiting rfl
    · split <;> exact .waiting rfl
  | credited | ignored | abandoned | reset => exact .waiting rfl
  | discarded why => cases why <;> exact .waiting rfl
  | waited =>
    unfold Trunk.waitCharacter
    split <;> exact h
  | idled =>
    unfold Trunk.idleSeen
    split
    · next hr => exact .waiting (h.1 (by rw [hr]; decide))
    · exact h
  | stored c => exact storeCharacter_receives h c
  | gapEnded =>
    unfold Trunk.gapEnd
    split <;> exact h
  | _ => exact h

/-! ### The trunk port's counters -/

/-- What `CountersBounded` asks of the trunk port. -/
def TrunkCounts (k : Trunk) : Prop :=
  k.checkErrors ≤ 65535 ∧ k.malformed ≤ 65535 ∧ k.wrongDirection ≤ 65535 ∧ k.busyRefusals ≤ 65535 ∧
    k.dropped ≤ 65535 ∧ k.ignoredCredits ≤ 65535

theorem move_counts {k k' : Trunk} (hm : TrunkMove k k') (h : TrunkCounts k) : TrunkCounts k' := by
  obtain ⟨hcheck, hmal, hdir, hbusy, hdrop, hign⟩ := h
  cases hm with
  | replied a =>
    unfold Trunk.reply
    split <;> exact ⟨hcheck, hmal, hdir, hbusy, hdrop, hign⟩
  | zeroed | reset => exact ⟨Nat.zero_le _, Nat.zero_le _, Nat.zero_le _, Nat.zero_le _, Nat.zero_le _, Nat.zero_le _⟩
  | arrived r =>
    unfold Trunk.arrive
    split
    · exact ⟨hcheck, hmal, hdir, hbusy, hdrop, hign⟩
    · split
      · exact ⟨hcheck, hmal, hdir, sat16_le _ _, hdrop, hign⟩
      · exact ⟨hcheck, hmal, hdir, hbusy, sat16_le _ _, hign⟩
  | ignored => exact ⟨hcheck, hmal, hdir, hbusy, hdrop, sat16_le _ _⟩
  | discarded why =>
    cases why with
    | checkError => exact ⟨sat16_le _ _, hmal, hdir, hbusy, hdrop, hign⟩
    | unknownKind | creditLength => exact ⟨hcheck, sat16_le _ _, hdir, hbusy, hdrop, hign⟩
    | wrongDirection => exact ⟨hcheck, hmal, sat16_le _ _, hbusy, hdrop, hign⟩
  | abandoned => exact ⟨hcheck, sat16_le _ _, hdir, hbusy, hdrop, hign⟩
  | waited =>
    unfold Trunk.waitCharacter
    split
    · exact ⟨hcheck, sat16_le _ _, hdir, hbusy, hdrop, hign⟩
    · exact ⟨hcheck, hmal, hdir, hbusy, hdrop, hign⟩
  | idled =>
    unfold Trunk.idleSeen
    split <;> exact ⟨hcheck, hmal, hdir, hbusy, hdrop, hign⟩
  | stored c =>
    unfold Trunk.storeCharacter
    split <;> exact ⟨hcheck, hmal, hdir, hbusy, hdrop, hign⟩
  | gapEnded =>
    unfold Trunk.gapEnd
    split <;> exact ⟨hcheck, hmal, hdir, hbusy, hdrop, hign⟩
  | _ => exact ⟨hcheck, hmal, hdir, hbusy, hdrop, hign⟩

/-! ### Tones and lamps -/

/-- What `TonesSound` asks of a generator. -/
def GenOk (g : Generator) : Prop := (g.playing.isSome ↔ g.phaseTimer.isSome) ∧ g.cycles ≤ 15

theorem GenOk.stop {g : Generator} (h : GenOk g) : GenOk g.stop := ⟨by simp [Generator.stop], h.2⟩

theorem startTone_ok (e : Fin 8) (t : Tone) : GenOk (startTone e t) := ⟨by simp [startTone], Nat.zero_le _⟩

theorem phaseEnd_ok {g : Generator} (h : GenOk g) : GenOk g.phaseEnd := by
  have hcycles : min 15 (g.cycles + 1) ≤ 15 := Nat.min_le_left _ _
  unfold Generator.phaseEnd
  split
  · exact h
  · next c hc =>
    have hbegin (x : Generator) (hx : x.playing = some c) (hle : x.cycles ≤ 15) (p : TonePhase) (ms : Nat) :
        GenOk (x.begin p ms) := ⟨by simp [Generator.begin, hx], hle⟩
    split
    · exact hbegin g hc h.2 _ _
    · dsimp only
      split
      · exact GenOk.stop (g := { g with cycles := min 15 (g.cycles + 1) }) ⟨h.1, hcycles⟩
      · split
        · exact hbegin { g with cycles := min 15 (g.cycles + 1) } hc hcycles _ _
        · exact hbegin { g with cycles := min 15 (g.cycles + 1) } hc hcycles _ _

/-- What `TonesSound` asks of a lane's lamp, in a lane of this state. -/
def LampOk (s : LaneState) (p : Lamp) : Prop := p.staged.isSome → Claims.flashes (Claims.modeIn p s)

theorem lampOk_unstaged {s : LaneState} {p : Lamp} (h : p.staged = none) : LampOk s p := by
  intro hs
  rw [h] at hs
  cases hs

/-- What `TonesSound` asks, with the lamps' modes spelled out. -/
structure TluOk (state : Fin 16 → LaneState) (u : ToneUnit) : Prop where
  flash : u.flash < 1000
  gens : Fit GenOk u.generators
  lamps : ∀ l : Fin 16, LampOk (state l) u.lamps[l]

/-- The lane's state as the lamps see it. -/
def stateOf (d : Device) (l : Fin 16) : LaneState := d.lanes[l].state

theorem tonesSound_iff (d : Device) : TonesSound d ↔ TluOk (stateOf d) d.tlu := by
  have hlamp (l : Fin 16) : (d.tlu.lamps[l].staged.isSome → (d.lampMode l).flashing = true) ↔
      LampOk (stateOf d l) d.tlu.lamps[l] := by
    rw [lampMode_eq, flashing_iff]
    rfl
  constructor
  · rintro ⟨hflash, hl⟩
    exact ⟨hflash, fun l => ⟨(hl l).1, (hl l).2.1⟩, fun l => (hlamp l).mp (hl l).2.2⟩
  · rintro ⟨hflash, hg, hl⟩
    exact ⟨hflash, fun l => ⟨(hg l).1, (hg l).2, (hlamp l).mpr (hl l)⟩⟩

theorem TluOk.same {state state' : Fin 16 → LaneState} {u : ToneUnit} (h : TluOk state u) (hs : ∀ l, state' l = state l) :
    TluOk state' u := funext hs ▸ h

theorem TluOk.updGen {state : Fin 16 → LaneState} {u : ToneUnit} (h : TluOk state u) (l : Fin 16)
    {f : Generator → Generator} (hf : GenOk (f u.generators[l])) :
    TluOk state { u with generators := upd u.generators l f } := ⟨h.flash, h.gens.upd l hf, h.lamps⟩

theorem TluOk.request {state : Fin 16 → LaneState} {u : ToneUnit} (h : TluOk state u) (l : Fin 16) (e : Fin 8) :
    TluOk state (u.request l e) := by
  unfold ToneUnit.request
  split
  · exact h.updGen l (startTone_ok e _)
  · exact h

theorem TluOk.requestAny {state : Fin 16 → LaneState} {u u' : ToneUnit} (h : TluOk state u) {l : Fin 16}
    (hu : u' = u ∨ ∃ e, u' = u.request l e) : TluOk state u' := by
  rcases hu with rfl | ⟨e, rfl⟩
  · exact h
  · exact h.request l e

/-- One lane changes its state, and its lamp is then as that state asks. -/
theorem TluOk.relamp {state state' : Fin 16 → LaneState} {u : ToneUnit} (h : TluOk state u) (l : Fin 16) {p : Lamp}
    (hstate : ∀ k, k ≠ l → state' k = state k) (hp : LampOk (state' l) p) :
    TluOk state' { u with lamps := upd u.lamps l fun _ => p } := by
  refine ⟨h.flash, h.gens, fun k => ?_⟩
  dsimp only
  rw [upd_getElem]
  split
  · next hk => exact hk ▸ hp
  · next hk => exact hstate k hk ▸ h.lamps k

theorem TluOk.lampIn {state state' : Fin 16 → LaneState} {u : ToneUnit} (h : TluOk state u) (l : Fin 16)
    (hstate : ∀ k, k ≠ l → state' k = state k) : TluOk state' (Claims.lampIn u l (state' l)) := by
  unfold Claims.lampIn
  dsimp only
  split
  · split
    · next hf =>
      rw [show u = { u with lamps := upd u.lamps l fun _ => u.lamps[l] } from
        congrArg (fun v => ({ u with lamps := v } : ToneUnit)) (upd_id u.lamps l (f := fun _ => u.lamps[l]) rfl).symm]
      exact h.relamp l hstate fun _ => hf
    · exact h.relamp l hstate (lampOk_unstaged rfl)
  · next hs =>
    rw [show u = { u with lamps := upd u.lamps l fun _ => u.lamps[l] } from
      congrArg (fun v => ({ u with lamps := v } : ToneUnit)) (upd_id u.lamps l (f := fun _ => u.lamps[l]) rfl).symm]
    exact h.relamp l hstate (lampOk_unstaged hs)

/-- What a command that takes lane `l` to state `s` makes of the lamps. -/
theorem TluOk.enter {d e : Device} (h : TluOk (stateOf d) d.tlu) {l : Fin 16} {s : LaneState} {f : LaneRec → LaneRec}
    (hlanes : e.lanes = upd d.lanes l f) (hf : ∀ r, (f r).state = s) (htlu : e.tlu = Claims.lampIn d.tlu l s) :
    TluOk (stateOf e) e.tlu := by
  have hl : stateOf e l = s := by rw [stateOf, hlanes, upd_getElem_self, hf]
  rw [htlu, ← hl]
  refine h.lampIn l fun k hk => ?_
  rw [stateOf, hlanes, upd_getElem_ne _ _ hk]
  rfl

theorem resetLane_tones {d : Device} (h : TluOk (stateOf d) d.tlu) (l : Fin 16) :
    TluOk (stateOf (d.resetLane l)) (d.resetLane l).tlu := by
  have hstate (k : Fin 16) (hk : k ≠ l) : stateOf (d.resetLane l) k = stateOf d k := by
    rw [stateOf, resetLane_lanes, upd_getElem_ne _ _ hk]
    rfl
  rw [resetLane_tlu]
  exact (h.updGen l (h.gens l).stop).relamp l hstate (lampOk_unstaged rfl)

theorem applyStaged_unstaged (p : Lamp) : p.applyStaged.staged = none := by
  unfold Lamp.applyStaged
  split
  · assumption
  · rfl

theorem TluOk.updLamp {state : Fin 16 → LaneState} {u : ToneUnit} (h : TluOk state u) (l : Fin 16) {f : Lamp → Lamp}
    (hf : LampOk (state l) (f u.lamps[l])) : TluOk state { u with lamps := upd u.lamps l f } :=
  upd_congr (v := u.lamps) (i := l) (f := fun _ => f u.lamps[l]) (g := f) rfl ▸ h.relamp l (fun _ _ => rfl) hf

theorem setLamp_tones {d : Device} (h : TluOk (stateOf d) d.tlu) (l : Fin 16) (m : Option LampMode) (isSync : Bool) :
    TluOk (stateOf (d.setLamp l m isSync)) (d.setLamp l m isSync).tlu := by
  unfold Device.setLamp
  split
  · next hf =>
    rw [Bool.and_eq_true] at hf
    exact h.updLamp l fun _ => (flashing_iff _).mp (lampMode_eq d l ▸ hf.2)
  · exact h.updLamp l (lampOk_unstaged rfl)

theorem lampBoundary_tones {d : Device} (h : TluOk (stateOf d) d.tlu) (l : Fin 16) :
    TluOk (stateOf (lampBoundary l d)) (lampBoundary l d).tlu := by
  unfold lampBoundary
  split
  · exact h.updLamp l (lampOk_unstaged (applyStaged_unstaged _))
  · exact h

theorem duePoint_tones {d : Device} (h : TluOk (stateOf d) d.tlu) (l : Fin 16) :
    TluOk (stateOf (duePoint l d)) (duePoint l d).tlu := by
  have hscan (f : LaneScan → LaneScan) : TluOk (stateOf (d.updScan l f)) (d.updScan l f).tlu := h
  unfold duePoint
  dsimp only
  split
  · exact h
  · split
    · split
      · exact hscan _
      · exact (hscan _).enter (depart_lanes _ l _ _) (departed_state _) (depart_tlu _ l _ _)
    · exact hscan _

theorem openTooLong_tones {d : Device} (h : TluOk (stateOf d) d.tlu) (n : Fin 32) :
    TluOk (stateOf (openTooLong n d)) (openTooLong n d).tlu := by
  unfold openTooLong
  dsimp only
  split
  · exact h
  · rw [Device.updDrawer_tlu, requestTone_tlu, Device.offerDrawer_tlu, Device.updDrawer_tlu]
    refine (h.request (laneOf n) 7).same fun l => ?_
    simp [stateOf]

theorem recordChar_tlu (d : Device) (n : Fin 32) (b : BufferId) (c : Byte) (good : Bool) :
    (d.recordChar n b c good).tlu = d.tlu ∨ ∃ e, (d.recordChar n b c good).tlu = d.tlu.request (laneOf n) e := by
  unfold Device.recordChar
  dsimp only
  split
  · split
    · exact recordEnd_tlu d n b
    · exact .inl rfl
  · exact .inl rfl

theorem scannerCharacter_tlu (d : Device) (c : Byte) (good : Bool) (n : Fin 32) : (scannerCharacter c good n d).tlu = d.tlu ∨
    ∃ e, (scannerCharacter c good n d).tlu = d.tlu.request (laneOf n) e := by
  have hchar (b : BufferId) := recordChar_tlu (d.updPort n fun p => { p with charRate := none }) n b c good
  unfold scannerCharacter
  dsimp only
  split
  · exact hchar _
  · exact .inl rfl
  · split
    · exact hchar _
    · exact .inl rfl
  · exact .inl rfl
  · exact .inl rfl

theorem idleExpiry_tlu (d : Device) (n : Fin 32) : (idleExpiry n d).tlu = d.tlu ∨
    ∃ e, (idleExpiry n d).tlu = d.tlu.request (laneOf n) e := by
  unfold idleExpiry
  dsimp only
  split
  · split
    · exact recordEnd_tlu d n _
    · exact .inl rfl
  · exact .inl rfl

theorem blank_tones (cause : ResetCause) (i : Inputs) :
    TluOk (stateOf (Device.blank cause i)) (Device.blank cause i).tlu where
  flash := by simp [Device.blank, resetToneUnit]
  gens l := by simp [GenOk, Device.blank, resetToneUnit, idleGenerator]
  lamps l := lampOk_unstaged (by simp [Device.blank, resetToneUnit])

theorem startUp_tones (cause : ResetCause) (i : Inputs) : TluOk (stateOf (startUp cause i)) (startUp cause i).tlu := by
  have ht := AssignmentsKept.startUp_touches cause i
  have htlu : (startUp cause i).tlu = (Device.blank cause i).tlu := ht .tlu (by decide)
  rw [htlu]
  exact (blank_tones cause i).same (ht .states (by decide))

theorem act_tones {c : Instr} {d e : Device} (ha : Act c d e) (h : TluOk (stateOf d) d.tlu) : TluOk (stateOf e) e.tlu := by
  by_cases hq : Block.tlu ∈ footprint c ∨ Block.states ∈ footprint c
  · cases ha with
    | nothing => exact h
    | openLane l => exact h.enter (openLane_lanes d l) (fun _ => rfl) (openLane_tlu d l)
    | suspendLane l => exact h.enter (suspendLane_lanes d l) (fun _ => rfl) (suspendLane_tlu d l)
    | resumeLane l => exact h.enter (resumeLane_lanes d l) (fun _ => rfl) (resumeLane_tlu d l)
    | closeLane l => exact h.enter (depart_lanes d l _ _) (departed_state _) (depart_tlu d l _ _)
    | closeFaulted l =>
      exact h.enter (closeFaulted_lanes d l) (fun r => (LaneRec.enterClosedWake_keeps _).1) (closeFaulted_tlu d l)
    | resetLane l => exact resetLane_tones h l
    | duePoint l => exact duePoint_tones h l
    | openTooLong n => exact openTooLong_tones h n
    | writeTone e t => exact ⟨h.flash, h.gens, h.lamps⟩
    | playTone l e => exact requestTone_tlu d l e ▸ (h.request l e).same fun _ => by simp [stateOf]
    | stopTone l => exact h.updGen l (h.gens l).stop
    | phaseEnd l => exact h.updGen l (phaseEnd_ok (h.gens l))
    | setLamp l m s => exact setLamp_tones h l m s
    | lampBoundary l => exact lampBoundary_tones h l
    | scannerCharacter n c good =>
      exact (h.requestAny (scannerCharacter_tlu d c good n)).same
        ((Act.scannerCharacter n c good d).touches .states (by simp [footprint]))
    | idleExpiry n =>
      exact (h.requestAny (idleExpiry_tlu d n)).same ((Act.idleExpiry n d).touches .states (by simp [footprint]))
    | frameEnd => exact h
    | trunkReset | powerOn | resetPinRise => exact startUp_tones _ _
    | powerOnHeld i | resetPinLow i => exact blank_tones .pin i
    | setDrawer row | setSupply row | setSupplyFault row => simp [footprint_setDrawerRow row] at hq
    | _ => simp [footprint] at hq
  · obtain ⟨ht, hs⟩ := not_or.mp hq
    have htlu : e.tlu = d.tlu := ha.touches _ ht
    exact htlu ▸ h.same (ha.touches _ hs)

theorem GenOk.us {g : Generator} (h : GenOk g) : GenOk g.us := h

theorem GenOk.ms {g : Generator} (h : GenOk g) : GenOk g.ms := ⟨by simpa [Generator.ms, countDown] using h.1, h.2⟩

theorem tick_tones {d : Device} (h : TluOk (stateOf d) d.tlu) : TluOk (stateOf d.tick) d.tick.tlu := by
  have hus := h.gens.map fun _ => GenOk.us
  unfold Device.tick
  dsimp only
  split
  · exact ⟨h.flash, hus, h.lamps⟩
  · have hms : TluOk (stateOf d) { d.tlu with generators := mapTab d.tlu.generators Generator.us }.ms :=
      ⟨Nat.mod_lt _ (by decide), hus.map fun _ => GenOk.ms, h.lamps⟩
    exact hms.same fun l => (congrArg LaneRec.state (mapTab_getElem d.lanes LaneRec.ms l) :)

end Sys2Proof.CountsKept

/-! ### The other counters (00_scope, "Counters") -/

namespace Sys2Proof.CountsKept

open Sys2Proof.Machine Sys2Proof.Safety Sys2Proof.QueueBounds

/-! #### Drops -/

/-- A consumer's drop counter is in its range. -/
def DropsOk (k : Consumer) : Prop := k.drops ≤ 65535

theorem miss_drops (k : Consumer) (n : Nat) : DropsOk (k.miss n) := sat16_le _ _

theorem changeConsumer_drops {d : Device} (h : Fit DropsOk d.delivery.consumers) (c : Fin 8) {f : Consumer → Consumer}
    (hf : DropsOk (f d.delivery.consumers[c])) : Fit DropsOk (d.changeConsumer c f).delivery.consumers :=
  h.upd c (f := fun k => (f k).syncStall d.delivery.stallTime) hf

theorem giveUpAll_drops {d : Device} (h : Fit DropsOk d.delivery.consumers) (rs : List (Fin 512)) :
    Fit DropsOk (d.giveUpAll rs).delivery.consumers := h

theorem flush_drops {d : Device} (h : Fit DropsOk d.delivery.consumers) (c : Fin 8) :
    Fit DropsOk (d.flush c).delivery.consumers :=
  changeConsumer_drops (giveUpAll_drops h _) c (miss_drops _ _)

theorem setDepth_drops {d : Device} (h : Fit DropsOk d.delivery.consumers) (c : Fin 8) (depth : Nat) :
    Fit DropsOk (d.setDepth c depth).delivery.consumers :=
  changeConsumer_drops (giveUpAll_drops h _) c (sat16_le _ _)

theorem activate_drops {d : Device} (h : Fit DropsOk d.delivery.consumers) (c : Fin 8) :
    Fit DropsOk (d.activate c).delivery.consumers := by
  refine changeConsumer_drops h c ?_
  split
  · exact h c
  · exact h c

theorem stallExpiry_drops {d : Device} (h : Fit DropsOk d.delivery.consumers) (c : Fin 8) :
    Fit DropsOk (stallExpiry c d).delivery.consumers := by
  unfold stallExpiry
  split
  · exact h
  · dsimp only
    rw [Device.offer_delivery]
    exact changeConsumer_drops (giveUpAll_drops h _) c (sat16_le _ _)

theorem creditTo_drops {d : Device} (h : Fit DropsOk d.delivery.consumers) (c n : Nat) :
    Fit DropsOk (d.creditTo c n).delivery.consumers := by
  unfold Device.creditTo Device.credit
  split
  · next hc =>
    split
    · exact h
    · exact changeConsumer_drops h _ (h ⟨c, hc⟩)
    · rw [Device.offer_delivery]
      exact changeConsumer_drops h _ (h ⟨c, hc⟩)
  · exact h

theorem takeFrame_drops {d : Device} (h : Fit DropsOk d.delivery.consumers) (c : Fin 8) (r : Fin 512) (urgent : Bool) :
    Fit DropsOk (d.takeFrame c r urgent).delivery.consumers := by
  refine changeConsumer_drops (d := d.updDelivery fun u => { u with lastServed := c }) h c ?_
  unfold Consumer.takeHead
  split
  · exact h c
  · exact h c

theorem flagRefused_drops {d : Device} (h : Fit DropsOk d.delivery.consumers) (s : SortedSet) :
    Fit DropsOk (d.flagRefused s).delivery.consumers := by
  intro c
  unfold Device.flagRefused
  rw [Device.updDelivery_delivery, tab_getElem]
  split
  · exact miss_drops _ _
  · exact h c

theorem flagMembers_drops {d : Device} (h : Fit DropsOk d.delivery.consumers) (s : SortedSet) :
    Fit DropsOk (d.flagMembers s).delivery.consumers := by
  intro c
  unfold Device.flagMembers
  rw [Device.updDelivery_delivery, tab_getElem]
  split
  · exact miss_drops _ _
  · exact h c

theorem deliver_drops {u : Delivery} (h : Fit DropsOk u.consumers) (s : SortedSet) (r : Fin 512) :
    Fit DropsOk (u.deliver s r).consumers := by
  intro c
  unfold Delivery.deliver
  dsimp only
  rw [tab_getElem]
  split
  · next p _ =>
    have hc : u.consumers[c].drops ≤ 65535 := h c
    cases p
    · exact hc
    · exact hc
  · exact miss_drops _ _
  · exact h c

theorem attempt_drops {d : Device} (h : Fit DropsOk d.delivery.consumers) (q : Fin 17) :
    Fit DropsOk (d.attempt q).delivery.consumers := by
  have hdiscard (e : Entry) (s : SortedSet) (x : Device) (hx : x.delivery = d.delivery) :
      Fit DropsOk (x.discardHead q e s).delivery.consumers :=
    flagRefused_drops (by simpa [hx] using h) s
  have hadmit (e : Entry) (s : SortedSet) (k : Fin 512) (rest : List (Fin 512)) (x : Device)
      (hx : x.delivery = d.delivery) : Fit DropsOk (x.admitHead q e s k rest).delivery.consumers := by
    unfold Device.admitHead
    dsimp only
    rw [Device.updDelivery_delivery, Device.releaseBody_delivery, Device.updPool_delivery, hx]
    exact deliver_drops h s k
  unfold Device.attempt
  split
  · exact h
  · dsimp only
    split
    · exact hdiscard _ _ _ rfl
    · split
      · exact h
      · split
        · exact hadmit _ _ _ _ _ rfl
        · exact h

theorem limitExpiry_drops {d : Device} (h : Fit DropsOk d.delivery.consumers) (q : Fin 17) :
    Fit DropsOk (limitExpiry q d).delivery.consumers := by
  have hlose (e : Entry) : Fit DropsOk ((d.updPend q PendLane.popHead).loseEntry q e).delivery.consumers := by
    simpa using h
  unfold limitExpiry
  dsimp only
  split
  · split
    · exact flagMembers_drops (hlose _) _
    · exact hlose _
  · exact h

theorem loseAll_delivery (q : Fin 17) (es : List Entry) (d : Device) :
    (es.foldl (fun d e => d.loseEntry q e) d).delivery = d.delivery := by
  induction es generalizing d with
  | nil => rfl
  | cons e es ih => exact (ih _).trans (by simp)

theorem emptyQueue_drops {d : Device} (h : Fit DropsOk d.delivery.consumers) (q : Fin 17) :
    Fit DropsOk (d.emptyQueue q).delivery.consumers := by
  have hlost (es : List Entry) : Fit DropsOk (es.foldl (fun d e => d.loseEntry q e) (d.updPend q fun n =>
      { n with queue := [], waiting := false, waitTimer := none, lastSet := none })).delivery.consumers := by
    rw [loseAll_delivery]
    exact h
  unfold Device.emptyQueue
  dsimp only
  split
  · exact flagMembers_drops (hlost _) _
  · exact hlost _

theorem blank_drops (cause : ResetCause) (i : Inputs) : Fit DropsOk (Device.blank cause i).delivery.consumers := by
  intro c
  simp [DropsOk, Device.blank, resetDelivery, resetConsumer]

theorem act_drops {c : Instr} {d e : Device} (ha : Act c d e) (h : Fit DropsOk d.delivery.consumers) :
    Fit DropsOk e.delivery.consumers := by
  by_cases hq : Block.consumers ∈ footprint c
  · cases ha with
    | nothing => exact h
    | resetLane l =>
      exact (emptyQueue_drops h (laneQueue l)).same (resetLane_touches_emptied d l .consumers (by decide))
    | setActive c dep => exact activate_drops (setDepth_drops h c _) c
    | setInactive c dep =>
      have hflush := flush_drops (setDepth_drops h c (clampTo 4 255 dep)) c
      exact changeConsumer_drops hflush c (hflush c)
    | flushConsumer c => exact flush_drops h c
    | readConsumer c => exact h.upd c (Nat.zero_le _)
    | creditFrame b _ c n => exact creditTo_drops (d := d.updTrunk fun t => t.waitIdle true) h c n
    | sendReply => exact h
    | sendEvent c r urgent f => exact takeFrame_drops h c r urgent
    | admission =>
      unfold Machine.admission
      split
      · exact attempt_drops h _
      · exact h
    | limitExpiry q => exact limitExpiry_drops h q
    | stallExpiry c => exact stallExpiry_drops h c
    | frameEnd => exact h
    | trunkReset | powerOn | resetPinRise =>
      exact (blank_drops _ _).same (AssignmentsKept.startUp_touches _ _ .consumers (by decide))
    | powerOnHeld i | resetPinLow i => exact blank_drops .pin i
    | setDrawer row | setSupply row | setSupplyFault row => simp [footprint_setDrawerRow row] at hq
    | _ => simp [footprint] at hq
  · exact h.same (ha.touches _ hq)

theorem tick_drops {d : Device} (h : Fit DropsOk d.delivery.consumers) : Fit DropsOk d.tick.delivery.consumers := by
  unfold Device.tick
  dsimp only
  split
  · exact h
  · exact h.map fun _ hk => hk

/-! #### Unwanted events -/

/-- The pool's counter of unwanted events is in its range. -/
def UnwantedOk (d : Device) : Prop := d.pool.unwanted ≤ 65535

theorem UnwantedOk.same {d e : Device} (h : UnwantedOk d) (hs : Same d e .slots) : UnwantedOk e := by
  have hu : e.pool.unwanted = d.pool.unwanted := (congrArg Pool.unwanted hs :)
  exact hu.trans_le h

theorem giveUp_unwanted (p : Pool) (r : Fin 512) : (p.giveUp r).unwanted = p.unwanted := by
  unfold Pool.giveUp
  split
  · rfl
  · split <;> rfl

theorem giveUpAll_unwanted (d : Device) (rs : List (Fin 512)) : (d.giveUpAll rs).pool.unwanted = d.pool.unwanted := by
  have hfold (p : Pool) : (rs.foldl (fun p r => p.giveUp r) p).unwanted = p.unwanted := by
    induction rs generalizing p with
    | nil => rfl
    | cons r rs ih => exact (ih _).trans (giveUp_unwanted p r)
  exact hfold d.pool

theorem flush_unwanted {d : Device} (h : UnwantedOk d) (c : Fin 8) : UnwantedOk (d.flush c) :=
  (giveUpAll_unwanted d _).trans_le h

theorem setDepth_unwanted {d : Device} (h : UnwantedOk d) (c : Fin 8) (depth : Nat) : UnwantedOk (d.setDepth c depth) :=
  (giveUpAll_unwanted d _).trans_le h

theorem attempt_unwanted {d : Device} (h : UnwantedOk d) (q : Fin 17) : UnwantedOk (d.attempt q) := by
  have hdiscard (e : Entry) (s : SortedSet) (x : Device) : UnwantedOk (x.discardHead q e s) := sat16_le _ _
  unfold Device.attempt
  split
  · exact h
  · dsimp only
    split
    · exact hdiscard _ _ _
    · split
      · exact h
      · split
        · unfold UnwantedOk at h ⊢
          simpa [Device.admitHead] using h
        · exact h

theorem stallExpiry_unwanted {d : Device} (h : UnwantedOk d) (c : Fin 8) : UnwantedOk (stallExpiry c d) := by
  have hoffer (x : Device) (n : Notice) (hx : UnwantedOk x) : UnwantedOk (x.offer deviceQueue n) :=
    hx.same (offer_touches x deviceQueue n .slots (by decide))
  unfold stallExpiry
  split
  · exact h
  · exact hoffer _ _ ((giveUpAll_unwanted d _).trans_le h)

theorem blank_unwanted (cause : ResetCause) (i : Inputs) : UnwantedOk (Device.blank cause i) := Nat.zero_le _

theorem act_unwanted {c : Instr} {d e : Device} (ha : Act c d e) (h : UnwantedOk d) : UnwantedOk e := by
  by_cases hq : Block.slots ∈ footprint c
  · cases ha with
    | nothing => exact h
    | setAdmission => exact h
    | readPool => exact Nat.zero_le _
    | setActive c dep => exact setDepth_unwanted h c _
    | setInactive c dep => exact flush_unwanted (setDepth_unwanted h c (clampTo 4 255 dep)) c
    | flushConsumer c => exact flush_unwanted h c
    | sendReply => exact h
    | sendEvent c r urgent f => exact (giveUp_unwanted _ r).trans_le h
    | admission =>
      unfold Machine.admission
      split
      · exact attempt_unwanted h _
      · exact h
    | stallExpiry c => exact stallExpiry_unwanted h c
    | frameEnd => exact h
    | trunkReset | powerOn | resetPinRise =>
      exact (blank_unwanted _ _).same (AssignmentsKept.startUp_touches _ _ .slots (by decide))
    | powerOnHeld i | resetPinLow i => exact blank_unwanted .pin i
    | setDrawer row | setSupply row | setSupplyFault row => simp [footprint_setDrawerRow row] at hq
    | _ => simp [footprint] at hq
  · exact h.same (ha.touches _ hq)

theorem tick_unwanted {d : Device} (h : UnwantedOk d) : UnwantedOk d.tick := by
  unfold Device.tick
  dsimp only
  split <;> exact h

/-! #### Missed passes -/

/-- A lane's miss counter is in its range. -/
def MissesOk (m : LaneScan) : Prop := m.missCount ≤ 65535

theorem MissesOk.of_eq {m m' : LaneScan} (h : MissesOk m) (he : m'.missCount = m.missCount) : MissesOk m' := he.trans_le h

theorem latchAll_missCount (m : LaneScan) (ps : List (Fin 128)) : (m.latchAll ps).missCount = m.missCount := rfl

theorem sampled_missCount (m : LaneScan) (g : Settings) (raw : BitVec 128) : (m.sampled g raw).missCount = m.missCount := by
  simp only [LaneScan.sampled]

theorem withdrawn_misses {d : Device} (h : Fit MissesOk d.scanner.lanes) (l : Fin 16) :
    Fit MissesOk (Claims.withdrawn d l).lanes := by
  rw [← windDown_scanner, windDown_scanner, ← withdraw_clear_scanner]
  exact (h.upd l (f := _) (h l)).upd l (f := LaneScan.clearKeys) (by rw [upd_getElem_self]; exact h l)

theorem refit_misses {r : LaneRec} {m : LaneScan} (h : MissesOk m) : MissesOk (m.refit r) := by
  unfold LaneScan.refit LaneScan.fit
  split
  · exact h.of_eq (latchAll_missCount _ _)
  · exact h

theorem ended_misses {m : LaneScan} (h : MissesOk m) (g : Settings) (raw : BitVec 128) (dead : Fin 128 → Bool) :
    MissesOk (m.ended g raw dead) := by
  unfold LaneScan.ended LaneScan.passed
  split
  · exact h
  · exact MissesOk.of_eq h (by simp only [sampled_missCount])

theorem ended_lanes_misses {v : Table LaneScan 16} (h : Fit MissesOk v) (l : Fin 16) (g : Settings) (raw : BitVec 128)
    (dead : Fin 128 → Bool) : Fit MissesOk (upd v l fun m => m.ended g raw dead) := by
  intro k
  rw [upd_getElem]
  split
  · exact ended_misses (h k) g raw dead
  · exact h k

theorem latched_lanes_misses {v : Table LaneScan 16} (h : Fit MissesOk v) (l : Fin 16) :
    Fit MissesOk (upd v l fun m => (m.latchAll (m.positions .pressed)).latchBlocked) := by
  intro k
  rw [upd_getElem]
  split
  · exact (h k).of_eq (by simp only [LaneScan.latchBlocked, latchAll_missCount])
  · exact h k

theorem passEnd_misses {d : Device} (h : Fit MissesOk d.scanner.lanes) (raw : BitVec 128) (lock : KeyLock)
    (wake : BitVec 128) : Fit MissesOk (passEnd raw lock wake d).scanner.lanes := by
  cases hl : d.scanner.laneInPass with
  | none =>
    unfold passEnd
    rw [hl]
    exact h
  | some l => exact (ended_lanes_misses h l _ _ _).same (congrArg Scanner.lanes (passEnd_scanner d hl raw lock wake))

theorem forcedSwitch_misses {d : Device} (h : Fit MissesOk d.scanner.lanes) (l : Fin 16) :
    Fit MissesOk (forcedSwitch l d).scanner.lanes := by
  cases hx : d.keymaps.lanes[l].switchTimer with
  | none =>
    unfold forcedSwitch
    rw [hx]
    exact h
  | some x =>
    cases hi : d.keymaps.lanes[l].pendingImg with
    | none =>
      unfold forcedSwitch
      rw [hx, hi]
      exact h
    | some i => exact (latched_lanes_misses h l).same (congrArg Scanner.lanes (forcedSwitch_scanner d hx hi))

theorem duePoint_misses {d : Device} (h : Fit MissesOk d.scanner.lanes) (l : Fin 16) :
    Fit MissesOk (duePoint l d).scanner.lanes := by
  have hmissed : Fit MissesOk (d.updScan l fun m =>
      { m with missCount := sat16 m.missCount 1, dueTimer := some (d.lanes[l].active.scanPeriod * 250) }).scanner.lanes :=
    h.upd l (sat16_le _ _)
  unfold duePoint
  dsimp only
  split
  · exact h
  · split
    · split
      · exact hmissed
      · rw [depart_scanner]
        exact withdrawn_misses hmissed l
    · exact h.upd l (h l)

theorem blank_misses (cause : ResetCause) (i : Inputs) : Fit MissesOk (Device.blank cause i).scanner.lanes := by
  intro l
  simp [MissesOk, Device.blank, resetScanner, resetLaneScan]

theorem act_misses {c : Instr} {d e : Device} (ha : Act c d e) (h : Fit MissesOk d.scanner.lanes) :
    Fit MissesOk e.scanner.lanes := by
  by_cases hq : Block.scanner ∈ footprint c
  · cases ha with
    | nothing => exact h
    | openLane l => exact openLane_scanner d l ▸ h.upd l (h l)
    | closeLane l => exact depart_scanner d l _ _ ▸ withdrawn_misses h l
    | closeFaulted l => exact h.same (congrArg Scanner.lanes (closeFaulted_touches d l .scanner (by decide)))
    | resetLane l => exact resetLane_scanner d l ▸ withdrawn_misses h l
    | setScan => exact h
    | readKeys l => exact h.upd l (Nat.zero_le _)
    | duePoint l => exact duePoint_misses h l
    | passStart =>
      unfold Machine.passStart
      split
      · next l _ => exact startPass_scanner d l ▸ h.upd l (refit_misses (h l))
      · exact h
    | passEnd raw a b wake => exact passEnd_misses h raw _ wake
    | forcedSwitch l => exact forcedSwitch_misses h l
    | frameEnd => exact h
    | trunkReset | powerOn | resetPinRise =>
      exact (blank_misses _ _).same (congrArg Scanner.lanes (AssignmentsKept.startUp_touches _ _ .scanner (by decide)))
    | powerOnHeld i | resetPinLow i => exact blank_misses .pin i
    | setDrawer row | setSupply row | setSupplyFault row => simp [footprint_setDrawerRow row] at hq
    | _ => simp [footprint] at hq
  · exact h.same (congrArg Scanner.lanes (ha.touches _ hq))

theorem tick_misses {d : Device} (h : Fit MissesOk d.scanner.lanes) : Fit MissesOk d.tick.scanner.lanes := by
  have hus : Fit MissesOk d.scanner.us.lanes := h.map fun _ hm => hm
  unfold Device.tick
  dsimp only
  split
  · exact hus
  · exact hus

end Sys2Proof.CountsKept

/-! ### The counters of drawers, ports and rules -/

namespace Sys2Proof.CountsKept

open Sys2Proof.Machine Sys2Proof.Safety Sys2Proof.QueueBounds

/-! #### Drawers -/

/-- A drawer's counters and its open time are in their ranges. -/
def DrawerCounts (w : Drawer) : Prop := w.openCount ≤ 65535 ∧ w.limitsPassed ≤ 65535 ∧ w.openTime ≤ 4294967295

/-- The drawer's two counters and its open time, and nothing else of it. -/
def drawerCore (w : Drawer) : Nat × Nat × Nat := (w.openCount, w.limitsPassed, w.openTime)

theorem DrawerCounts.of_core {w w' : Drawer} (h : DrawerCounts w) (hc : drawerCore w' = drawerCore w) : DrawerCounts w' := by
  simp only [drawerCore, Prod.mk.injEq] at hc
  obtain ⟨hopen, hlimits, htime⟩ := hc
  unfold DrawerCounts
  rw [hopen, hlimits, htime]
  exact h

theorem becomeOpen_counts (w : Drawer) : DrawerCounts w.becomeOpen := ⟨sat16_le _ _, Nat.zero_le _, Nat.zero_le _⟩

theorem setOpenLimit_core (w : Drawer) (limit : Nat) : drawerCore (w.setOpenLimit limit) = drawerCore w := by
  unfold Drawer.setOpenLimit
  dsimp only
  split
  · rfl
  · split
    · rfl
    · split <;> rfl

theorem setPresence_core (w : Drawer) (on : Bool) : drawerCore (w.setPresence on) = drawerCore w := by
  unfold Drawer.setPresence
  split <;> rfl

theorem DrawerCounts.settle {w : Drawer} (h : DrawerCounts w) : DrawerCounts w.settle := by
  unfold Drawer.settle
  dsimp only
  split
  · exact ⟨h.1, h.2.1, Nat.zero_le _⟩
  · exact h

theorem limitMs_core (w : Drawer) : drawerCore w.limitMs = drawerCore w := by
  unfold Drawer.limitMs
  split
  · rfl
  · split <;> rfl

theorem DrawerCounts.ms {w : Drawer} (h : DrawerCounts w) : DrawerCounts w.ms := by
  obtain ⟨hopen, hlimits, htime⟩ := h
  have hcount : DrawerCounts { w with
      stability := countDown w.stability 1, kickTimer := countDown w.kickTimer 1
      openTime := if w.position = .opened then satOpenTime w.openTime else w.openTime } := by
    refine ⟨hopen, hlimits, ?_⟩
    dsimp only
    split
    · exact Nat.min_le_left _ _
    · exact htime
  exact hcount.of_core (limitMs_core _)

theorem freeUp_drawers (u : DrawerUnit) (i : Fin 8) : (u.freeUp i).drawers = u.drawers := by
  unfold DrawerUnit.freeUp
  dsimp only
  split
  · split <;> rfl
  · rfl

theorem releaseUnit_counts {u : DrawerUnit} (h : Fit DrawerCounts u.drawers) (n : Fin 32) :
    Fit DrawerCounts (u.releaseUnit n).drawers := by
  unfold DrawerUnit.releaseUnit
  dsimp only
  split
  · rw [SupplyKept.recover_drawers_eq]
    exact h.upd n (h n)
  · exact h.upd n (h n)

theorem pulseEnd_counts {d : Device} (h : Fit DrawerCounts d.drawers.drawers) (n : Fin 32) :
    Fit DrawerCounts (pulseEnd n d).drawers.drawers := by
  have hrel := releaseUnit_counts h n
  unfold pulseEnd
  dsimp only
  split
  · split
    · rw [Device.offerDrawer_drawers]
      exact hrel.upd n (hrel n)
    · exact hrel.upd n (hrel n)
  · exact h

theorem confirmTimeout_counts {d : Device} (h : Fit DrawerCounts d.drawers.drawers) (n : Fin 32) :
    Fit DrawerCounts (confirmTimeout n d).drawers.drawers := by
  unfold confirmTimeout
  split
  · rw [Device.offerDrawer_drawers]
    exact h.upd n (h n)
  · exact h

theorem abortWaiting_counts {d : Device} (h : Fit DrawerCounts d.drawers.drawers) (n : Fin 32) (cause : Nat) :
    Fit DrawerCounts (d.abortWaiting n cause).drawers.drawers := by
  unfold Device.abortWaiting
  rw [Device.offer_drawers]
  exact h.upd n (h n)

theorem cutPulse_counts {d : Device} (h : Fit DrawerCounts d.drawers.drawers) (n : Fin 32) :
    Fit DrawerCounts (d.cutPulse n).drawers.drawers := by
  unfold Device.cutPulse
  dsimp only
  rw [Device.offer_drawers]
  exact h.upd n (h n)

/-- What each step of a fold keeps, the fold keeps. -/
theorem foldl_keeps {α β : Type} {P : β → Prop} {f : β → α → β} (hf : ∀ b a, P b → P (f b a)) (xs : List α) {b : β} (h : P b) :
    P (xs.foldl f b) := by
  induction xs generalizing b with
  | nil => exact h
  | cons x xs ih => exact ih (hf b x h)

theorem supplyFaultTaken_counts {d : Device} (h : Fit DrawerCounts d.drawers.drawers) :
    Fit DrawerCounts d.supplyFaultTaken.drawers.drawers := by
  unfold Device.supplyFaultTaken
  dsimp only
  rw [Device.offer_drawers]
  exact foldl_keeps (P := fun d : Device => Fit DrawerCounts d.drawers.drawers) (fun _ n hd => abortWaiting_counts hd n 2) _
    (foldl_keeps (P := fun d : Device => Fit DrawerCounts d.drawers.drawers) (fun _ n hd => cutPulse_counts hd n) _ h)

theorem opening_counts {d : Device} (h : Fit DrawerCounts d.drawers.drawers) (n : Fin 32) :
    Fit DrawerCounts (d.opening n).drawers.drawers := by
  have hopen : Fit DrawerCounts (d.updDrawer n Drawer.becomeOpen).drawers.drawers := h.upd n (becomeOpen_counts _)
  unfold Device.opening
  dsimp only
  split
  · rw [Device.offerDrawer_drawers]
    exact hopen.upd n (hopen n)
  · rw [Device.offerDrawer_drawers, Device.offerDrawer_drawers]
    exact hopen.upd n (hopen n)
  · rw [Device.offerDrawer_drawers]
    exact hopen
  · refine abortWaiting_counts ?_ n 1
    rw [Device.offerDrawer_drawers]
    exact hopen

theorem closing_counts {d : Device} (h : Fit DrawerCounts d.drawers.drawers) (n : Fin 32) :
    Fit DrawerCounts (d.closing n).drawers.drawers := by
  unfold Device.closing
  dsimp only
  rw [Device.offerDrawer_drawers]
  exact h.upd n ⟨(h n).1, Nat.zero_le _, (h n).2.2⟩

theorem stabilityExpiry_counts {d : Device} (h : Fit DrawerCounts d.drawers.drawers) (n : Fin 32) :
    Fit DrawerCounts (stabilityExpiry n d).drawers.drawers := by
  have hstop : Fit DrawerCounts (d.updDrawer n fun w => { w with stability := none }).drawers.drawers := h.upd n (h n)
  unfold stabilityExpiry
  dsimp only
  split
  · exact h
  · split
    · exact hstop.upd n (hstop n).settle
    · split
      · exact hstop
      · split
        · exact opening_counts hstop n
        · exact closing_counts hstop n

theorem openTooLong_counts {d : Device} (h : Fit DrawerCounts d.drawers.drawers) (n : Fin 32) :
    Fit DrawerCounts (openTooLong n d).drawers.drawers := by
  have hcount (c : Nat) (hc : c ≤ 65535) : Fit DrawerCounts (d.updDrawer n fun w => { w with limitsPassed := c }).drawers.drawers :=
    h.upd n ⟨(h n).1, hc, (h n).2.2⟩
  unfold openTooLong
  dsimp only
  split
  · exact h
  · rw [Device.updDrawer_drawers, Device.requestTone_drawers, Device.offerDrawer_drawers]
    exact (hcount _ (sat16_le _ _)).upd n (hcount _ (sat16_le _ _) n)

theorem senseChange_counts {d : Device} (h : Fit DrawerCounts d.drawers.drawers) (n : Fin 32) (o : Bool) :
    Fit DrawerCounts (senseChange o n d).drawers.drawers := by
  refine h.upd n ?_
  split
  · exact h n
  · split
    · exact h n
    · exact h n

theorem applyLimit_drawers (u : DrawerUnit) (k : Nat) : (u.applyLimit k).drawers = u.drawers := by
  unfold DrawerUnit.applyLimit
  split <;> rfl

theorem Fit.kicked {u v : DrawerUnit} (hk : Kicked u v) (h : Fit DrawerCounts u.drawers) : Fit DrawerCounts v.drawers := by
  induction hk with
  | refl => exact h
  | accept _ n _ ih => exact ih.upd n (ih n)

theorem blank_counts (cause : ResetCause) (i : Inputs) : Fit DrawerCounts (Device.blank cause i).drawers.drawers := by
  intro n
  simp [DrawerCounts, Device.blank, resetDrawers, resetDrawer]

theorem startUp_counts (cause : ResetCause) (i : Inputs) : Fit DrawerCounts (startUp cause i).drawers.drawers := by
  have hstart (x : Notice) : Fit DrawerCounts ((Device.blank cause i).offer deviceQueue x).drawers.drawers := by
    rw [Device.offer_drawers]
    exact blank_counts cause i
  unfold startUp
  dsimp only
  split
  · exact hstart _
  · exact supplyFaultTaken_counts (hstart _)

theorem grant_drawers {u : DrawerUnit} (h : Fit DrawerCounts u.drawers) (n : Fin 32) (i : Fin 8) :
    Fit DrawerCounts (u.grant n i).drawers := by
  unfold DrawerUnit.grant
  exact h.upd n (h n)

theorem resetLane_counts {d : Device} (h : Fit DrawerCounts d.drawers.drawers) (l : Fin 16) :
    Fit DrawerCounts (d.resetLane l).drawers.drawers := by
  obtain ⟨x, hx, he⟩ := SupplyKept.resetLane_drawers d l
  rw [he]
  exact foldl_keeps (P := fun d : Device => Fit DrawerCounts d.drawers.drawers) (fun _ n hd => abortWaiting_counts hd n 3) _
    (hx ▸ h)

theorem supplyFall_counts {d : Device} (h : Fit DrawerCounts d.drawers.drawers) :
    Fit DrawerCounts (supplyFall d).drawers.drawers := by
  unfold supplyFall
  split
  · dsimp only
    split
    · exact supplyFaultTaken_counts h
    · exact h
  · exact h

theorem act_counts {c : Instr} {d e : Device} (ha : Act c d e) (h : Fit DrawerCounts d.drawers.drawers) :
    Fit DrawerCounts e.drawers.drawers := by
  by_cases hq : Block.kicks ∈ footprint c
  · cases ha with
    | nothing => exact h
    | resetLane l => exact resetLane_counts h l
    | clearInhibit => exact h
    | setDrawer row n on pulse confirm limit =>
      exact h.upd n ((h n).of_core ((setPresence_core _ on).trans (setOpenLimit_core _ limit)))
    | setSupply row k gap on => exact h.same (applyLimit_drawers _ _)
    | setSupplyFault row k gap on => exact supplyFaultTaken_counts (h.same (applyLimit_drawers _ _))
    | clearCounter n => exact h.upd n ⟨Nat.zero_le _, (h n).2.1, (h n).2.2⟩
    | senseChange n o => exact senseChange_counts h n o
    | stabilityExpiry n => exact stabilityExpiry_counts h n
    | kickGrant =>
      unfold Machine.kickGrant
      split
      · exact grant_drawers h _ _
      · exact h
    | pulseEnd n => exact pulseEnd_counts h n
    | confirmTimeout n => exact confirmTimeout_counts h n
    | unitRecovered i =>
      unfold Machine.unitRecovered
      split
      · exact h.same (freeUp_drawers _ _)
      · exact h
    | openTooLong n => exact openTooLong_counts h n
    | supplyFall => exact supplyFall_counts h
    | supplyRise => exact h
    | frameEnd => exact h
    | trunkReset | powerOn | resetPinRise => exact startUp_counts _ _
    | powerOnHeld i | resetPinLow i => exact blank_counts .pin i
    | _ => simp [footprint] at hq
  · exact Fit.kicked (ha.touches _ hq) h

theorem tick_counts {d : Device} (h : Fit DrawerCounts d.drawers.drawers) : Fit DrawerCounts d.tick.drawers.drawers := by
  unfold Device.tick
  dsimp only
  split
  · exact h
  · exact h.map fun _ => DrawerCounts.ms

/-! #### Ports -/

/-- A port's counters are in their ranges. -/
def PortCounts (p : Port) : Prop :=
  p.cRecords ≤ 65535 ∧ p.cDamaged ≤ 65535 ∧ p.cOverlength ≤ 65535 ∧ p.cOverrun ≤ 65535 ∧ p.cDiscarded ≤ 65535

/-- The port's counters, and nothing else of it. -/
def counted (p : Port) : Nat × Nat × Nat × Nat × Nat := (p.cRecords, p.cDamaged, p.cOverlength, p.cOverrun, p.cDiscarded)

theorem PortCounts.of_counted {p p' : Port} (h : PortCounts p) (hc : counted p' = counted p) : PortCounts p' := by
  simp only [counted, Prod.mk.injEq] at hc
  obtain ⟨hrec, hdam, hover, hrun, hdis⟩ := hc
  unfold PortCounts
  rw [hrec, hdam, hover, hrun, hdis]
  exact h

theorem follow_counted (p : Port) (x : Bool) : counted (p.follow x) = counted p := by
  unfold Port.follow
  split <;> rfl

theorem setBuf_counted (p : Port) (b : BufferId) (v : Buffer) : counted (p.setBuf b v) = counted p := by cases b <;> rfl

theorem release_counted (p : Port) (b : BufferId) : counted (p.release b) = counted p := by
  unfold Port.release
  split
  · exact setBuf_counted p b freeBuffer
  · rfl

theorem ending_counted (p : Port) (b : BufferId) : counted (p.nextBuffer b).endStopping = counted p := by
  have hnext : counted (p.nextBuffer b) = counted p := by
    unfold Port.nextBuffer
    split <;> rfl
  unfold Port.endStopping
  split
  · exact hnext
  · exact hnext

theorem beginRecord_counted (p : Port) (b : BufferId) : counted (p.beginRecord b) = counted p := by
  unfold Port.beginRecord
  split
  · exact setBuf_counted p b _
  · rfl

theorem storeChar_counted (p : Port) (b : BufferId) (c : Byte) (good : Bool) : counted (p.storeChar b c good) = counted p := by
  unfold Port.storeChar
  exact setBuf_counted p b _

theorem countRecord_counts {p : Port} (h : PortCounts p) : PortCounts p.countRecord :=
  ⟨sat16_le _ _, sat16_le _ _, sat16_le _ _, h.2.2.2.1, h.2.2.2.2⟩

/-- An update of one port that leaves its counters. -/
theorem updPort_counts {d : Device} (h : Fit PortCounts d.ports) (n : Fin 32) {f : Port → Port}
    (hf : counted (f d.ports[n]) = counted d.ports[n]) : Fit PortCounts (d.updPort n f).ports :=
  h.upd n ((h n).of_counted hf)

theorem releaseBody_counts {d : Device} (h : Fit PortCounts d.ports) (b : BodyRef) :
    Fit PortCounts (d.releaseBody b).ports := by
  cases b with
  | buffer n b start len => exact updPort_counts h n (release_counted _ b)
  | _ => exact h

theorem loseEntry_counts {d : Device} (h : Fit PortCounts d.ports) (q : Fin 17) (e : Entry) :
    Fit PortCounts (d.loseEntry q e).ports := releaseBody_counts (d := d.updPend q _) h e.body

theorem offer_counts {d : Device} (h : Fit PortCounts d.ports) (q : Fin 17) (n : Notice) :
    Fit PortCounts (d.offer q n).ports := by
  unfold Device.offer
  dsimp only
  split
  · exact h
  · exact loseEntry_counts (d := d.updPend q _) h q _

theorem classify_counts {d : Device} (h : Fit PortCounts d.ports) (n : Fin 32) (b : BufferId) :
    Fit PortCounts (d.classify n b).ports := by
  have hmatch (m : Option (Fin 32)) : Fit PortCounts (d.countMatch m).ports :=
    h.same (countMatch_touches d m .ports (by decide))
  unfold Device.classify
  dsimp only
  split
  · exact updPort_counts (updPort_counts (hmatch _) n rfl) n (release_counted _ b)
  · rw [requestToneOpt_touches _ _ _ .ports (by decide)]
    exact offer_counts (hmatch _) _ _

theorem recordEnd_counts {d : Device} (h : Fit PortCounts d.ports) (n : Fin 32) (b : BufferId) :
    Fit PortCounts (d.recordEnd n b).ports := by
  have hcounted : Fit PortCounts (d.updPort n Port.countRecord).ports := h.upd n (countRecord_counts (h n))
  unfold Device.recordEnd
  dsimp only
  refine updPort_counts ?_ n (ending_counted _ b)
  split
  · exact updPort_counts (offer_counts hcounted _ _) n (setBuf_counted _ b _)
  · exact classify_counts (updPort_counts hcounted n (setBuf_counted _ b _)) n b

theorem recordChar_counts {d : Device} (h : Fit PortCounts d.ports) (n : Fin 32) (b : BufferId) (c : Byte) (good : Bool) :
    Fit PortCounts (d.recordChar n b c good).ports := by
  unfold Device.recordChar
  dsimp only
  split
  · split
    · exact recordEnd_counts h n b
    · exact h
  · exact updPort_counts h n ((storeChar_counted _ b c good).trans (beginRecord_counted _ b))

theorem scannerCharacter_counts {d : Device} (h : Fit PortCounts d.ports) (c : Byte) (good : Bool) (n : Fin 32) :
    Fit PortCounts (scannerCharacter c good n d).ports := by
  have hread : Fit PortCounts (d.updPort n fun p => { p with charRate := none }).ports := updPort_counts h n rfl
  have hlost : Fit PortCounts ((d.updPort n fun p => { p with charRate := none }).updPort n fun p =>
      { p with cOverrun := sat16 p.cOverrun 1, overrun := true }).ports :=
    hread.upd n ⟨(hread n).1, (hread n).2.1, (hread n).2.2.1, sat16_le _ _, (hread n).2.2.2.2⟩
  have hdiscarded : Fit PortCounts ((d.updPort n fun p => { p with charRate := none }).updPort n fun p =>
      { p with cDiscarded := sat16 p.cDiscarded 1 }).ports :=
    hread.upd n ⟨(hread n).1, (hread n).2.1, (hread n).2.2.1, (hread n).2.2.2.1, sat16_le _ _⟩
  unfold scannerCharacter
  dsimp only
  split
  · exact recordChar_counts hread n _ c good
  · exact hlost
  · split
    · exact recordChar_counts hread n _ c good
    · exact hdiscarded
  · exact hdiscarded
  · exact hdiscarded

theorem idleExpiry_counts {d : Device} (h : Fit PortCounts d.ports) (n : Fin 32) : Fit PortCounts (idleExpiry n d).ports := by
  unfold idleExpiry
  dsimp only
  split
  · split
    · exact recordEnd_counts h n _
    · exact h
  · exact h

theorem loseAll_counts (es : List Entry) {d : Device} (h : Fit PortCounts d.ports) (q : Fin 17) :
    Fit PortCounts (es.foldl (fun d e => d.loseEntry q e) d).ports :=
  foldl_keeps (P := fun d : Device => Fit PortCounts d.ports) (fun _ e hd => loseEntry_counts hd q e) es h

theorem attempt_counts {d : Device} (h : Fit PortCounts d.ports) (q : Fin 17) : Fit PortCounts (d.attempt q).ports := by
  unfold Device.attempt
  split
  · exact h
  · dsimp only
    split
    · exact releaseBody_counts (d := (d.updPool _).updPend q _) h _
    · split
      · exact h
      · split
        · exact releaseBody_counts (d := (d.updPool _).updPool _) h _
        · exact h

theorem limitExpiry_counts {d : Device} (h : Fit PortCounts d.ports) (q : Fin 17) : Fit PortCounts (limitExpiry q d).ports := by
  have hlose (e : Entry) := loseEntry_counts (d := d.updPend q PendLane.popHead) h q e
  unfold limitExpiry
  dsimp only
  split
  · split
    · exact hlose _
    · exact hlose _
  · exact h

/-- What keeps the counters of each of a lane's two ports keeps those of all. -/
theorem Fit.lanePorts {v w : Table Port 32} (h : Fit PortCounts v) (hw : ∀ n : Fin 32, counted w[n] = counted v[n]) :
    Fit PortCounts w := fun n => (h n).of_counted (hw n)

theorem tellPorts_counts {d : Device} (h : Fit PortCounts d.ports) (l : Fin 16) (isOpen : Bool) :
    Fit PortCounts (d.tellPorts l isOpen).ports := by
  refine Fit.lanePorts h fun n => ?_
  rw [tellPorts_ports]
  split
  · exact follow_counted _ _
  · rfl

theorem depart_port_counts {d : Device} (h : Fit PortCounts d.ports) (l : Fin 16) (dest : LaneState) (c : LaneCause) :
    Fit PortCounts (d.depart l dest c).ports := by
  rw [depart_ports]
  split
  · exact tellPorts_counts h l false
  · exact h

theorem duePoint_counts {d : Device} (h : Fit PortCounts d.ports) (l : Fin 16) : Fit PortCounts (duePoint l d).ports := by
  unfold duePoint
  dsimp only
  split
  · exact h
  · split
    · split
      · exact h
      · exact depart_port_counts (d := d.updScan l _) h l _ _
    · exact h

theorem resetLane_port_counts {d : Device} (h : Fit PortCounts d.ports) (l : Fin 16) :
    Fit PortCounts (d.resetLane l).ports := by
  have hempty : Fit PortCounts (d.emptyQueue (laneQueue l)).ports := by
    have hlost := loseAll_counts d.pool.lanes[laneQueue l].queue (d := d.updPend (laneQueue l) fun n =>
      { n with queue := [], waiting := false, waitTimer := none, lastSet := none }) h (laneQueue l)
    unfold Device.emptyQueue
    dsimp only
    split
    · exact hlost
    · exact hlost
  refine Fit.lanePorts hempty fun n => ?_
  rw [resetLane_ports]
  split <;> rfl

theorem setPort_counts {d : Device} (h : Fit PortCounts d.ports) (n : Fin 32) (rate : PortRate) (term : Option Byte)
    (gap : Nat) (on : Bool) : Fit PortCounts (d.updPort n fun p =>
      { p with bitRate := rate, terminator := term, idleGap := gap, enable := on }.follow
        (on && d.lanes[laneOf n].state == LaneState.opened)).ports :=
  updPort_counts h n (follow_counted { d.ports[n] with bitRate := rate, terminator := term, idleGap := gap, enable := on } _)

theorem blank_port_counts (cause : ResetCause) (i : Inputs) : Fit PortCounts (Device.blank cause i).ports := by
  intro n
  simp [PortCounts, Device.blank, resetPort]

theorem act_port_counts {c : Instr} {d e : Device} (ha : Act c d e) (h : Fit PortCounts d.ports) : Fit PortCounts e.ports := by
  by_cases hq : Block.ports ∈ footprint c
  · cases ha with
    | nothing => exact h
    | openLane l => exact (tellPorts_counts h l true).same (openLane_ports d l)
    | suspendLane l => exact (tellPorts_counts h l false).same (suspendLane_ports d l)
    | resumeLane l => exact (tellPorts_counts h l true).same (resumeLane_ports d l)
    | closeLane l => exact depart_port_counts h l _ _
    | closeFaulted l => exact h.same (closeFaulted_touches d l .ports (by decide))
    | resetLane l => exact resetLane_port_counts h l
    | duePoint l => exact duePoint_counts h l
    | setPort n rate term gap on => exact setPort_counts h n rate term gap on
    | readPort n => exact h.upd n ⟨Nat.zero_le _, Nat.zero_le _, Nat.zero_le _, Nat.zero_le _, Nat.zero_le _⟩
    | startBit n => exact updPort_counts h n rfl
    | scannerCharacter n c good => exact scannerCharacter_counts h c good n
    | idleExpiry n => exact idleExpiry_counts h n
    | admission =>
      unfold Machine.admission
      split
      · exact attempt_counts h _
      · exact h
    | limitExpiry q => exact limitExpiry_counts h q
    | frameEnd => exact h
    | trunkReset | powerOn | resetPinRise =>
      exact (blank_port_counts _ _).same (AssignmentsKept.startUp_touches _ _ .ports (by decide))
    | powerOnHeld i | resetPinLow i => exact blank_port_counts .pin i
    | setDrawer row | setSupply row | setSupplyFault row => simp [footprint_setDrawerRow row] at hq
    | _ => simp [footprint] at hq
  · exact h.same (ha.touches _ hq)

theorem tick_port_counts {d : Device} (h : Fit PortCounts d.ports) : Fit PortCounts d.tick.ports := by
  unfold Device.tick
  dsimp only
  split
  · exact h
  · exact h.map fun _ hp => hp

/-! #### Rules -/

/-- A rule's match counter is in its range. -/
def HitsOk (p : RulePlace) : Prop := p.hits ≤ 65535

/-- The match counters of both banks are in their ranges. -/
def RulesOk (k : Classifier) : Prop := Fit HitsOk k.active ∧ Fit HitsOk k.shadow

theorem countMatch_hits {d : Device} (h : RulesOk d.rules) (m : Option (Fin 32)) : RulesOk (d.countMatch m).rules := by
  unfold Device.countMatch
  split
  · exact ⟨h.1.upd _ (sat16_le _ _), h.2⟩
  · exact h

theorem classify_hits {d : Device} (h : RulesOk d.rules) (n : Fin 32) (b : BufferId) : RulesOk (d.classify n b).rules := by
  unfold Device.classify
  dsimp only
  split
  · exact countMatch_hits h _
  · rw [requestToneOpt_touches _ _ _ .rules (by decide), Device.offer_rules]
    exact countMatch_hits h _

theorem recordEnd_hits {d : Device} (h : RulesOk d.rules) (n : Fin 32) (b : BufferId) : RulesOk (d.recordEnd n b).rules := by
  unfold Device.recordEnd
  dsimp only
  rw [Device.updPort_rules]
  split
  · rw [Device.updPort_rules, Device.offer_rules]
    exact h
  · exact classify_hits (d := (d.updPort n _).updPort n _) h n b

theorem recordChar_hits {d : Device} (h : RulesOk d.rules) (n : Fin 32) (b : BufferId) (c : Byte) (good : Bool) :
    RulesOk (d.recordChar n b c good).rules := by
  unfold Device.recordChar
  dsimp only
  split
  · split
    · exact recordEnd_hits h n b
    · exact h
  · exact h

theorem scannerCharacter_hits {d : Device} (h : RulesOk d.rules) (c : Byte) (good : Bool) (n : Fin 32) :
    RulesOk (scannerCharacter c good n d).rules := by
  have hchar (b : BufferId) := recordChar_hits (d := d.updPort n fun p => { p with charRate := none }) h n b c good
  unfold scannerCharacter
  dsimp only
  split
  · exact hchar _
  · exact h
  · split
    · exact hchar _
    · exact h
  · exact h
  · exact h

theorem idleExpiry_hits {d : Device} (h : RulesOk d.rules) (n : Fin 32) : RulesOk (idleExpiry n d).rules := by
  unfold idleExpiry
  dsimp only
  split
  · split
    · exact recordEnd_hits h n _
    · exact h
  · exact h

theorem writeRule_hits {v : Table RulePlace 32} (h : Fit HitsOk v) (i : Fin 32) (r : ScanRule) :
    Fit HitsOk (v.set i { rule := r, hits := 0 }) := h.upd i (f := fun _ => { rule := r, hits := 0 }) (Nat.zero_le _)

theorem blank_hits (cause : ResetCause) (i : Inputs) : RulesOk (Device.blank cause i).rules :=
  ⟨fun k => by simp [HitsOk, Device.blank, resetRules], fun k => by simp [HitsOk, Device.blank, resetRules]⟩

theorem RulesOk.same {k k' : Classifier} (h : RulesOk k) (hk : k' = k) : RulesOk k' := hk ▸ h

theorem act_hits {c : Instr} {d e : Device} (ha : Act c d e) (h : RulesOk d.rules) : RulesOk e.rules := by
  by_cases hq : Block.rules ∈ footprint c
  · cases ha with
    | nothing => exact h
    | writeRule i r => exact ⟨h.1, writeRule_hits h.2 i r⟩
    | readShadow i => exact ⟨h.1, h.2.upd i (Nat.zero_le _)⟩
    | readActive i => exact ⟨h.1.upd i (Nat.zero_le _), h.2⟩
    | commitRules => exact ⟨h.2, h.1⟩
    | scannerCharacter n c good => exact scannerCharacter_hits h c good n
    | idleExpiry n => exact idleExpiry_hits h n
    | frameEnd => exact h
    | trunkReset | powerOn | resetPinRise =>
      exact (blank_hits _ _).same (AssignmentsKept.startUp_touches _ _ .rules (by decide))
    | powerOnHeld i | resetPinLow i => exact blank_hits .pin i
    | setDrawer row | setSupply row | setSupplyFault row => simp [footprint_setDrawerRow row] at hq
    | _ => simp [footprint] at hq
  · exact h.same (ha.touches _ hq)

theorem tick_hits {d : Device} (h : RulesOk d.rules) : RulesOk d.tick.rules := by
  unfold Device.tick
  dsimp only
  split <;> exact h

/-! #### All counters -/

/-- What `CountersBounded` asks, block by block. -/
structure Bounded (d : Device) : Prop where
  trunk : TrunkCounts d.trunk
  unwanted : UnwantedOk d
  losses : Fit (fun p : PendLane => p.lossCount ≤ 65535) d.pool.lanes
  drops : Fit DropsOk d.delivery.consumers
  misses : Fit MissesOk d.scanner.lanes
  drawers : Fit DrawerCounts d.drawers.drawers
  ports : Fit PortCounts d.ports
  rules : RulesOk d.rules

theorem bounded_iff (d : Device) : CountersBounded d ↔ Bounded d := by
  constructor
  · rintro ⟨htrunk, hunwanted, hlosses, hdrops, hmisses, hdrawers, hports, hrules⟩
    exact ⟨htrunk, hunwanted, hlosses, hdrops, hmisses, hdrawers, hports, fun i => (hrules i).1, fun i => (hrules i).2⟩
  · rintro ⟨htrunk, hunwanted, hlosses, hdrops, hmisses, hdrawers, hports, hactive, hshadow⟩
    exact ⟨htrunk, hunwanted, hlosses, hdrops, hmisses, hdrawers, hports, fun i => ⟨hactive i, hshadow i⟩⟩

theorem step_keeps_bounded {s t : State} (h : step s = .next t) (hs : Bounded s.dev) : Bounded t.dev where
  trunk := step_keeps_trunk (P := TrunkCounts) move_counts (fun _ hk => hk) h hs.trunk
  unwanted := step_keeps (P := UnwantedOk) (fun _ _ hp => hp) act_unwanted (fun _ => tick_unwanted) h hs.unwanted
  losses := step_keeps_fit loss_bound h hs.losses
  drops := step_keeps (P := fun d => Fit DropsOk d.delivery.consumers) (fun _ _ hp => hp) act_drops (fun _ => tick_drops) h
    hs.drops
  misses := step_keeps (P := fun d => Fit MissesOk d.scanner.lanes) (fun _ _ hp => hp) act_misses (fun _ => tick_misses) h
    hs.misses
  drawers := step_keeps (P := fun d => Fit DrawerCounts d.drawers.drawers) (fun _ _ hp => hp) act_counts
    (fun _ => tick_counts) h hs.drawers
  ports := step_keeps (P := fun d => Fit PortCounts d.ports) (fun _ _ hp => hp) act_port_counts
    (fun _ => tick_port_counts) h hs.ports
  rules := step_keeps (P := fun d => RulesOk d.rules) (fun _ _ hp => hp) act_hits (fun _ => tick_hits) h hs.rules

/-- Settles O59: each block's counters saturate or are cleared, a stored character leaves the frame short, and a lamp
follows each change of its lane's state. -/
theorem stepKeepsCounts : Obligations.StepKeepsCounts := by
  intro s t h
  refine ⟨step_keeps_trunk (P := Receives) move_receives (fun _ hk => hk) h, fun hs => ?_, fun hs => ?_⟩
  · exact (tonesSound_iff _).mpr (step_keeps (P := fun d => TluOk (stateOf d) d.tlu) (fun _ _ hp => hp) act_tones
      (fun _ => tick_tones) h ((tonesSound_iff _).mp hs))
  · exact (bounded_iff _).mpr (step_keeps_bounded h ((bounded_iff _).mp hs))

end Sys2Proof.CountsKept

/-! ## Key states and held records, operation by operation (R39, R61, R66, R69) -/

namespace Sys2Proof.Machine

/-! ### Held records and the repeat owner -/

/-- A released position's held record goes, if it has one (R66). -/
def KeyTrans.release (t : KeyTrans) (p : Fin 128) : KeyTrans :=
  match t.held[p] with
  | none => t
  | some _ => t.letGo p

/-- The positions are released one after the other. -/
def KeyTrans.releaseAll (ps : List (Fin 128)) (t : KeyTrans) : KeyTrans := ps.foldl KeyTrans.release t

/-- A position gets a held record, and becomes the repeat owner if `owns` (R62, R69). -/
def KeyTrans.press (t : KeyTrans) (p : Fin 128) (h : Held) (owns : Bool) : KeyTrans :=
  if owns then { t with held := t.held.set p (some h) }.takeOwner p else { t with held := t.held.set p (some h) }

theorem set_getElem {α : Type} {n : Nat} (v : Table α n) (i j : Fin n) (x : α) :
    (v.set i x)[j] = if j = i then x else v[j] := upd_getElem v i j fun _ => x

theorem letGo_held (t : KeyTrans) (p x : Fin 128) : (t.letGo p).held[x] = if x = p then none else t.held[x] := by
  have hset := set_getElem t.held p x none
  unfold KeyTrans.letGo
  dsimp only
  split <;> exact hset

theorem letGo_owner (t : KeyTrans) (p : Fin 128) : (t.letGo p).owner = if t.owner = some p then none else t.owner := by
  unfold KeyTrans.letGo
  dsimp only
  split <;> rfl

theorem release_held (t : KeyTrans) (p x : Fin 128) : (t.release p).held[x] = if x = p then none else t.held[x] := by
  unfold KeyTrans.release
  split
  · next hp =>
    split
    · next hx => rw [hx, hp]
    · rfl
  · exact letGo_held t p x

theorem releaseAll_held (ps : List (Fin 128)) (t : KeyTrans) (x : Fin 128) :
    (t.releaseAll ps).held[x] = if x ∈ ps then none else t.held[x] := by
  induction ps generalizing t with
  | nil => rfl
  | cons p ps ih =>
    have hrest : (t.releaseAll (p :: ps)).held[x] = if x ∈ ps then none else (t.release p).held[x] := ih (t.release p)
    rw [hrest, release_held]
    by_cases hx : x ∈ ps
    · simp [hx]
    · simp [hx]

theorem press_held (t : KeyTrans) (p x : Fin 128) (h : Held) (owns : Bool) :
    (t.press p h owns).held[x] = if x = p then some h else t.held[x] := by
  have hset := set_getElem t.held p x (some h)
  unfold KeyTrans.press
  split <;> exact hset

/-- The repeat owner has a held record (R69). -/
def KeyTrans.OwnerHeld (t : KeyTrans) : Prop := ∀ p, t.owner = some p → t.held[p].isSome

theorem KeyTrans.OwnerHeld.release {t : KeyTrans} (h : t.OwnerHeld) (p : Fin 128) : (t.release p).OwnerHeld := by
  intro x hx
  rw [release_held]
  unfold KeyTrans.release at hx
  split at hx
  · next hp =>
    split
    · next hxp =>
      have := h x hx
      rw [hxp, hp] at this
      cases this
    · exact h x hx
  · rw [letGo_owner] at hx
    split at hx
    · cases hx
    · next hne =>
      rw [if_neg fun hxp : x = p => hne (hxp ▸ hx)]
      exact h x hx

theorem KeyTrans.OwnerHeld.releaseAll {t : KeyTrans} (h : t.OwnerHeld) (ps : List (Fin 128)) :
    (t.releaseAll ps).OwnerHeld := by
  induction ps generalizing t with
  | nil => exact h
  | cons p ps ih => exact ih (h.release p)

theorem KeyTrans.OwnerHeld.press {t : KeyTrans} (h : t.OwnerHeld) (p : Fin 128) (k : Held) (owns : Bool) :
    (t.press p k owns).OwnerHeld := by
  intro x hx
  rw [press_held]
  split
  · rfl
  · next hne =>
    unfold KeyTrans.press at hx
    split at hx
    · cases hx
      exact absurd rfl hne
    · exact h x hx

theorem translateRelease_trans (d : Device) (l : Fin 16) (p : Fin 128) :
    (d.translateRelease l p).trans = upd d.trans l fun t => t.release p := by
  unfold Device.translateRelease
  split
  · next hp =>
    refine (upd_id d.trans l ?_).symm
    rw [KeyTrans.release, hp]
  · next h hp =>
    have hletGo : upd d.trans l (fun t => t.letGo p) = upd d.trans l fun t => t.release p :=
      upd_congr d.trans l (by rw [KeyTrans.release, hp])
    dsimp only
    split
    · rw [Device.updTrans_trans, Device.offer_trans, hletGo]
    · rw [Device.updTrans_trans, hletGo]

theorem releases_trans (d : Device) (l : Fin 16) (ps : List (Fin 128)) :
    (ps.foldl (fun d p => d.translateRelease l p) d).trans = upd d.trans l (KeyTrans.releaseAll ps) := by
  induction ps generalizing d with
  | nil => exact (upd_id _ l rfl).symm
  | cons p ps ih =>
    rw [List.foldl_cons, ih, translateRelease_trans, upd_upd]
    rfl

theorem latchKeys_trans (d : Device) (l : Fin 16) (ps : List (Fin 128)) :
    (ps.foldl (fun d p => d.latchKey l p) d).trans = upd d.trans l (KeyTrans.releaseAll ps) := by
  induction ps generalizing d with
  | nil => exact (upd_id _ l rfl).symm
  | cons p ps ih =>
    have hp : (d.latchKey l p).trans = upd d.trans l fun t => t.release p := translateRelease_trans d l p
    rw [List.foldl_cons, ih, hp, upd_upd]
    rfl

/-- The held record of a press made now (R62 to R65). -/
def Device.pressRecord (d : Device) (l : Fin 16) (p : Fin 128) : Held :=
  { layer := d.trans[l].layer, code := (d.keyEntry l d.trans[l].layer p).code, role := (d.keyEntry l 0 p).role
    repeats := (d.keyEntry l d.trans[l].layer p).repeats, wake := (d.keyEntry l d.trans[l].layer p).wake
    fate := pressFate d.lanes[l].state d.lanes[l].keyLock (d.keyEntry l d.trans[l].layer p) }

/-- The press makes its position the repeat owner (R69). -/
def Device.pressOwns (d : Device) (l : Fin 16) (p : Fin 128) : Bool :=
  decide ((d.pressRecord l p).fate = .reported) && (d.pressRecord l p).repeats

/-- A press translated, by the held record it makes. -/
theorem translatePress_eq (d : Device) (l : Fin 16) (p : Fin 128) (late : Bool) :
    d.translatePress l p late =
      let h := d.pressRecord l p
      let d1 := d.updTrans l fun t => { t with held := t.held.set p (some h) }
      match h.fate with
      | .suppressed | .muted => d1
      | .refused => d1.offer (laneQueue l) (keyNotice .keyRefused p h d.lanes[l].keyLock late)
      | .reported =>
        let d2 := d1.offer (laneQueue l) (keyNotice .keyPress p h d.lanes[l].keyLock late)
        let d3 := if d.lanes[l].state = .opened ∧ (d.keyEntry l h.layer p).tender then d2.tenderPress l else d2
        if h.repeats then d3.updTrans l fun t => t.takeOwner p else d3 := rfl

theorem translatePress_trans (d : Device) (l : Fin 16) (p : Fin 128) (late : Bool) :
    (d.translatePress l p late).trans = upd d.trans l fun t => t.press p (d.pressRecord l p) (d.pressOwns l p) := by
  have htold (x : Device) (c : Prop) [Decidable c] : (if c then x.tenderPress l else x).trans = x.trans := by
    split
    · exact tenderPress_touches x l .trans (by decide)
    · rfl
  rw [translatePress_eq, Device.pressOwns]
  dsimp only
  cases hf : (d.pressRecord l p).fate with
  | suppressed | muted =>
    rw [decide_eq_false (by decide)]
    rfl
  | refused =>
    rw [decide_eq_false (by decide)]
    exact Device.offer_trans _ _ _
  | reported =>
    rw [decide_eq_true rfl]
    dsimp only
    cases (d.pressRecord l p).repeats with
    | false =>
      rw [if_neg (by decide), htold, Device.offer_trans]
      rfl
    | true =>
      rw [if_pos rfl, Device.updTrans_trans, htold, Device.offer_trans, Device.updTrans_trans, upd_upd]
      rfl

/-- What the presses of a pass make of the lane's translator: records at their positions, and an owner that is held. -/
theorem presses_trans (d : Device) (l : Fin 16) (cs : List (Fin 128 × Bool)) :
    ∃ f : KeyTrans → KeyTrans, (cs.foldl (fun d c => d.translatePress l c.1 c.2) d).trans = upd d.trans l f ∧
      (∀ t x, ((f t).held[x]).isSome = (decide (x ∈ cs.map Prod.fst) || t.held[x].isSome)) ∧
      ∀ t : KeyTrans, t.OwnerHeld → (f t).OwnerHeld := by
  induction cs generalizing d with
  | nil => exact ⟨id, (upd_id _ l rfl).symm, by simp, fun _ h => h⟩
  | cons c cs ih =>
    have hc := translatePress_trans d l c.1 c.2
    obtain ⟨f, hf, hheld, howner⟩ := ih (d.translatePress l c.1 c.2)
    refine ⟨fun t => f (t.press c.1 (d.pressRecord l c.1) (d.pressOwns l c.1)), ?_, fun t x => ?_,
      fun t ht => howner _ (ht.press _ _ _)⟩
    · rw [List.foldl_cons, hf, hc, upd_upd]
      rfl
    · rw [hheld, press_held]
      by_cases hx : x = c.1
      · simp [hx]
      · simp [hx]

theorem updCountdown_trans (d : Device) (l : Fin 16) (f : KeyTrans → Nat) :
    (d.updTrans l fun t => { t with countdown := f t }).trans =
      upd d.trans l fun t => { t with countdown := f d.trans[l] } :=
  upd_congr (f := fun t => { t with countdown := f t }) (g := fun t => { t with countdown := f d.trans[l] }) d.trans l rfl

theorem advanceRepeat_trans (d : Device) (l : Fin 16) (presses : List (Fin 128 × Bool)) :
    ∃ n, (d.advanceRepeat l presses).trans = upd d.trans l fun t => { t with countdown := n } := by
  have hid : d.trans = upd d.trans l fun t => { t with countdown := d.trans[l].countdown } := (upd_id d.trans l rfl).symm
  unfold Device.advanceRepeat
  dsimp only
  split
  · exact ⟨_, hid⟩
  · split
    · exact ⟨_, hid⟩
    · split
      · exact ⟨_, updCountdown_trans d l fun t => t.countdown - 1⟩
      · split
        · exact ⟨_, updCountdown_trans d l KeyTrans.periodPasses⟩
        · split
          · exact ⟨_, updCountdown_trans d l KeyTrans.periodPasses⟩
          · exact ⟨_, (Device.offer_trans _ _ _).trans (updCountdown_trans d l KeyTrans.periodPasses)⟩

/-! ### The press step (R39) -/

/-- How many keys are PRESSED. -/
def pressedIn (keys : Table KeyState 128) : Nat := ((List.finRange 128).filter fun p => keys[p] == .pressed).length

theorem countKeys_pressed (m : LaneScan) : m.countKeys .pressed = pressedIn m.keys := rfl

/-- How many keys other than `c` are PRESSED, counted without looking at `c`. -/
theorem pressedIn_split (keys : Table KeyState 128) (c : Fin 128) : pressedIn keys =
    ((List.finRange 128).erase c).countP (fun p => keys[p] == .pressed) + if keys[c] = .pressed then 1 else 0 := by
  unfold pressedIn
  rw [← List.countP_eq_length_filter, (List.perm_cons_erase (List.mem_finRange c)).countP_eq, List.countP_cons]
  simp only [beq_iff_eq]

theorem pressedIn_set (keys : Table KeyState 128) (c : Fin 128) (k : KeyState) (h : keys[c] ≠ .pressed) :
    pressedIn (keys.set c k) = pressedIn keys + if k = .pressed then 1 else 0 := by
  have hrest : ((List.finRange 128).erase c).countP (fun p => (keys.set c k)[p] == .pressed) =
      ((List.finRange 128).erase c).countP fun p => keys[p] == .pressed := by
    refine List.countP_congr fun p hp => ?_
    have hne : p ≠ c := fun heq => (List.nodup_finRange 128).not_mem_erase (heq ▸ hp)
    rw [set_getElem, if_neg hne]
  rw [pressedIn_split _ c, pressedIn_split keys c, hrest, set_getElem, if_pos rfl, if_neg h]
  rfl

/-- What the press step does with the candidates `cs`, from the keys and the count it begins with. -/
structure PressStep.Done (limit : Nat) (a : PressStep) (cs : List (Fin 128 × Bool)) (b : PressStep) : Prop where
  others : ∀ p : Fin 128, p ∉ cs.map Prod.fst → b.keys[p] = a.keys[p]
  settled : ∀ p : Fin 128, p ∈ cs.map Prod.fst → b.keys[p] = .pressed ∨ b.keys[p] = .blocked
  full : ∀ p : Fin 128, p ∈ cs.map Prod.fst → b.keys[p] = .blocked → limit ≤ b.count
  presses : b.presses = a.presses ++ cs.filter fun c => b.keys[c.1] == .pressed
  within : a.count ≤ limit → b.count ≤ limit
  grows : a.count ≤ b.count
  counted : a.count = pressedIn a.keys → b.count = pressedIn b.keys

theorem PressStep.next_keys (limit : Nat) (a : PressStep) (c : Fin 128 × Bool) (p : Fin 128) :
    (a.next limit c).keys[p] = if p = c.1 then (if a.count < limit then .pressed else .blocked) else a.keys[p] := by
  unfold PressStep.next
  split
  · exact set_getElem a.keys c.1 p .pressed
  · exact set_getElem a.keys c.1 p .blocked

theorem PressStep.next_count (limit : Nat) (a : PressStep) (c : Fin 128 × Bool) :
    (a.next limit c).count = a.count + if a.count < limit then 1 else 0 := by
  unfold PressStep.next
  split <;> rfl

theorem PressStep.next_counted {limit : Nat} {a : PressStep} {c : Fin 128 × Bool} (hc : a.keys[c.1] ≠ .pressed)
    (h : a.count = pressedIn a.keys) : (a.next limit c).count = pressedIn (a.next limit c).keys := by
  unfold PressStep.next
  split
  · exact (congrArg (· + 1) h).trans (pressedIn_set a.keys c.1 .pressed hc).symm
  · exact h.trans (pressedIn_set a.keys c.1 .blocked hc).symm

theorem pressAll_done (limit : Nat) (cs : List (Fin 128 × Bool)) (a : PressStep) (hnodup : (cs.map Prod.fst).Nodup)
    (hfree : ∀ c ∈ cs, a.keys[c.1] ≠ .pressed) : PressStep.Done limit a cs (cs.foldl (PressStep.next limit) a) := by
  induction cs generalizing a with
  | nil => exact ⟨fun _ _ => rfl, by simp, by simp, by simp, id, le_rfl, id⟩
  | cons c cs ih =>
    rw [List.map_cons, List.nodup_cons] at hnodup
    obtain ⟨hc, hnodup⟩ := hnodup
    have hcount := a.next_count limit c
    have hne (p : Fin 128) (hp : p ∈ cs.map Prod.fst) : p ≠ c.1 := fun heq => hc (heq ▸ hp)
    have hrest := ih (a.next limit c) hnodup fun x hx => by
      rw [PressStep.next_keys, if_neg (hne x.1 (List.mem_map_of_mem hx))]
      exact hfree x (List.mem_cons_of_mem c hx)
    have hhead : (cs.foldl (PressStep.next limit) (a.next limit c)).keys[c.1] =
        if a.count < limit then .pressed else .blocked := by
      rw [hrest.others c.1 hc, PressStep.next_keys, if_pos rfl]
    rw [List.foldl_cons]
    constructor
    case others =>
      intro p hp
      rw [List.map_cons, List.mem_cons, not_or] at hp
      rw [hrest.others p hp.2, PressStep.next_keys, if_neg hp.1]
    case settled =>
      intro p hp
      rcases List.mem_cons.mp hp with rfl | hp
      · rw [hhead]
        split <;> simp
      · exact hrest.settled p hp
    case full =>
      intro p hp hblocked
      rcases List.mem_cons.mp hp with rfl | hp
      · rw [hhead] at hblocked
        split at hblocked
        · cases hblocked
        · next hfull => exact (not_lt.mp hfull).trans ((hcount ▸ Nat.le_add_right _ _).trans hrest.grows)
      · exact hrest.full p hp hblocked
    case presses =>
      rw [hrest.presses, List.filter_cons, hhead]
      unfold PressStep.next
      split
      · simp
      · simp
    case within =>
      intro hle
      refine hrest.within ?_
      rw [hcount]
      split <;> omega
    case grows => exact (hcount ▸ Nat.le_add_right _ _).trans hrest.grows
    case counted => exact fun h => hrest.counted (PressStep.next_counted (hfree c List.mem_cons_self) h)

theorem candidates_nodup (m : LaneScan) (debounce : Nat) (dead : Fin 128 → Bool) :
    ((m.candidates debounce dead).map Prod.fst).Nodup := by
  unfold LaneScan.candidates
  rw [List.map_append, List.map_map, List.map_map]
  refine List.Nodup.append ?_ ?_ ?_
  · simpa [Function.comp_def] using (List.nodup_finRange 128).filter _
  · simpa [Function.comp_def] using (List.nodup_finRange 128).filter _
  · intro p hblocked hreleased
    simp [Function.comp_def] at hblocked hreleased
    rw [hblocked.1] at hreleased
    cases hreleased.1.1

theorem mem_candidates (m : LaneScan) (debounce : Nat) (dead : Fin 128 → Bool) (p : Fin 128) (late : Bool) :
    (p, late) ∈ m.candidates debounce dead ↔ m.integ[p] = debounce ∧
      ((m.keys[p] = .blocked ∧ late = true) ∨ (m.keys[p] = .released ∧ dead p = false ∧ late = false)) := by
  unfold LaneScan.candidates
  cases late <;> simp [and_comm, and_left_comm]

/-- What the press step makes of a lane whose release step is done. -/
theorem pressStep_done (m : LaneScan) (g : Settings) (dead : Fin 128 → Bool) :
    PressStep.Done g.rollover { keys := m.keys, count := m.countKeys .pressed, presses := [] }
      (m.candidates g.debounce dead) (m.pressStep g dead) := by
  refine pressAll_done _ _ _ (candidates_nodup m _ dead) fun c hc hpressed => ?_
  rcases ((mem_candidates m _ dead c.1 c.2).mp hc).2 with ⟨hkey, -⟩ | ⟨hkey, -⟩
  · exact absurd (hkey.symm.trans hpressed) (by decide)
  · exact absurd (hkey.symm.trans hpressed) (by decide)

/-! ### The translator's part of the lane operations -/

/-- Nd and Nr computed from the settings that are adopted, if any are (R68). -/
def KeyTrans.retimed (g : Option Settings) (t : KeyTrans) : KeyTrans :=
  match g with
  | none => t
  | some g => { t with delayPasses := g.delayPasses, periodPasses := g.periodPasses }

theorem retimed_held (g : Option Settings) (t : KeyTrans) : (t.retimed g).held = t.held := by cases g <;> rfl

theorem retimed_owner (g : Option Settings) (t : KeyTrans) : (t.retimed g).owner = t.owner := by cases g <;> rfl

theorem adopt_trans (d : Device) (l : Fin 16) :
    (d.adopt l).trans = upd d.trans l (KeyTrans.retimed d.lanes[l].pendingSet) := by
  unfold Device.adopt
  split
  · next h => exact (upd_id d.trans l (f := KeyTrans.retimed d.lanes[l].pendingSet) (by rw [h]; rfl)).symm
  · next g h =>
    rw [h]
    rfl

theorem windDown_trans (d : Device) (l : Fin 16) : (d.windDown l).trans =
    upd d.trans l fun t => (t.releaseAll (d.scanner.lanes[l].positions .pressed)).clearOwner := by
  have hwithdraw : (d.withdrawPass l).trans = d.trans := rfl
  unfold Device.windDown
  dsimp only
  split
  · rw [Device.tellPorts_trans, Device.updTrans_trans, Device.updScan_trans, releases_trans, hwithdraw, upd_upd]
    rfl
  · rw [Device.updTrans_trans, Device.updScan_trans, releases_trans, hwithdraw, upd_upd]
    rfl

theorem depart_trans (d : Device) (l : Fin 16) (dest : LaneState) (c : LaneCause) : (d.depart l dest c).trans =
    upd d.trans l fun t =>
      ((t.releaseAll (d.scanner.lanes[l].positions .pressed)).clearOwner).retimed d.lanes[l].pendingSet := by
  have hpending : ((((d.windDown l).setLaneState l dest).updLane l fun r => { r.closeWindow with watchTimer := some 8 }).offerLaneState
      l dest c).lanes[l].pendingSet = d.lanes[l].pendingSet := by
    rw [Device.offerLaneState_lanes, Device.updLane_lanes, upd_getElem_self, setLaneState_lanes, upd_getElem_self,
      windDown_touches d l .lanes (by decide)]
    rfl
  have hadopt : ((((((d.windDown l).setLaneState l dest).updLane l fun r =>
      { r.closeWindow with watchTimer := some 8 }).offerLaneState l dest c).adopt l).trans =
      upd d.trans l fun t =>
        ((t.releaseAll (d.scanner.lanes[l].positions .pressed)).clearOwner).retimed d.lanes[l].pendingSet) := by
    rw [adopt_trans, hpending, Device.offerLaneState_trans, Device.updLane_trans, Device.setLaneState_trans,
      windDown_trans, upd_upd]
    rfl
  unfold Device.depart
  dsimp only
  rw [Device.departKeymap_trans]
  split
  · rw [Device.updLane_trans, hadopt]
  · exact hadopt

theorem resetLane_trans (d : Device) (l : Fin 16) : (d.resetLane l).trans = upd d.trans l fun t =>
    { t.clearOwner with held := Vector.replicate 128 none }.retimed d.lanes[l].pendingSet := by
  have hempty : (d.emptyQueue (laneQueue l)).trans = d.trans := emptyQueue_touches d _ .trans (by decide)
  have hlanes : ((d.emptyQueue (laneQueue l)).clearRuntime l).lanes = d.lanes :=
    ((emptyQueue_touches d _).seq (clearRuntime_touches _ l)) .lanes (by decide)
  have hclear (x : Device) : (x.clearRuntime l).trans =
      upd x.trans l fun t => { t.clearOwner with held := Vector.replicate 128 none } := rfl
  unfold Device.resetLane
  dsimp only
  rw [Device.departKeymap_trans, Device.updLamp_trans, Device.updGen_trans]
  refine Eq.trans (abortAll_touches _ _ 3 .trans (by decide)) ?_
  rw [Device.offerLaneState_trans, Device.updLane_trans, adopt_trans, setLaneState_lanes, upd_getElem_self,
    Device.updLane_lanes, upd_getElem_self, hlanes, Device.setLaneState_trans, Device.updLane_trans, hclear, hempty,
    upd_upd]
  rfl

theorem overLimit_congr {m m' : LaneScan} (h : m'.keys = m.keys) (limit : Nat) : m'.overLimit limit = m.overLimit limit := by
  unfold LaneScan.overLimit LaneScan.countKeys LaneScan.positions
  rw [h]

theorem applyAdopted_trans (d : Device) (l : Fin 16) : (d.applyAdopted l).trans =
    upd d.trans l (KeyTrans.releaseAll (d.scanner.lanes[l].overLimit d.lanes[l].active.rollover)) := by
  have hkeys (f : Nat → Nat) (n : Nat) :
      (d.updScan l fun m => { m with integ := mapTab m.integ f }).scanner.lanes[l].overLimit n =
        d.scanner.lanes[l].overLimit n := by
    refine overLimit_congr ?_ n
    rw [Device.updScan, Device.updScanner_scanner, upd_getElem_self]
  unfold Device.applyAdopted
  dsimp only
  rw [latchKeys_trans, hkeys, Device.updScan_trans]

theorem startPass_trans (d : Device) (l : Fin 16) : (d.startPass l).trans =
    match d.lanes[l].pendingSet with
    | none => d.trans
    | some g => upd d.trans l fun t => (t.retimed (some g)).releaseAll (d.scanner.lanes[l].overLimit g.rollover) := by
  have htake : (d.takePass l).trans = d.trans := rfl
  have hlanes : (d.takePass l).lanes = d.lanes := rfl
  have hkeys (n : Nat) : (d.takePass l).scanner.lanes[l].overLimit n = d.scanner.lanes[l].overLimit n := by
    have hscan : (d.takePass l).scanner.lanes[l] = { d.scanner.lanes[l] with waiting := false, discard := false } :=
      upd_getElem_self _ _ _
    rw [hscan]
    exact overLimit_congr rfl n
  rw [startPass_eq, Device.updScanner_trans, Device.refit]
  cases hg : d.lanes[l].pendingSet with
  | none =>
    rw [hlanes, hg, if_neg (by decide)]
    rfl
  | some g =>
    rw [hlanes, hg, if_pos (by rfl), applyAdopted_trans, Device.adopt_scanner, hkeys, adopt_lanes, upd_getElem_self,
      adopted_active, adopt_trans, htake, hlanes, hg, upd_upd]
    rfl

theorem forcedSwitch_trans (d : Device) {l : Fin 16} {x : Nat} {i : Fin 8}
    (hx : d.keymaps.lanes[l].switchTimer = some x) (hi : d.keymaps.lanes[l].pendingImg = some i) :
    (forcedSwitch l d).trans = upd d.trans l (KeyTrans.releaseAll (d.scanner.lanes[l].positions .pressed)) := by
  unfold forcedSwitch
  rw [hx, hi]
  dsimp only
  rw [Device.switchKeymap_trans, Device.updScan_trans, latchKeys_trans]

/-- The keys that a pass releases (R38). -/
def LaneScan.released (m : LaneScan) (g : Settings) (raw : BitVec 128) : List (Fin 128) :=
  (m.positions .pressed).filter fun p => (m.sampled g raw).keys[p] == .released

/-- The pass-end notice: records stand at its presses and at the positions it does not release. -/
theorem passNotice_trans (d : Device) (l : Fin 16) (rs : List (Fin 128)) (cs : List (Fin 128 × Bool)) :
    ∃ f : KeyTrans → KeyTrans, (d.passNotice l rs cs).trans = upd d.trans l f ∧
      (∀ t x, ((f t).held[x]).isSome =
        (decide (x ∈ cs.map Prod.fst) || (if x ∈ rs then none else t.held[x]).isSome)) ∧
      ∀ t : KeyTrans, t.OwnerHeld → (f t).OwnerHeld := by
  obtain ⟨f, hf, hheld, howner⟩ := presses_trans (rs.foldl (fun d p => d.translateRelease l p) d) l cs
  obtain ⟨n, hn⟩ := advanceRepeat_trans
    (cs.foldl (fun d c => d.translatePress l c.1 c.2) (rs.foldl (fun d p => d.translateRelease l p) d)) l cs
  refine ⟨fun t => { f (t.releaseAll rs) with countdown := n }, ?_, fun t x => ?_, fun t ht => howner _ (ht.releaseAll rs)⟩
  · refine hn.trans ?_
    rw [hf, releases_trans, upd_upd, upd_upd]
    rfl
  · rw [← releaseAll_held]
    exact hheld _ x

/-- The presses that a pass makes, in order, each with whether it is LATE (R39, R40). -/
def LaneScan.pressesMade (m : LaneScan) (g : Settings) (raw : BitVec 128) (dead : Fin 128 → Bool) : List (Fin 128 × Bool) :=
  ((m.sampled g raw).pressStep g dead).presses

/-- A pass, by what it makes of the lane's part of the scanner and what it hands to the translator. -/
theorem completePass_eq (d : Device) (l : Fin 16) (raw : BitVec 128) (lock : KeyLock) : d.completePass l raw lock =
    (((d.updScan l fun _ => d.scanner.lanes[l].passed d.lanes[l].active raw (d.dead l)).sampleLock l lock).passNotice l
      (d.scanner.lanes[l].released d.lanes[l].active raw)
      (d.scanner.lanes[l].pressesMade d.lanes[l].active raw (d.dead l))).quietSwitch l := rfl

theorem completePass_trans (d : Device) (l : Fin 16) (raw : BitVec 128) (lock : KeyLock) :
    ∃ f : KeyTrans → KeyTrans, (d.completePass l raw lock).trans = upd d.trans l f ∧
      (∀ t x, ((f t).held[x]).isSome =
        (decide (x ∈ (d.scanner.lanes[l].pressesMade d.lanes[l].active raw (d.dead l)).map Prod.fst) ||
          (if x ∈ d.scanner.lanes[l].released d.lanes[l].active raw then none else t.held[x]).isSome)) ∧
      ∀ t : KeyTrans, t.OwnerHeld → (f t).OwnerHeld := by
  obtain ⟨f, hf, hkeep⟩ := passNotice_trans
    ((d.updScan l fun _ => d.scanner.lanes[l].passed d.lanes[l].active raw (d.dead l)).sampleLock l lock) l
    (d.scanner.lanes[l].released d.lanes[l].active raw)
    (d.scanner.lanes[l].pressesMade d.lanes[l].active raw (d.dead l))
  rw [Device.sampleLock_trans, Device.updScan_trans] at hf
  rw [completePass_eq]
  exact ⟨f, Eq.trans (quietSwitch_touches _ l .trans (by decide)) hf, hkeep⟩

end Sys2Proof.Machine

/-! ## Lanes and keyboards stay sound (R12, R15, R16, R18, R36, R39, R61, R69) -/

namespace Sys2Proof.LanesKept

open Sys2Proof.Machine Sys2Proof.Safety Sys2Proof.QueueBounds

/-! ### The lane records -/

/-- What `LaneSound` asks of one lane. -/
structure RecOk (r : LaneRec) : Prop where
  watch : r.watchTimer.isSome ↔ r.state.scanning = false
  window : r.windowOpen = true → r.state = .opened ∧ r.keyLock ≠ .locked
  monitor : r.wakeMonitor = true ↔ r.state = .closed ∧ r.active.wake = true
  stopped : r.wakeMonitor = false → r.wakeRef = none ∧ r.wakeHoldOff = 0
  due : r.wakeDue = true → r.wakeMonitor = true

theorem laneSound_iff (d : Device) : LaneSound d ↔ Fit RecOk d.lanes := by
  constructor
  · intro h l
    obtain ⟨hwatch, hwindow, hmonitor, hstopped, hdue⟩ := h l
    exact ⟨hwatch, hwindow, hmonitor, hstopped, hdue⟩
  · intro h l
    exact ⟨(h l).watch, (h l).window, (h l).monitor, (h l).stopped, (h l).due⟩

theorem scanning_eq_false (s : LaneState) : s.scanning = false ↔ s = .closed ∨ s = .faulted := by
  cases s <;> simp [LaneState.scanning]

theorem scanning_eq_true (s : LaneState) : s.scanning = true ↔ s = .opened ∨ s = .suspended := by
  cases s <;> simp [LaneState.scanning]

theorem RecOk.idle {r : LaneRec} (h : RecOk r) (hs : r.state ≠ .closed) : r.wakeMonitor = false := by
  cases hm : r.wakeMonitor with
  | false => rfl
  | true => exact absurd (h.monitor.mp hm).1 hs

theorem RecOk.closeWindow {r : LaneRec} (h : RecOk r) : RecOk r.closeWindow :=
  ⟨h.watch, nofun, h.monitor, h.stopped, h.due⟩

theorem RecOk.adopted {r : LaneRec} (h : RecOk r) : RecOk r.adopted := by
  unfold LaneRec.adopted
  split
  · exact h
  · next g _ =>
    unfold LaneRec.adoptWake
    dsimp only
    split
    · next hw =>
      exact ⟨h.watch, h.window, by simpa [LaneRec.stopWake] using fun _ => hw, fun _ => ⟨rfl, rfl⟩,
        by simp [LaneRec.stopWake]⟩
    · next hw =>
      rw [not_not] at hw
      split
      · next hc =>
        exact ⟨h.watch, h.window, ⟨fun _ => ⟨hc.1, hw⟩, fun _ => rfl⟩, by simp [LaneRec.startWake],
          by simp [LaneRec.startWake]⟩
      · next hc =>
        refine ⟨h.watch, h.window, ⟨fun hm => ⟨(h.monitor.mp hm).1, hw⟩, fun hm => ?_⟩, h.stopped, h.due⟩
        by_contra hoff
        exact hc ⟨hm.1, hoff⟩

/-- A record that stands in CLOSED, its window closed and its watch timer running, is sound once its monitor is set
as R18 asks. -/
theorem recOk_closed {r : LaneRec} (hstate : r.state = .closed) (hwatch : r.watchTimer.isSome)
    (hwindow : r.windowOpen = false) : RecOk r.enterClosedWake := by
  unfold LaneRec.enterClosedWake
  split
  · next hw =>
    exact ⟨by simp [LaneRec.startWake, hwatch, hstate, LaneState.scanning], by simp [LaneRec.startWake, hwindow],
      by simp [LaneRec.startWake, hstate, hw], by simp [LaneRec.startWake], by simp [LaneRec.startWake]⟩
  · next hw =>
    exact ⟨by simp [LaneRec.stopWake, hwatch, hstate, LaneState.scanning], by simp [LaneRec.stopWake, hwindow],
      by simpa [LaneRec.stopWake] using fun _ => hw, fun _ => ⟨rfl, rfl⟩, by simp [LaneRec.stopWake]⟩

theorem adopted_keeps (r : LaneRec) : r.adopted.watchTimer = r.watchTimer ∧ r.adopted.windowOpen = r.windowOpen := by
  unfold LaneRec.adopted LaneRec.adoptWake
  split
  · exact ⟨rfl, rfl⟩
  · split
    · exact ⟨rfl, rfl⟩
    · split <;> exact ⟨rfl, rfl⟩

/-- A lane that does not run its wake monitor leaves for CLOSED or FAULT. -/
theorem RecOk.departed {r : LaneRec} (h : RecOk r) (hs : r.state ≠ .closed) {dest : LaneState}
    (hd : dest = .closed ∨ dest = .faulted) : RecOk (LaneRec.departed dest r) := by
  have hleft := adopted_keeps { { r with state := dest }.closeWindow with watchTimer := some 8 }
  have hoff := h.idle hs
  unfold LaneRec.departed
  dsimp only
  rcases hd with rfl | rfl
  · rw [if_pos rfl]
    exact recOk_closed (adopted_state _) (hleft.1 ▸ rfl) hleft.2
  · rw [if_neg (by decide)]
    exact RecOk.adopted (r := { { r with state := .faulted }.closeWindow with watchTimer := some 8 })
      ⟨by simp [LaneState.scanning, LaneRec.closeWindow], by simp [LaneRec.closeWindow], by simp [LaneRec.closeWindow, hoff], h.stopped, h.due⟩

theorem RecOk.wiped (r : LaneRec) : RecOk r.wiped := by
  have hleft := adopted_keeps { r.laneReset with state := .closed }
  exact recOk_closed (adopted_state _) (hleft.1 ▸ rfl) hleft.2

theorem RecOk.opened {r : LaneRec} (h : RecOk r) (hs : r.state = .closed) :
    RecOk { { r with state := .opened }.stopWake with watchTimer := none } where
  watch := by simp [LaneRec.stopWake, LaneState.scanning]
  window hw := by
    have hopen := (h.window hw).1
    rw [hs] at hopen
    cases hopen
  monitor := by simp [LaneRec.stopWake]
  stopped _ := ⟨rfl, rfl⟩
  due := by simp [LaneRec.stopWake]

theorem RecOk.suspended {r : LaneRec} (h : RecOk r) (hs : r.state = .opened) :
    RecOk { r with state := .suspended }.closeWindow where
  watch := by simpa [LaneRec.closeWindow, LaneState.scanning, hs] using h.watch
  window hw := by cases hw
  monitor := by simp [LaneRec.closeWindow, h.idle (by rw [hs]; decide)]
  stopped := h.stopped
  due := h.due

theorem RecOk.resumed {r : LaneRec} (h : RecOk r) (hs : r.state = .suspended) : RecOk { r with state := .opened } where
  watch := by simpa [LaneState.scanning, hs] using h.watch
  window hw := by
    have hopen := (h.window hw).1
    rw [hs] at hopen
    cases hopen
  monitor := by simp [h.idle (by rw [hs]; decide)]
  stopped := h.stopped
  due := h.due

theorem RecOk.closedFaulted {r : LaneRec} (h : RecOk r) (hs : r.state = .faulted) :
    RecOk { r with state := .closed }.enterClosedWake := by
  refine recOk_closed rfl (h.watch.mpr (by rw [hs]; rfl)) ?_
  refine Bool.eq_false_iff.mpr fun hw => ?_
  have hopen := (h.window hw).1
  rw [hs] at hopen
  cases hopen

/-! ### The key lock, the tender window and the wake monitor -/

theorem acceptLock_lanes {d : Device} (h : Fit RecOk d.lanes) (l : Fin 16) (k : KeyLock) :
    Fit RecOk (d.acceptLock l k).lanes := by
  have hset : Fit RecOk (d.updLane l fun r =>
      let r := { r with keyLock := k, settled := true, lockCandidate := none, lockCount := 0 }
      if k = .locked then r.closeWindow else r).lanes := by
    refine h.upd l ?_
    have hr := h l
    split
    · exact ⟨hr.watch, nofun, hr.monitor, hr.stopped, hr.due⟩
    · next hk => exact ⟨hr.watch, fun hw => ⟨(hr.window hw).1, hk⟩, hr.monitor, hr.stopped, hr.due⟩
  unfold Device.acceptLock
  dsimp only
  split
  · rw [Device.offer_lanes]
    exact hset
  · exact hset

/-- A change of the lock filter alone. -/
theorem filterLock_lanes {d : Device} (h : Fit RecOk d.lanes) (l : Fin 16) (c : Option KeyLock) (n : Nat) :
    Fit RecOk (d.updLane l fun r => { r with lockCandidate := c, lockCount := n }).lanes :=
  h.upd l ⟨(h l).watch, (h l).window, (h l).monitor, (h l).stopped, (h l).due⟩

theorem sampleLock_lanes {d : Device} (h : Fit RecOk d.lanes) (l : Fin 16) (k : KeyLock) :
    Fit RecOk (d.sampleLock l k).lanes := by
  unfold Device.sampleLock
  dsimp only
  split
  · exact filterLock_lanes h l none 0
  · split
    · split
      · exact filterLock_lanes h l _ _
      · exact acceptLock_lanes h l k
    · split
      · exact filterLock_lanes h l _ _
      · exact acceptLock_lanes h l k

theorem wakeReading_lanes {d : Device} (h : Fit RecOk d.lanes) {l : Fin 16} (hl : d.lanes[l].wakeMonitor = true)
    (raw : Byte) : Fit RecOk (d.wakeReading l raw).lanes := by
  have hr := h l
  have hon {P : Prop} : d.lanes[l].wakeMonitor = false → P := fun hoff => by
    rw [hl] at hoff
    cases hoff
  have hread (new : Byte) : Fit RecOk (d.updLane l fun r => { r with wakeRef := some new, wakeDue := false }).lanes :=
    h.upd l ⟨hr.watch, hr.window, hr.monitor, hon, nofun⟩
  have hheld (new : Byte) : Fit RecOk ((d.updLane l fun r => { r with wakeRef := some new, wakeDue := false }).updLane l
      fun r => { r with wakeHoldOff := 2000 }).lanes := by
    rw [Device.updLane_lanes, Device.updLane_lanes, upd_upd]
    exact h.upd l ⟨hr.watch, hr.window, hr.monitor, hon, nofun⟩
  unfold Device.wakeReading
  dsimp only
  split
  · exact hread _
  · split
    · rw [Device.offer_lanes]
      exact hheld _
    · exact hread _

theorem wakeReading_upd (d : Device) (l : Fin 16) (raw : Byte) : ∃ f, (d.wakeReading l raw).lanes = upd d.lanes l f := by
  unfold Device.wakeReading
  dsimp only
  split
  · exact ⟨_, Device.updLane_lanes d l _⟩
  · split
    · rw [Device.offer_lanes, Device.updLane_lanes, Device.updLane_lanes, upd_upd]
      exact ⟨_, rfl⟩
    · exact ⟨_, Device.updLane_lanes d l _⟩

/-- Reading one lane's wake monitor leaves every other lane as it is. -/
theorem wakeReading_other (d : Device) (l : Fin 16) (raw : Byte) {m : Fin 16} (hm : m ≠ l) :
    (d.wakeReading l raw).lanes[m] = d.lanes[m] := by
  obtain ⟨f, hf⟩ := wakeReading_upd d l raw
  rw [hf, upd_getElem_ne _ _ hm]

theorem readings_lanes {ls : List (Fin 16)} (hnodup : ls.Nodup) (wake : BitVec 128) {d : Device}
    (h : Fit RecOk d.lanes) (hls : ∀ l ∈ ls, d.lanes[l].wakeMonitor = true) :
    Fit RecOk (ls.foldl (fun d l => d.wakeReading l (wakeRows wake l)) d).lanes := by
  induction ls generalizing d with
  | nil => exact h
  | cons l ls ih =>
    rw [List.nodup_cons] at hnodup
    refine ih hnodup.2 (wakeReading_lanes h (hls l List.mem_cons_self) _) fun m hm => ?_
    have hne : m ≠ l := fun heq => hnodup.1 (heq ▸ hm)
    rw [wakeReading_other d l _ hne]
    exact hls m (List.mem_cons_of_mem l hm)

theorem takeDueReadings_lanes {d : Device} (h : Fit RecOk d.lanes) (wake : BitVec 128) :
    Fit RecOk (d.takeDueReadings wake).lanes := by
  refine readings_lanes ((List.nodup_finRange 16).filter _) wake h fun l hl => (h l).due ?_
  simpa using hl

theorem closeWindow_lanes {d : Device} (h : Fit RecOk d.lanes) (l : Fin 16) :
    Fit RecOk (d.updLane l LaneRec.closeWindow).lanes := h.upd l (h l).closeWindow

theorem interlock_lanes {d : Device} (h : Fit RecOk d.lanes) (l : Fin 16) : Fit RecOk (d.interlock l).1.lanes := by
  have htest : Fit RecOk (d.testAndConsume l).1.lanes := by
    unfold Device.testAndConsume
    split
    · exact closeWindow_lanes h l
    · exact h
  unfold Device.interlock
  split
  · split
    · exact h
    · exact h
    · exact htest
    · exact h
  · exact h
  · exact h
  · exact h

theorem requestKick_lanes {d : Device} (h : Fit RecOk d.lanes) (n : Fin 32) (o : Origin) :
    Fit RecOk (d.requestKick n o).1.lanes := by
  have hrefuse (x : Device) (hx : Fit RecOk x.lanes) (w : KickRefusal) : Fit RecOk (x.refuseKick n o w).lanes :=
    hx.same (refuseKick_touches x n o w .lanes (by decide))
  have hinter := interlock_lanes h (laneOf n)
  unfold Device.requestKick
  dsimp only
  split
  · exact hrefuse d h _
  · split
    · exact h
    · split
      · exact hrefuse d h _
      · split
        · exact hrefuse d h _
        · split
          · exact hinter
          · exact hrefuse _ hinter _

theorem tenderPress_lanes {d : Device} (h : Fit RecOk d.lanes) {l : Fin 16} (hs : d.lanes[l].state = .opened)
    (hk : d.lanes[l].keyLock ≠ .locked) : Fit RecOk (d.tenderPress l).lanes := by
  have hopen : Fit RecOk (d.updLane l LaneRec.openWindow).lanes :=
    h.upd l ⟨(h l).watch, fun _ => ⟨hs, hk⟩, (h l).monitor, (h l).stopped, (h l).due⟩
  unfold Device.tenderPress
  dsimp only
  split
  · exact requestKick_lanes hopen _ _
  · exact hopen

theorem pressFate_reported {s : LaneState} {k : KeyLock} {e : KeyEntry} (h : pressFate s k e = .reported)
    (hs : s = .opened) : k ≠ .locked := by
  rintro rfl
  rw [pressFate, if_pos ⟨hs, rfl⟩] at h
  cases h

theorem translatePress_lanes {d : Device} (h : Fit RecOk d.lanes) (l : Fin 16) (p : Fin 128) (late : Bool) :
    Fit RecOk (d.translatePress l p late).lanes := by
  rw [translatePress_eq]
  dsimp only
  split
  · exact h
  · exact h
  · exact h.same (Device.offer_lanes _ _ _)
  · next hf =>
    have htender (x : Device) (hx : x.lanes = d.lanes) (c : Bool) :
        Fit RecOk (if d.lanes[l].state = .opened ∧ c = true then x.tenderPress l else x).lanes := by
      split
      · next hs =>
        refine tenderPress_lanes (h.same hx) ?_ ?_
        · rw [hx]
          exact hs.1
        · rw [hx]
          exact pressFate_reported hf hs.1
      · exact h.same hx
    have htold := htender ((d.updTrans l fun t => { t with held := t.held.set p (some (d.pressRecord l p)) }).offer
      (laneQueue l) (keyNotice .keyPress p (d.pressRecord l p) d.lanes[l].keyLock late)) (Device.offer_lanes _ _ _)
      (d.keyEntry l (d.pressRecord l p).layer p).tender
    split
    · rw [Device.updTrans_lanes]
      exact htold
    · exact htold

theorem passNotice_lanes {d : Device} (h : Fit RecOk d.lanes) (l : Fin 16) (rs : List (Fin 128))
    (cs : List (Fin 128 × Bool)) : Fit RecOk (d.passNotice l rs cs).lanes := by
  have hreleases : Fit RecOk (rs.foldl (fun d p => d.translateRelease l p) d).lanes :=
    h.same (releases_touches d l rs .lanes (by decide))
  have hpresses := CountsKept.foldl_keeps (P := fun d : Device => Fit RecOk d.lanes)
    (f := fun d (c : Fin 128 × Bool) => d.translatePress l c.1 c.2) (fun _ c hd => translatePress_lanes hd l c.1 c.2) cs
    hreleases
  exact hpresses.same (advanceRepeat_touches _ l cs .lanes (by decide))

theorem passEnd_lanes {d : Device} (h : Fit RecOk d.lanes) (raw : BitVec 128) (lock : KeyLock) (wake : BitVec 128) :
    Fit RecOk (passEnd raw lock wake d).lanes := by
  have hcomplete (l : Fin 16) : Fit RecOk (d.completePass l raw lock).lanes := by
    have hsampled := sampleLock_lanes (d := d.updScan l fun _ =>
      d.scanner.lanes[l].passed d.lanes[l].active raw (d.dead l)) h l lock
    rw [completePass_eq]
    exact (passNotice_lanes hsampled l _ _).same (quietSwitch_touches _ l .lanes (by decide))
  unfold passEnd
  split
  · exact h
  · dsimp only
    refine takeDueReadings_lanes ?_ wake
    rw [Device.updScanner_lanes]
    split
    · rwa [Device.updScan_lanes]
    · exact hcomplete _

theorem watchPoint_lanes {d : Device} (h : Fit RecOk d.lanes) (a b : Bool) (rows : Byte) (l : Fin 16) :
    Fit RecOk (watchPoint a b rows l d).lanes := by
  unfold watchPoint
  split
  · exact h
  · next ht =>
    have hr := h l
    have hrestart : Fit RecOk (d.updLane l fun r => { r with watchTimer := some 8 }).lanes :=
      h.upd l ⟨⟨fun _ => hr.watch.mp (by rw [ht]; rfl), fun _ => rfl⟩, hr.window, hr.monitor, hr.stopped, hr.due⟩
    have hsampled := sampleLock_lanes hrestart l (KeyLock.ofLines a b)
    dsimp only
    split
    · next hc =>
      have hmonitor : ((d.updLane l fun r => { r with watchTimer := some 8 }).sampleLock l
          (KeyLock.ofLines a b)).lanes[l].wakeMonitor = true := by
        refine (hsampled l).monitor.mpr ?_
        have hkeep := sampleLock_touches (d.updLane l fun r => { r with watchTimer := some 8 }) l (KeyLock.ofLines a b)
        have hstate := hkeep .states (by decide) l
        have hactive := (hkeep .settings (by decide) l).1
        rw [hstate, hactive, Device.updLane_lanes, upd_getElem_self]
        exact hr.monitor.mp hc.2
      split
      · exact wakeReading_lanes hsampled hmonitor rows
      · exact hsampled.upd l ⟨(hsampled l).watch, (hsampled l).window, (hsampled l).monitor, (hsampled l).stopped,
          fun _ => hmonitor⟩
    · exact hsampled

/-! ### The lane records, row by row -/

theorem duePoint_lanes {d : Device} (h : Fit RecOk d.lanes) (hs : ∀ l : Fin 16, d.scanner.lanes[l].dueTimer.isSome →
    d.lanes[l].state ≠ .closed) (l : Fin 16) : Fit RecOk (duePoint l d).lanes := by
  unfold duePoint
  dsimp only
  split
  · exact h
  · next ht =>
    split
    · split
      · exact h
      · rw [depart_lanes]
        exact h.upd l ((h l).departed (hs l (by rw [ht]; rfl)) (.inr rfl))
    · exact h

theorem blank_lanes (cause : ResetCause) (i : Inputs) : Fit RecOk (Device.blank cause i).lanes := by
  intro l
  have hl : (Device.blank cause i).lanes[l] = resetLaneRec := by simp [Device.blank]
  rw [hl]
  exact ⟨by decide, by decide, by decide, by decide, by decide⟩

/-- A state that is scanning is not CLOSED. -/
theorem ne_closed {s : LaneState} (h : s.scanning = true) : s ≠ .closed := by
  rintro rfl
  cases h

theorem RecOk.repended {r : LaneRec} (h : RecOk r) (g : Option Settings) : RecOk { r with pendingSet := g } :=
  ⟨h.watch, h.window, h.monitor, h.stopped, h.due⟩

theorem act_lanes {c : Instr} {d e : Device} (ha : Act c d e) (hs : ∀ l : Fin 16, d.scanner.lanes[l].dueTimer.isSome →
    d.lanes[l].state ≠ .closed) (h : Fit RecOk d.lanes) : Fit RecOk e.lanes := by
  by_cases hq : Block.lanes ∈ footprint c
  · cases ha with
    | nothing => exact h
    | openLane l _ hl => exact openLane_lanes d l ▸ h.upd l ((h l).opened hl)
    | suspendLane l _ hl => exact suspendLane_lanes d l ▸ h.upd l ((h l).suspended hl)
    | resumeLane l _ hl => exact resumeLane_lanes d l ▸ h.upd l ((h l).resumed hl)
    | closeLane l _ hl => exact depart_lanes d l _ _ ▸ h.upd l ((h l).departed (ne_closed hl) (.inl rfl))
    | closeFaulted l _ hl => exact closeFaulted_lanes d l ▸ h.upd l ((h l).closedFaulted hl)
    | resetLane l => exact resetLane_lanes d l ▸ h.upd l (RecOk.wiped _)
    | setPending l g => exact h.upd l ((h l).repended _)
    | setAtOnce l g =>
      have hset : Fit RecOk (d.updLane l fun r => { r with pendingSet := some g.clamped }).lanes :=
        h.upd l ((h l).repended _)
      exact adopt_lanes _ l ▸ hset.upd l (hset l).adopted
    | kick n => exact requestKick_lanes h n _
    | duePoint l => exact duePoint_lanes h hs l
    | passStart =>
      unfold Machine.passStart
      split
      · next l _ => exact startPass_lanes d l ▸ h.upd l (h l).adopted
      · exact h
    | passEnd raw a b wake => exact passEnd_lanes h raw _ wake
    | watchPoint l a b rows => exact watchPoint_lanes h a b rows l
    | holdOffExpiry l =>
      exact h.upd l ⟨(h l).watch, (h l).window, (h l).monitor, fun hm => ⟨((h l).stopped hm).1, rfl⟩, (h l).due⟩
    | tenderExpiry l =>
      unfold Machine.tenderExpiry
      split
      · exact closeWindow_lanes h l
      · exact h
    | frameEnd => exact h
    | trunkReset | powerOn | resetPinRise =>
      exact (blank_lanes _ _).same (AssignmentsKept.startUp_touches _ _ .lanes (by decide))
    | powerOnHeld i | resetPinLow i => exact blank_lanes .pin i
    | setDrawer row | setSupply row | setSupplyFault row => simp [footprint_setDrawerRow row] at hq
    | _ => simp [footprint] at hq
  · exact h.same (ha.touches _ hq)

theorem RecOk.ms {r : LaneRec} (h : RecOk r) : RecOk r.ms where
  watch := by simpa [LaneRec.ms, countDown] using h.watch
  window := h.window
  monitor := h.monitor
  stopped hm := ⟨(h.stopped hm).1, by simp [LaneRec.ms, (h.stopped hm).2]⟩
  due := h.due

theorem tick_lanes {d : Device} (h : Fit RecOk d.lanes) : Fit RecOk d.tick.lanes := by
  unfold Device.tick
  dsimp only
  split
  · exact h
  · exact h.map fun _ => RecOk.ms

/-! ### The keyboards -/

/-- What `KeyboardSound` asks of one lane: the driver's pass is its own or not, it is scanning or not, with these
settings, this part of the scanner and this part of the translator. -/
structure KeysOk (inPass : Prop) (scanning : Bool) (g : Settings) (m : LaneScan) (t : KeyTrans) : Prop where
  limit : m.countKeys .pressed ≤ g.rollover
  integ : ∀ p : Fin 128, m.integ[p] ≤ g.debounce
  quiet : scanning = false → m.waiting = false ∧ ∀ p : Fin 128, m.keys[p] = .released ∧ m.integ[p] = 0
  due : m.dueTimer.isSome ↔ scanning = true
  held : ∀ p : Fin 128, t.held[p].isSome ↔ m.keys[p] = .pressed
  owner : t.OwnerHeld
  discarded : inPass → scanning = false → m.discard = true
  marked : m.discard = true → inPass

/-- What `KeyboardSound` asks, lane by lane. -/
def Keyboards (d : Device) : Prop := ∀ l : Fin 16, KeysOk (d.scanner.laneInPass = some l) d.lanes[l].state.scanning
  d.lanes[l].active d.scanner.lanes[l] d.trans[l]

theorem keyboardSound_iff (d : Device) : KeyboardSound d ↔ Keyboards d := by
  constructor
  · intro h l
    obtain ⟨hlimit, hinteg, hquiet, hdue, hheld, howner, hdiscarded, hmarked⟩ := h l
    exact ⟨hlimit, hinteg, hquiet, hdue, hheld, fun p hp => (hheld p).mpr (howner p hp), hdiscarded, hmarked⟩
  · intro h l
    obtain ⟨hlimit, hinteg, hquiet, hdue, hheld, howner, hdiscarded, hmarked⟩ := h l
    exact ⟨hlimit, hinteg, hquiet, hdue, hheld, fun p hp => (hheld p).mp (howner p hp), hdiscarded, hmarked⟩

theorem KeysOk.congr {inPass inPass' : Prop} {s s' : Bool} {g g' : Settings} {m m' : LaneScan} {t t' : KeyTrans}
    (h : KeysOk inPass s g m t) (hi : inPass' ↔ inPass) (hs : s' = s) (hg : g' = g) (hm : m' = m) (ht : t' = t) :
    KeysOk inPass' s' g' m' t' := by
  obtain rfl := propext hi
  subst hs hg hm ht
  exact h

/-- A row that changes one lane's record, scanner and translator, and leaves the driver alone. -/
theorem Keyboards.upd {d e : Device} (h : Keyboards d) {l : Fin 16} {f : LaneScan → LaneScan} {k : KeyTrans → KeyTrans}
    (hlanes : ∀ m : Fin 16, m ≠ l → e.lanes[m].state = d.lanes[m].state ∧ e.lanes[m].active = d.lanes[m].active)
    (hscan : e.scanner = { d.scanner with lanes := upd d.scanner.lanes l f })
    (htrans : e.trans = upd d.trans l k)
    (hl : KeysOk (d.scanner.laneInPass = some l) e.lanes[l].state.scanning e.lanes[l].active (f d.scanner.lanes[l])
      (k d.trans[l])) : Keyboards e := by
  intro m
  rw [hscan, htrans]
  dsimp only
  by_cases hm : m = l
  · subst hm
    rw [upd_getElem_self, upd_getElem_self]
    exact hl
  · rw [upd_getElem_ne _ _ hm, upd_getElem_ne _ _ hm, (hlanes m hm).1, (hlanes m hm).2]
    exact h m

theorem scanner_id (s : Scanner) (l : Fin 16) : s = { s with lanes := upd s.lanes l id } :=
  congrArg (fun v => ({ s with lanes := v } : Scanner)) (upd_id s.lanes l rfl).symm

theorem trans_id (v : Table KeyTrans 16) (l : Fin 16) : v = upd v l id := (upd_id v l rfl).symm

theorem Keyboards.updScan {d : Device} (h : Keyboards d) {l : Fin 16} {f : LaneScan → LaneScan}
    (hl : KeysOk (d.scanner.laneInPass = some l) d.lanes[l].state.scanning d.lanes[l].active (f d.scanner.lanes[l])
      d.trans[l]) : Keyboards (d.updScan l f) :=
  h.upd (k := id) (fun _ _ => ⟨rfl, rfl⟩) rfl (trans_id d.trans l) hl

/-- A row that leaves scanner and translator alone, and each lane's settings and scanning. -/
theorem Keyboards.congr {d e : Device} (h : Keyboards d)
    (hlanes : ∀ m : Fin 16, e.lanes[m].state.scanning = d.lanes[m].state.scanning ∧ e.lanes[m].active = d.lanes[m].active)
    (hscan : e.scanner = d.scanner) (htrans : e.trans = d.trans) : Keyboards e := fun m =>
  (h m).congr (by rw [hscan]) (hlanes m).1 (hlanes m).2 (by rw [hscan]) (by rw [htrans])

/-- A keyboard with every key RELEASED and every integrator 0, and no held record. -/
theorem keysOk_clear {inPass : Prop} {scanning : Bool} {g : Settings} {m : LaneScan} {t : KeyTrans}
    (hkeys : ∀ p : Fin 128, m.keys[p] = .released) (hinteg : ∀ p : Fin 128, m.integ[p] = 0)
    (hwait : scanning = false → m.waiting = false) (hdue : m.dueTimer.isSome ↔ scanning = true)
    (hheld : ∀ p : Fin 128, t.held[p] = none) (howner : t.owner = none) (hdiscard : inPass → scanning = false → m.discard = true)
    (hmarked : m.discard = true → inPass) : KeysOk inPass scanning g m t where
  limit := by
    have hnone : m.countKeys .pressed = 0 := by
      simp only [LaneScan.countKeys, LaneScan.positions, hkeys]
      rw [List.filter_eq_nil_iff.mpr fun _ _ => by decide]
      rfl
    rw [hnone]
    exact Nat.zero_le _
  integ p := (hinteg p).trans_le (Nat.zero_le _)
  quiet hs := ⟨hwait hs, fun p => ⟨hkeys p, hinteg p⟩⟩
  due := hdue
  held p := by
    rw [hheld, hkeys]
    decide
  owner p hp := by
    rw [howner] at hp
    cases hp
  discarded := hdiscard
  marked := hmarked

theorem replicate_getElem {α : Type} {n : Nat} (x : α) (i : Fin n) : (Vector.replicate n x)[i] = x := by simp

/-- A keyboard of a lane that is not scanning holds no record. -/
theorem KeysOk.unheld {inPass : Prop} {g : Settings} {m : LaneScan} {t : KeyTrans} (h : KeysOk inPass false g m t)
    (p : Fin 128) : t.held[p] = none := by
  have hno : ¬ t.held[p].isSome := by
    rw [h.held, ((h.quiet rfl).2 p).1]
    decide
  exact Option.not_isSome_iff_eq_none.mp hno

/-- Without a record anywhere there is no owner. -/
theorem owner_none {t : KeyTrans} (h : t.OwnerHeld) (hheld : ∀ p : Fin 128, t.held[p] = none) : t.owner = none := by
  refine Option.eq_none_iff_forall_ne_some.mpr fun p hp => ?_
  have hsome := h p hp
  rw [hheld] at hsome
  cases hsome

theorem releasePressed_held {inPass : Prop} {s : Bool} {g : Settings} {m : LaneScan} {t : KeyTrans} (h : KeysOk inPass s g m t)
    (p : Fin 128) : (t.releaseAll (m.positions .pressed)).held[p] = none := by
  rw [releaseAll_held]
  split
  · rfl
  · next hp =>
    have hno : ¬ t.held[p].isSome := by
      rw [h.held]
      exact fun hk => hp (by simpa [LaneScan.positions] using hk)
    exact Option.not_isSome_iff_eq_none.mp hno

/-- The lane's part of the scanner once its pass is withdrawn and its keys are cleared (R7, R43). -/
def LaneScan.withdrawn (running : Bool) (m : LaneScan) : LaneScan :=
  { m with waiting := false, dueTimer := none, discard := m.discard || running, integ := Vector.replicate 128 0
           keys := Vector.replicate 128 .released }

theorem withdrawn_eq (d : Device) (l : Fin 16) : Claims.withdrawn d l =
    { d.scanner with
      lanes := upd d.scanner.lanes l (LaneScan.withdrawn (decide (d.scanner.laneInPass = some l))) } := rfl

/-- A lane that has left the scanning states, its records gone. -/
theorem KeysOk.withdrawn {inPass : Prop} [Decidable inPass] {s : Bool} {g g' : Settings} {m : LaneScan} {t t' : KeyTrans}
    (h : KeysOk inPass s g m t) (hheld : ∀ p : Fin 128, t'.held[p] = none) (howner : t'.owner = none) :
    KeysOk inPass false g' (LaneScan.withdrawn (decide inPass) m) t' := by
  refine keysOk_clear (replicate_getElem _) (replicate_getElem _) (fun _ => rfl) (by simp [LaneScan.withdrawn]) hheld howner
    (fun hi _ => by simp [LaneScan.withdrawn, hi]) fun hd => ?_
  simp only [LaneScan.withdrawn, Bool.or_eq_true, decide_eq_true_eq] at hd
  exact hd.elim h.marked id

theorem departed_active (dest : LaneState) (r : LaneRec) : (LaneRec.departed dest r).active = r.pendingSet.getD r.active := by
  have hadopted := adopted_active { { r with state := dest }.closeWindow with watchTimer := some 8 }
  unfold LaneRec.departed
  dsimp only
  split
  · rw [(LaneRec.enterClosedWake_keeps _).2.1, hadopted]
    rfl
  · exact hadopted

theorem depart_keyboards {d : Device} (h : Keyboards d) (l : Fin 16) {dest : LaneState} (hd : dest.scanning = false)
    (c : LaneCause) : Keyboards (d.depart l dest c) := by
  have hscan : (d.depart l dest c).scanner = _ := (depart_scanner d l dest c).trans (withdrawn_eq d l)
  refine h.upd (fun m hm => ?_) hscan (depart_trans d l dest c) ?_
  · rw [depart_lanes, upd_getElem_ne _ _ hm]
    exact ⟨rfl, rfl⟩
  · rw [depart_lanes, upd_getElem_self, departed_state, hd]
    refine (h l).withdrawn (fun p => ?_) ?_
    · rw [retimed_held]
      exact releasePressed_held (h l) p
    · rw [retimed_owner]
      rfl

theorem resetLane_keyboards {d : Device} (h : Keyboards d) (l : Fin 16) : Keyboards (d.resetLane l) := by
  have hscan : (d.resetLane l).scanner = _ := (resetLane_scanner d l).trans (withdrawn_eq d l)
  refine h.upd (fun m hm => ?_) hscan (resetLane_trans d l) ?_
  · rw [resetLane_lanes, upd_getElem_ne _ _ hm]
    exact ⟨rfl, rfl⟩
  · rw [resetLane_lanes, upd_getElem_self, wiped_state]
    refine (h l).withdrawn (fun p => ?_) ?_
    · rw [retimed_held]
      exact replicate_getElem _ p
    · rw [retimed_owner]
      rfl

theorem openLane_keyboards {d : Device} (h : Keyboards d) {l : Fin 16} (hl : d.lanes[l].state = .closed) :
    Keyboards (d.openLane l) := by
  have hscan := openLane_scanner d l
  have htrans : (d.openLane l).trans = upd d.trans l id :=
    Eq.trans (openLane_touches d l .trans (by decide)) (upd_id d.trans l rfl).symm
  have hk := (h l).congr Iff.rfl (s' := false) (by rw [hl]; rfl) rfl rfl rfl
  refine h.upd (fun m hm => ?_) hscan htrans ?_
  · rw [openLane_lanes, upd_getElem_ne _ _ hm]
    exact ⟨rfl, rfl⟩
  · rw [openLane_lanes, upd_getElem_self]
    exact keysOk_clear (replicate_getElem _) (replicate_getElem _) (fun hs => by cases hs)
      ⟨fun _ => rfl, fun _ => rfl⟩ hk.unheld
      (owner_none hk.owner hk.unheld) (fun _ hs => by cases hs) hk.marked

theorem setAtOnce_keyboards {d : Device} (h : Keyboards d) {l : Fin 16} (hl : d.lanes[l].state.scanning = false)
    (g : Settings) : Keyboards ((d.updLane l fun r => { r with pendingSet := some g }).adopt l) := by
  have hk := (h l).congr Iff.rfl (s' := false) hl.symm rfl rfl rfl
  have hscan : ((d.updLane l fun r => { r with pendingSet := some g }).adopt l).scanner =
      { d.scanner with lanes := upd d.scanner.lanes l id } :=
    (Device.adopt_scanner _ l).trans (scanner_id d.scanner l)
  have htrans : ((d.updLane l fun r => { r with pendingSet := some g }).adopt l).trans =
      upd d.trans l (KeyTrans.retimed (some g)) := by
    rw [adopt_trans, Device.updLane_trans, Device.updLane_lanes, upd_getElem_self]
  have hlanes : ((d.updLane l fun r => { r with pendingSet := some g }).adopt l).lanes =
      upd d.lanes l (LaneRec.adopted ∘ fun r => { r with pendingSet := some g }) := by
    rw [adopt_lanes, Device.updLane_lanes, upd_upd]
  refine h.upd (fun m hm => ?_) hscan htrans ?_
  · rw [hlanes, upd_getElem_ne _ _ hm]
    exact ⟨rfl, rfl⟩
  · have hheld (o : Option Settings) (p : Fin 128) : (d.trans[l].retimed o).held[p] = none := by
      rw [retimed_held]
      exact hk.unheld p
    have hstate : ((d.updLane l fun r => { r with pendingSet := some g }).adopt l).lanes[l].state.scanning = false := by
      rw [hlanes, upd_getElem_self, Function.comp_apply, adopted_state]
      exact hl
    rw [hstate]
    exact keysOk_clear (fun p => ((hk.quiet rfl).2 p).1) (fun p => ((hk.quiet rfl).2 p).2) (fun hs => (hk.quiet hs).1) hk.due
      (hheld (some g)) (by rw [retimed_owner]; exact owner_none hk.owner hk.unheld) hk.discarded hk.marked

/-- A keyboard of a scanning lane, its due timer loaded again. -/
theorem KeysOk.reload {inPass : Prop} {s : Bool} {g : Settings} {m m' : LaneScan} {t : KeyTrans} (h : KeysOk inPass s g m t)
    (hs : s = true) (ht : m'.dueTimer.isSome) (hkeys : m'.keys = m.keys) (hinteg : m'.integ = m.integ)
    (hdiscard : m'.discard = m.discard) : KeysOk inPass s g m' t where
  limit := by
    rw [countKeys_pressed, hkeys]
    exact h.limit
  integ := hinteg ▸ h.integ
  quiet hoff := absurd (hs.symm.trans hoff) (by decide)
  due := ⟨fun _ => hs, fun _ => ht⟩
  held := hkeys ▸ h.held
  owner := h.owner
  discarded := hdiscard ▸ h.discarded
  marked := hdiscard ▸ h.marked

theorem duePoint_keyboards {d : Device} (h : Keyboards d) (l : Fin 16) : Keyboards (duePoint l d) := by
  unfold duePoint
  dsimp only
  split
  · exact h
  · next ht =>
    have hs : d.lanes[l].state.scanning = true := (h l).due.mp (by rw [ht]; rfl)
    split
    · have hmissed : Keyboards (d.updScan l fun m => { m with
          missCount := sat16 m.missCount 1, dueTimer := some (d.lanes[l].active.scanPeriod * 250) }) :=
        h.updScan ((h l).reload hs rfl rfl rfl rfl)
      split
      · exact hmissed
      · exact depart_keyboards hmissed l rfl _
    · exact h.updScan ((h l).reload hs rfl rfl rfl rfl)

/-! ### Pass start: the settings are adopted (R30, R31) -/

theorem latchAll_keys (ps : List (Fin 128)) (m : LaneScan) (p : Fin 128) :
    (m.latchAll ps).keys[p] = if p ∈ ps then .latched else m.keys[p] := by
  unfold LaneScan.latchAll
  dsimp only
  induction ps generalizing m with
  | nil => rfl
  | cons x ps ih =>
    have hrest := ih { m with keys := m.keys.set x .latched }
    rw [List.foldl_cons, hrest, set_getElem]
    by_cases hp : p ∈ ps
    · simp [hp]
    · simp [hp]

/-- Of the PRESSED keys, those above the limit go: no more than the limit stay. -/
theorem pressed_within (m : LaneScan) (limit : Nat) {keys : Table KeyState 128}
    (hkeys : ∀ p : Fin 128, keys[p] = if p ∈ m.overLimit limit then .latched else m.keys[p]) :
    pressedIn keys = min (m.countKeys .pressed) limit := by
  have hstay : ((List.finRange 128).filter fun p => keys[p] == .pressed) =
      (m.positions .pressed).filter fun p => decide (p ∉ m.overLimit limit) := by
    unfold LaneScan.positions
    rw [List.filter_filter]
    refine List.filter_congr fun p _ => ?_
    rw [hkeys]
    by_cases hp : p ∈ m.overLimit limit
    · simp [hp]
    · simp [hp]
  have hnodup : (m.positions .pressed).reverse.Nodup := List.nodup_reverse.mpr ((List.nodup_finRange 128).filter _)
  have hsplit : (m.positions .pressed).reverse =
      m.overLimit limit ++ (m.positions .pressed).reverse.drop (m.countKeys .pressed - limit) :=
    (List.take_append_drop _ _).symm
  have hdisjoint := (List.nodup_append.mp (hsplit ▸ hnodup)).2.2
  have hdrop : ((m.positions .pressed).reverse.filter fun p => decide (p ∉ m.overLimit limit)) =
      (m.positions .pressed).reverse.drop (m.countKeys .pressed - limit) := by
    rw [hsplit, List.filter_append, List.filter_eq_nil_iff.mpr (by simp), List.nil_append, ← hsplit]
    exact List.filter_eq_self.mpr fun p hp => by simpa using fun hmem => hdisjoint p hmem p hp rfl
  have hlen : ((m.positions .pressed).filter fun p => decide (p ∉ m.overLimit limit)).length =
      m.countKeys .pressed - (m.countKeys .pressed - limit) := by
    rw [← List.length_reverse, ← List.filter_reverse, hdrop, List.length_drop, List.length_reverse]
    rfl
  unfold pressedIn
  rw [hstay, hlen]
  omega

theorem fit_keys (g : Settings) (m : LaneScan) (p : Fin 128) :
    (m.fit g).keys[p] = if p ∈ m.overLimit g.rollover then .latched else m.keys[p] := by
  have hover : ({ m with integ := mapTab m.integ (min g.debounce) } : LaneScan).overLimit g.rollover =
      m.overLimit g.rollover := overLimit_congr (by rfl) _
  unfold LaneScan.fit
  dsimp only
  rw [latchAll_keys, hover]

theorem fit_integ (g : Settings) (m : LaneScan) (p : Fin 128) : (m.fit g).integ[p] = min g.debounce m.integ[p] := by
  unfold LaneScan.fit LaneScan.latchAll
  dsimp only
  rw [mapTab_getElem]

theorem fit_rest (g : Settings) (m : LaneScan) : (m.fit g).waiting = m.waiting ∧ (m.fit g).dueTimer = m.dueTimer ∧
    (m.fit g).discard = m.discard ∧ (m.fit g).missCount = m.missCount := by
  unfold LaneScan.fit LaneScan.latchAll
  dsimp only
  exact ⟨rfl, rfl, rfl, rfl⟩

/-- LATCHED keys lose their records, the others keep theirs. -/
theorem held_latched {m : LaneScan} {t : KeyTrans} (h : ∀ p : Fin 128, t.held[p].isSome ↔ m.keys[p] = .pressed)
    {ps : List (Fin 128)} {keys : Table KeyState 128}
    (hkeys : ∀ p : Fin 128, keys[p] = if p ∈ ps then .latched else m.keys[p]) (p : Fin 128) :
    (t.releaseAll ps).held[p].isSome ↔ keys[p] = .pressed := by
  rw [releaseAll_held, hkeys]
  split
  · simp
  · exact h p

/-- A pass starts in a lane that is scanning. -/
theorem KeysOk.started {inPass : Prop} {s : Bool} {g : Settings} {m : LaneScan} {t : KeyTrans} (h : KeysOk inPass s g m t)
    (hs : s = true) : KeysOk True s g { m with waiting := false, discard := false } t :=
  ⟨h.limit, h.integ, fun hoff => absurd (hs.symm.trans hoff) (by decide), h.due, h.held, h.owner,
    fun _ hoff => absurd (hs.symm.trans hoff) (by decide), fun _ => trivial⟩

/-- Adopted settings are applied to a lane that is scanning (R31). -/
theorem KeysOk.fit {inPass : Prop} {s : Bool} {g : Settings} {m : LaneScan} {t : KeyTrans} (h : KeysOk inPass s g m t)
    (hs : s = true) (g' : Settings) :
    KeysOk inPass s g' (m.fit g') ((t.retimed (some g')).releaseAll (m.overLimit g'.rollover)) := by
  have hkeys := fit_keys g' m
  have hinteg := fit_integ g' m
  obtain ⟨-, hdue, hdiscard, -⟩ := fit_rest g' m
  generalize m.fit g' = v at hkeys hinteg hdue hdiscard ⊢
  constructor
  case limit => exact (pressed_within m g'.rollover hkeys).trans_le (Nat.min_le_right _ _)
  case integ => exact fun p => (hinteg p).trans_le (Nat.min_le_left _ _)
  case quiet => exact fun hoff => absurd (hs.symm.trans hoff) (by decide)
  case due => exact hdue ▸ h.due
  case held => exact held_latched (fun p => by rw [retimed_held]; exact h.held p) hkeys
  case owner => exact KeyTrans.OwnerHeld.releaseAll (t := t.retimed (some g')) h.owner _
  case discarded => exact hdiscard ▸ h.discarded
  case marked => exact hdiscard ▸ h.marked

theorem startPass_keyboards {d : Device} (h : Keyboards d) (hidle : d.scanner.laneInPass = none) {l : Fin 16}
    (hl : d.scanner.lanes[l].waiting = true) : Keyboards (d.startPass l) := by
  have hs : d.lanes[l].state.scanning = true := by
    refine Bool.eq_true_of_not_eq_false fun hoff => ?_
    rw [((h l).quiet hoff).1] at hl
    cases hl
  have hother {m : Fin 16} (hm : m ≠ l) : (some l = some m) ↔ d.scanner.laneInPass = some m := by
    rw [hidle]
    simp [Ne.symm hm]
  have hstate (m : Fin 16) : (d.startPass l).lanes[m].state = d.lanes[m].state := startPass_touches d l .states (by decide) m
  intro m
  rw [hstate, startPass_scanner]
  dsimp only
  by_cases hm : m = l
  · subst hm
    have hstarted := ((h m).started hs).congr (inPass' := some m = some m) (by simp) rfl rfl rfl rfl
    rw [upd_getElem_self, startPass_lanes, upd_getElem_self, adopted_active, startPass_trans, LaneScan.refit]
    cases hg : d.lanes[m].pendingSet with
    | none => exact hstarted
    | some g =>
      dsimp only
      rw [upd_getElem_self]
      have hover : ({ d.scanner.lanes[m] with waiting := false, discard := false } : LaneScan).overLimit g.rollover =
          d.scanner.lanes[m].overLimit g.rollover := overLimit_congr (by rfl) _
      rw [← hover]
      exact hstarted.fit hs g
  · have htrans : (d.startPass l).trans[m] = d.trans[m] := by
      rw [startPass_trans]
      cases d.lanes[l].pendingSet with
      | none => rfl
      | some g => exact upd_getElem_ne _ _ hm
    rw [upd_getElem_ne _ _ hm, startPass_lanes, upd_getElem_ne _ _ hm, htrans]
    exact (h m).congr (hother hm) rfl rfl rfl rfl

/-! ### Pass end (R33 to R39) -/

theorem sampled_keys (m : LaneScan) (g : Settings) (raw : BitVec 128) (p : Fin 128) :
    (m.sampled g raw).keys[p] = releaseStep g.debounce m.keys[p] (m.sampled g raw).integ[p] := by
  unfold LaneScan.sampled
  dsimp only
  rw [tab_getElem, tab_getElem]

theorem sampled_integ (m : LaneScan) (g : Settings) (raw : BitVec 128) (p : Fin 128) :
    (m.sampled g raw).integ[p] = integrate g raw p.val m.integ[p] := by
  unfold LaneScan.sampled
  dsimp only
  rw [tab_getElem]

theorem integrate_le {g : Settings} {i : Nat} (h : i ≤ g.debounce) (raw : BitVec 128) (p : Nat) :
    integrate g raw p i ≤ g.debounce := by
  unfold integrate
  split
  · exact h
  · split
    · exact Nat.min_le_left _ _
    · omega

theorem releaseStep_pressed (D : Nat) (k : KeyState) (i : Nat) : releaseStep D k i = .pressed ↔ k = .pressed ∧ i ≠ 0 := by
  unfold releaseStep
  cases k with
  | pressed => by_cases hi : i = 0 <;> simp [hi]
  | latched => by_cases hi : i = 0 <;> simp [hi]
  | blocked => by_cases hi : i < D <;> simp [hi]
  | released => simp

theorem sampled_rest (m : LaneScan) (g : Settings) (raw : BitVec 128) : (m.sampled g raw).waiting = m.waiting ∧
    (m.sampled g raw).dueTimer = m.dueTimer ∧ (m.sampled g raw).discard = m.discard ∧
    (m.sampled g raw).missCount = m.missCount := by
  simp only [LaneScan.sampled, and_self]

theorem passed_integ (m : LaneScan) (g : Settings) (raw : BitVec 128) (dead : Fin 128 → Bool) :
    (m.passed g raw dead).integ = (m.sampled g raw).integ := by
  simp only [LaneScan.passed]

theorem passed_keys (m : LaneScan) (g : Settings) (raw : BitVec 128) (dead : Fin 128 → Bool) :
    (m.passed g raw dead).keys = ((m.sampled g raw).pressStep g dead).keys := by
  simp only [LaneScan.passed]

theorem passed_rest (m : LaneScan) (g : Settings) (raw : BitVec 128) (dead : Fin 128 → Bool) :
    (m.passed g raw dead).waiting = m.waiting ∧ (m.passed g raw dead).dueTimer = m.dueTimer ∧
    (m.passed g raw dead).discard = m.discard ∧ (m.passed g raw dead).missCount = m.missCount := by
  simp only [LaneScan.passed, sampled_rest, and_self]

/-- The release step presses no key. -/
theorem sampled_pressed_le (m : LaneScan) (g : Settings) (raw : BitVec 128) :
    (m.sampled g raw).countKeys .pressed ≤ m.countKeys .pressed := by
  unfold LaneScan.countKeys LaneScan.positions
  rw [← List.countP_eq_length_filter, ← List.countP_eq_length_filter]
  refine List.countP_mono_left fun p _ hp => ?_
  rw [beq_iff_eq, sampled_keys, releaseStep_pressed] at hp
  rw [beq_iff_eq]
  exact hp.1

theorem mem_released (m : LaneScan) (g : Settings) (raw : BitVec 128) (p : Fin 128) :
    p ∈ m.released g raw ↔ m.keys[p] = .pressed ∧ (m.sampled g raw).keys[p] = .released := by
  unfold LaneScan.released LaneScan.positions
  rw [List.mem_filter, List.mem_filter, beq_iff_eq, beq_iff_eq]
  simp only [List.mem_finRange, true_and]

theorem sampled_pressed (m : LaneScan) (g : Settings) (raw : BitVec 128) (p : Fin 128) :
    (m.sampled g raw).keys[p] = .pressed ↔ m.keys[p] = .pressed ∧ p ∉ m.released g raw := by
  rw [mem_released, sampled_keys]
  generalize (m.sampled g raw).integ[p] = i
  rw [releaseStep_pressed]
  refine and_congr_right fun hk => ?_
  rw [hk]
  by_cases hi : i = 0
  · simp [releaseStep, hi]
  · simp [releaseStep, hi]

/-- The press step makes PRESSED exactly what it lists, beside what was PRESSED. -/
theorem pressStep_pressed (v : LaneScan) (g : Settings) (dead : Fin 128 → Bool) (p : Fin 128) :
    (v.pressStep g dead).keys[p] = .pressed ↔
      p ∈ (v.pressStep g dead).presses.map Prod.fst ∨ v.keys[p] = .pressed := by
  have hdone := pressStep_done v g dead
  have hpresses : (v.pressStep g dead).presses =
      (v.candidates g.debounce dead).filter fun c => (v.pressStep g dead).keys[c.1] == .pressed := hdone.presses
  rw [hpresses]
  constructor
  · intro hk
    by_cases hp : p ∈ (v.candidates g.debounce dead).map Prod.fst
    · obtain ⟨c, hc, rfl⟩ := List.mem_map.mp hp
      exact .inl (List.mem_map_of_mem (List.mem_filter.mpr ⟨hc, by rw [beq_iff_eq]; exact hk⟩))
    · exact .inr ((hdone.others p hp).symm.trans hk)
  · rintro (hk | hk)
    · obtain ⟨c, hc, rfl⟩ := List.mem_map.mp hk
      exact beq_iff_eq.mp (List.mem_filter.mp hc).2
    · refine (hdone.others p fun hp => ?_).trans hk
      obtain ⟨c, hc, rfl⟩ := List.mem_map.mp hp
      rcases ((mem_candidates v _ dead c.1 c.2).mp hc).2 with ⟨hkey, -⟩ | ⟨hkey, -⟩
      · exact absurd (hkey.symm.trans hk) (by decide)
      · exact absurd (hkey.symm.trans hk) (by decide)

/-- After a pass exactly the keys that were pressed in it, and those that were PRESSED before and not released in it, are
PRESSED. -/
theorem passed_pressed (m : LaneScan) (g : Settings) (raw : BitVec 128) (dead : Fin 128 → Bool) (p : Fin 128) :
    (m.passed g raw dead).keys[p] = .pressed ↔
      p ∈ (m.pressesMade g raw dead).map Prod.fst ∨ (m.keys[p] = .pressed ∧ p ∉ m.released g raw) := by
  rw [passed_keys, pressStep_pressed, sampled_pressed, LaneScan.pressesMade]

/-- The press step keeps to the rollover limit. -/
theorem pressStep_limit {v : LaneScan} {g : Settings} (h : v.countKeys .pressed ≤ g.rollover) (dead : Fin 128 → Bool) :
    pressedIn (v.pressStep g dead).keys ≤ g.rollover := by
  have hdone := pressStep_done v g dead
  rw [← hdone.counted rfl]
  exact hdone.within h

theorem passed_limit {m : LaneScan} {g : Settings} (h : m.countKeys .pressed ≤ g.rollover) (raw : BitVec 128)
    (dead : Fin 128 → Bool) : (m.passed g raw dead).countKeys .pressed ≤ g.rollover := by
  rw [countKeys_pressed, passed_keys]
  exact pressStep_limit ((sampled_pressed_le m g raw).trans h) dead

/-- A pass that is not discarded, in a lane that is scanning. -/
theorem KeysOk.passed {inPass : Prop} {s : Bool} {g : Settings} {m : LaneScan} {t t' : KeyTrans} (h : KeysOk inPass s g m t)
    (hs : s = true) (hd : m.discard = false) (raw : BitVec 128) (dead : Fin 128 → Bool)
    (hheld : ∀ p : Fin 128, (t'.held[p]).isSome = (decide (p ∈ (m.pressesMade g raw dead).map Prod.fst) ||
      (if p ∈ m.released g raw then none else t.held[p]).isSome)) (howner : t'.OwnerHeld) :
    KeysOk False s g (m.passed g raw dead) t' := by
  obtain ⟨-, hdue, hdiscard, -⟩ := passed_rest m g raw dead
  constructor
  case limit => exact passed_limit h.limit raw dead
  case integ =>
    intro p
    rw [passed_integ, sampled_integ]
    exact integrate_le (h.integ p) raw p.val
  case quiet => exact fun hoff => absurd (hs.symm.trans hoff) (by decide)
  case due => rw [hdue]; exact h.due
  case held =>
    intro p
    rw [passed_pressed, hheld, Bool.or_eq_true, decide_eq_true_eq]
    refine or_congr Iff.rfl ?_
    rw [← h.held p]
    split
    · next hp => simp [hp]
    · next hp => simp [hp]
  case owner => exact howner
  case discarded => exact fun hf => hf.elim
  case marked =>
    intro hm
    rw [hdiscard, hd] at hm
    cases hm

/-- A pass that is discarded leaves its mark behind. -/
theorem KeysOk.unmarked {inPass : Prop} {s : Bool} {g : Settings} {m : LaneScan} {t : KeyTrans} (h : KeysOk inPass s g m t) :
    KeysOk False s g { m with discard := false } t :=
  ⟨h.limit, h.integ, h.quiet, h.due, h.held, h.owner, fun hf => hf.elim, fun hd => Bool.noConfusion hd⟩

theorem passEnd_trans (d : Device) {l : Fin 16} (hl : d.scanner.laneInPass = some l) (raw : BitVec 128) (lock : KeyLock)
    (wake : BitVec 128) : (passEnd raw lock wake d).trans =
      if d.scanner.lanes[l].discard then d.trans else (d.completePass l raw lock).trans := by
  unfold passEnd
  rw [hl]
  dsimp only
  rw [takeDueReadings_touches _ wake .trans (by decide), Device.updScanner_trans]
  split <;> rfl

theorem passEnd_keyboards {d : Device} (h : Keyboards d) (raw : BitVec 128) (lock : KeyLock) (wake : BitVec 128) :
    Keyboards (passEnd raw lock wake d) := by
  cases hl : d.scanner.laneInPass with
  | none =>
    unfold passEnd
    rw [hl]
    exact h
  | some l =>
    have hkeep := passEnd_touches raw lock wake d
    have htrans := passEnd_trans d hl raw lock wake
    have hother {m : Fin 16} (hm : m ≠ l) : (none = some m) ↔ d.scanner.laneInPass = some m := by
      rw [hl]
      simp [Ne.symm hm]
    have hk := h l
    obtain ⟨f, hf, hheld, howner⟩ := completePass_trans d l raw lock
    intro m
    rw [hkeep .states (by decide) m, (hkeep .settings (by decide) m).1, passEnd_scanner d hl raw lock wake, htrans]
    dsimp only [Scanner.freed]
    by_cases hm : m = l
    · subst hm
      rw [upd_getElem_self, LaneScan.ended]
      split
      · exact hk.unmarked.congr (by simp) rfl rfl rfl rfl
      · next hd =>
        rw [Bool.not_eq_true] at hd
        have hs : d.lanes[m].state.scanning = true := by
          refine Bool.eq_true_of_not_eq_false fun hoff => ?_
          rw [hk.discarded hl hoff] at hd
          cases hd
        rw [hf, upd_getElem_self]
        exact (hk.passed hs hd raw (d.dead m) (hheld _) (howner _ hk.owner)).congr (by simp) rfl rfl rfl rfl
    · have htm : (if d.scanner.lanes[l].discard then d.trans else (d.completePass l raw lock).trans)[m] = d.trans[m] := by
        split
        · rfl
        · rw [hf, upd_getElem_ne _ _ hm]
      rw [upd_getElem_ne _ _ hm, htm]
      exact (h m).congr (hother hm) rfl rfl rfl rfl

/-! ### The forced switch (R58) -/

theorem latchBlocked_pressed (m : LaneScan) (p : Fin 128) : m.latchBlocked.keys[p] = .pressed ↔ m.keys[p] = .pressed := by
  unfold LaneScan.latchBlocked
  dsimp only
  rw [mapTab_getElem]
  split
  · next hb => simp [hb]
  · rfl

/-- No key is PRESSED once all PRESSED keys are LATCHED. -/
theorem latched_pressed (m : LaneScan) (p : Fin 128) :
    (m.latchAll (m.positions .pressed)).latchBlocked.keys[p] ≠ .pressed := by
  rw [Ne, latchBlocked_pressed, latchAll_keys]
  split
  · decide
  · next hp => exact fun hk => hp (by simpa [LaneScan.positions] using hk)

theorem forced_rest (m : LaneScan) (ps : List (Fin 128)) : (m.latchAll ps).latchBlocked.waiting = m.waiting ∧
    (m.latchAll ps).latchBlocked.dueTimer = m.dueTimer ∧ (m.latchAll ps).latchBlocked.discard = m.discard ∧
    (m.latchAll ps).latchBlocked.missCount = m.missCount ∧ (m.latchAll ps).latchBlocked.integ = m.integ := by
  simp only [LaneScan.latchBlocked, LaneScan.latchAll, and_self]

/-- A key that is RELEASED stays so. -/
theorem latched_released (m : LaneScan) (p : Fin 128) (h : m.keys[p] = .released) :
    (m.latchAll (m.positions .pressed)).latchBlocked.keys[p] = .released := by
  have hp : p ∉ m.positions .pressed := by
    rw [LaneScan.positions, List.mem_filter, h]
    exact fun hmem => absurd hmem.2 (by decide)
  unfold LaneScan.latchBlocked
  dsimp only
  rw [mapTab_getElem, latchAll_keys, if_neg hp, h]
  rfl

theorem KeysOk.forced {inPass : Prop} {s : Bool} {g : Settings} {m : LaneScan} {t : KeyTrans} (h : KeysOk inPass s g m t) :
    KeysOk inPass s g (m.latchAll (m.positions .pressed)).latchBlocked
      (t.releaseAll (m.positions .pressed)) := by
  have hnone := latched_pressed m
  have hreleased := latched_released m
  obtain ⟨hwait, hdue, hdiscard, -, hinteg⟩ := forced_rest m (m.positions .pressed)
  generalize (m.latchAll (m.positions .pressed)).latchBlocked = v at hnone hreleased hwait hdue hdiscard hinteg ⊢
  constructor
  case limit =>
    have hzero : v.countKeys .pressed = 0 := by
      rw [LaneScan.countKeys, LaneScan.positions, List.filter_eq_nil_iff.mpr fun p _ => by simpa using hnone p]
      rfl
    exact hzero ▸ Nat.zero_le _
  case integ => exact hinteg ▸ h.integ
  case quiet =>
    intro hoff
    obtain ⟨hw, hquiet⟩ := h.quiet hoff
    exact ⟨hwait.trans hw, fun p => ⟨hreleased p (hquiet p).1, hinteg ▸ (hquiet p).2⟩⟩
  case due => exact hdue ▸ h.due
  case held =>
    intro p
    rw [releasePressed_held h p]
    simpa using hnone p
  case owner => exact h.owner.releaseAll _
  case discarded => exact hdiscard ▸ h.discarded
  case marked => exact hdiscard ▸ h.marked

theorem forcedSwitch_keyboards {d : Device} (h : Keyboards d) (l : Fin 16) : Keyboards (forcedSwitch l d) := by
  have hkeep := forcedSwitch_touches l d
  cases hx : d.keymaps.lanes[l].switchTimer with
  | none =>
    unfold forcedSwitch
    rw [hx]
    exact h
  | some x =>
    cases hi : d.keymaps.lanes[l].pendingImg with
    | none =>
      unfold forcedSwitch
      rw [hx, hi]
      exact h
    | some i =>
      refine h.upd (fun m _ => ⟨hkeep .states (by decide) m, (hkeep .settings (by decide) m).1⟩)
        (forcedSwitch_scanner d hx hi) (forcedSwitch_trans d hx hi) ?_
      rw [hkeep .states (by decide) l, (hkeep .settings (by decide) l).1]
      exact (h l).forced

/-! ### The keyboards, row by row -/

theorem blank_keyboards (cause : ResetCause) (i : Inputs) : Keyboards (Device.blank cause i) := by
  intro l
  have hm : (Device.blank cause i).scanner.lanes[l] = resetLaneScan := by simp [Device.blank, resetScanner]
  have ht : (Device.blank cause i).trans[l] = resetKeyTrans := by simp [Device.blank]
  have hr : (Device.blank cause i).lanes[l] = resetLaneRec := by simp [Device.blank]
  rw [hm, ht, hr]
  exact keysOk_clear (replicate_getElem _) (replicate_getElem _) (fun _ => rfl) (by decide) (replicate_getElem _) rfl
    (fun hp => by cases hp) (fun hd => by cases hd)

theorem startUp_keyboards (cause : ResetCause) (i : Inputs) : Keyboards (startUp cause i) := by
  have ht := AssignmentsKept.startUp_touches cause i
  exact (blank_keyboards cause i).congr (fun l => by rw [ht .lanes (by decide)]; exact ⟨rfl, rfl⟩) (ht .scanner (by decide))
    (ht .trans (by decide))

theorem nextLane_some {m : Scanner} {l : Fin 16} (h : m.nextLane = some l) : m.laneInPass = none ∧ m.lanes[l].waiting = true := by
  unfold Scanner.nextLane Scanner.idle at h
  split at h
  · next hidle => exact ⟨Option.isNone_iff_eq_none.mp hidle, List.find?_some (p := fun l : Fin 16 => m.lanes[l].waiting) h⟩
  · cases h

theorem act_keyboards {c : Instr} {d e : Device} (ha : Act c d e) (h : Keyboards d) : Keyboards e := by
  by_cases hq : Block.scanner ∈ footprint c ∨ Block.trans ∈ footprint c ∨ Block.states ∈ footprint c ∨
      Block.settings ∈ footprint c
  · cases ha with
    | nothing => exact h
    | openLane l _ hl => exact openLane_keyboards h hl
    | suspendLane l _ hl =>
      refine h.congr (fun m => ?_) (suspendLane_touches d l .scanner (by decide)) (suspendLane_touches d l .trans (by decide))
      rw [suspendLane_lanes, upd_getElem]
      split
      · next hm => exact ⟨by rw [hm, hl]; rfl, rfl⟩
      · exact ⟨rfl, rfl⟩
    | resumeLane l _ hl =>
      refine h.congr (fun m => ?_) (resumeLane_touches d l .scanner (by decide)) (resumeLane_touches d l .trans (by decide))
      rw [resumeLane_lanes, upd_getElem]
      split
      · next hm => exact ⟨by rw [hm, hl]; rfl, rfl⟩
      · exact ⟨rfl, rfl⟩
    | closeLane l => exact depart_keyboards h l rfl _
    | closeFaulted l _ hl =>
      refine h.congr (fun m => ?_) (closeFaulted_touches d l .scanner (by decide)) (closeFaulted_touches d l .trans (by decide))
      rw [closeFaulted_lanes, upd_getElem]
      split
      · next hm =>
        rw [(LaneRec.enterClosedWake_keeps _).1, (LaneRec.enterClosedWake_keeps _).2.1, hm, hl]
        exact ⟨rfl, rfl⟩
      · exact ⟨rfl, rfl⟩
    | resetLane l => exact resetLane_keyboards h l
    | setPending l g =>
      refine h.congr (fun m => ?_) rfl rfl
      rw [Device.updLane_lanes, upd_getElem]
      split <;> exact ⟨rfl, rfl⟩
    | setAtOnce l g _ hl => exact setAtOnce_keyboards h hl _
    | setScan => exact fun l => h l
    | readKeys l =>
      have hl := h l
      exact h.updScan ⟨hl.limit, hl.integ, hl.quiet, hl.due, hl.held, hl.owner, hl.discarded, hl.marked⟩
    | duePoint l => exact duePoint_keyboards h l
    | passStart =>
      unfold Machine.passStart
      split
      · next l hl => exact startPass_keyboards h (nextLane_some hl).1 (nextLane_some hl).2
      · exact h
    | passEnd raw a b wake => exact passEnd_keyboards h raw _ wake
    | forcedSwitch l => exact forcedSwitch_keyboards h l
    | frameEnd => exact fun l => h l
    | trunkReset | powerOn | resetPinRise => exact startUp_keyboards _ _
    | powerOnHeld i | resetPinLow i => exact fun l => blank_keyboards .pin i l
    | setDrawer row | setSupply row | setSupplyFault row => simp [footprint_setDrawerRow row] at hq
    | _ => simp [footprint] at hq
  · rw [not_or, not_or, not_or] at hq
    obtain ⟨hm, ht, hs, hg⟩ := hq
    exact h.congr (fun l => ⟨congrArg LaneState.scanning (ha.touches _ hs l), (ha.touches _ hg l).1⟩) (ha.touches _ hm)
      (ha.touches _ ht)

theorem KeysOk.us {inPass : Prop} {s : Bool} {g : Settings} {m : LaneScan} {t : KeyTrans} (h : KeysOk inPass s g m t) :
    KeysOk inPass s g m.us t :=
  ⟨h.limit, h.integ, h.quiet, by simpa [LaneScan.us, countDown] using h.due, h.held, h.owner, h.discarded, h.marked⟩

theorem tick_keyboards {d : Device} (h : Keyboards d) : Keyboards d.tick := by
  have hus (l : Fin 16) : KeysOk (d.scanner.us.laneInPass = some l) d.lanes[l].state.scanning d.lanes[l].active
      d.scanner.us.lanes[l] d.trans[l] := by
    have hm : d.scanner.us.lanes[l] = d.scanner.lanes[l].us := mapTab_getElem _ _ l
    rw [hm]
    exact (h l).us
  unfold Device.tick
  dsimp only
  split
  · exact hus
  · intro l
    have hl : (mapTab d.lanes LaneRec.ms)[l] = d.lanes[l].ms := mapTab_getElem _ _ l
    have hstate : (mapTab d.lanes LaneRec.ms)[l].state = d.lanes[l].state := by
      rw [hl]
      rfl
    have hactive : (mapTab d.lanes LaneRec.ms)[l].active = d.lanes[l].active := by
      rw [hl]
      rfl
    exact (hus l).congr Iff.rfl (congrArg LaneState.scanning hstate) hactive rfl rfl

/-! ### Both together -/

/-- A due timer runs in a scanning lane alone. -/
theorem Keyboards.open_of_due {d : Device} (h : Keyboards d) (l : Fin 16) (ht : d.scanner.lanes[l].dueTimer.isSome) :
    d.lanes[l].state ≠ .closed := ne_closed ((h l).due.mp ht)

/-- Settles O56: held records come and go with the PRESSED keys, and each lane operation sets watch timer, window and
wake monitor as the state it enters asks. -/
theorem stepKeepsLanes : Obligations.StepKeepsLanes := by
  intro s t hk hl h
  have hkeep := step_keeps (P := fun d => Keyboards d ∧ Fit RecOk d.lanes) (fun _ _ hp => ⟨fun l => hp.1 l, hp.2⟩)
    (fun ha hp => ⟨act_keyboards ha hp.1, act_lanes ha hp.1.open_of_due hp.2⟩)
    (fun _ hp => ⟨tick_keyboards hp.1, tick_lanes hp.2⟩) h ⟨(keyboardSound_iff _).mp hk, (laneSound_iff _).mp hl⟩
  exact ⟨(keyboardSound_iff _).mpr hkeep.1, (laneSound_iff _).mpr hkeep.2⟩

end Sys2Proof.LanesKept

/-! ## A part that has just started meets every invariant (R195) -/

namespace Sys2Proof.StartUp

open Sys2Proof.Machine Sys2Proof.Safety Sys2Proof.QueueBounds

variable (cause : ResetCause) (i : Inputs)

theorem startUp_queues : QueuesBounded (startUp cause i) := by
  refine ⟨startUp_fit length_bound cause i, ?_⟩
  rw [startUp_trunk]
  simp [resetTrunk]

theorem startUp_receiver : ReceiverSound (startUp cause i) := by
  have h : CountsKept.Receives (resetTrunk cause i) := .waiting rfl
  unfold ReceiverSound
  rw [startUp_trunk]
  exact h

theorem startUp_settings : SettingsInRange (startUp cause i) := by
  have h := (AssignmentsKept.startUp_touches cause i .lanes (by decide) : (startUp cause i).lanes = _)
  have hblank := AssignmentsKept.blank_inRange cause i
  rw [← h] at hblank
  exact hblank

theorem startUp_recs : LaneSound (startUp cause i) := by
  have h := (AssignmentsKept.startUp_touches cause i .lanes (by decide) : (startUp cause i).lanes = _)
  rw [LanesKept.laneSound_iff, h]
  exact LanesKept.blank_lanes cause i

theorem startUp_counters : CountersBounded (startUp cause i) := by
  have ht := AssignmentsKept.startUp_touches cause i
  refine (CountsKept.bounded_iff _).mpr
    { trunk := ?_, unwanted := (CountsKept.blank_unwanted cause i).same (ht .slots (by decide))
      losses := startUp_fit loss_bound cause i
      drops := (CountsKept.blank_drops cause i).same (ht .consumers (by decide))
      misses := (CountsKept.blank_misses cause i).same (congrArg Scanner.lanes (ht .scanner (by decide)))
      drawers := CountsKept.startUp_counts cause i
      ports := (CountsKept.blank_port_counts cause i).same (ht .ports (by decide))
      rules := (CountsKept.blank_hits cause i).same (ht .rules (by decide)) }
  rw [startUp_trunk]
  simp [CountsKept.TrunkCounts, resetTrunk]

/-- Settles O60: the part starts from the reset values, to which start-up adds queue entries and the inhibit alone. -/
theorem startMeetsInvariants : Obligations.StartMeetsInvariants := by
  intro cause i
  obtain ⟨hslots, hconsumers⟩ := (SlotsKept.sound_iff _).mpr (SlotsKept.startUp_sound cause i)
  obtain ⟨hports, hheld⟩ := (BuffersKept.ok_iff _).mpr (BuffersKept.startUp_ok cause i)
  exact ⟨startUp_queues cause i, (SupplyKept.supplySound_iff _).mpr (SupplyKept.startUp_sound cause i), hslots,
    hconsumers, (LanesKept.keyboardSound_iff _).mpr (LanesKept.startUp_keyboards cause i), startUp_recs cause i, hports,
    hheld, startUp_settings cause i, AssignmentsKept.startUp_maps cause i, startUp_receiver cause i,
    (CountsKept.tonesSound_iff _).mpr (CountsKept.startUp_tones cause i), startUp_counters cause i⟩

end Sys2Proof.StartUp

/-! ## The machine: which commands complete (assumptions 4, 10, 21) -/

namespace Sys2Proof

/-- For a command that names one item of a kind: how many of them the part has, and the number named. -/
def Instr.site : Instr → Option (Nat × Nat)
  | .duePoint lane => some (16, lane)
  | .forcedKeymapSwitch lane => some (16, lane)
  | .watchPoint lane _ _ _ => some (16, lane)
  | .wakeHoldOffExpiry lane => some (16, lane)
  | .tenderTimerExpiry lane => some (16, lane)
  | .scannerCharacter port _ _ => some (32, port)
  | .idleGapExpiry port => some (32, port)
  | .admissionLimitExpiry lane => some (17, lane)
  | .stallTimerExpiry consumer => some (8, consumer)
  | .senseChange drawer _ => some (32, drawer)
  | .stabilityTimerExpiry drawer => some (32, drawer)
  | .pulseEnd drawer => some (32, drawer)
  | .confirmTimeout drawer => some (32, drawer)
  | .unitRecovered unit => some (8, unit)
  | .openTooLong drawer => some (32, drawer)
  | .tonePhaseEnd lane => some (16, lane)
  | .lampBoundary lane => some (16, lane)
  | .scannerStartBit port => some (32, port)
  | _ => none

end Sys2Proof

namespace Sys2Proof.Machine

theorem wellFormed_of_site {c : Instr} {n i : Nat} (h : c.site = some (n, i)) : c.wellFormed = decide (i < n) := by
  cases c with
  | duePoint | forcedKeymapSwitch | watchPoint | wakeHoldOffExpiry | tenderTimerExpiry | scannerCharacter
  | idleGapExpiry | admissionLimitExpiry | stallTimerExpiry | senseChange | stabilityTimerExpiry | pulseEnd
  | confirmTimeout | unitRecovered | openTooLong | tonePhaseEnd | lampBoundary | scannerStartBit =>
    cases h
    rfl
  | _ => cases h

theorem exec_of_site {c : Instr} {n i : Nat} (h : c.site = some (n, i)) (s : State) :
    ∃ e f, exec c s = s.runAt n i e f := by
  cases c with
  | duePoint | forcedKeymapSwitch | watchPoint | wakeHoldOffExpiry | tenderTimerExpiry | scannerCharacter
  | idleGapExpiry | admissionLimitExpiry | stallTimerExpiry | senseChange | stabilityTimerExpiry | pulseEnd
  | confirmTimeout | unitRecovered | openTooLong | tonePhaseEnd | lampBoundary | scannerStartBit =>
    cases h
    exact ⟨_, _, rfl⟩
  | _ => cases h

theorem wellFormed_of_no_site {c : Instr} (h : c.site = none) : c.wellFormed = true := by
  cases c with
  | duePoint | forcedKeymapSwitch | watchPoint | wakeHoldOffExpiry | tenderTimerExpiry | scannerCharacter
  | idleGapExpiry | admissionLimitExpiry | stallTimerExpiry | senseChange | stabilityTimerExpiry | pulseEnd
  | confirmTimeout | unitRecovered | openTooLong | tonePhaseEnd | lampBoundary | scannerStartBit => cases h
  | _ => rfl

theorem exec_of_no_site {c : Instr} (h : c.site = none) (hp : ∀ i, c ≠ .powerOn i) (hr : ∀ i, c ≠ .resetPinRise i)
    (s : State) : ∃ f, exec c s = s.run f := by
  cases c with
  | powerOn i => exact absurd rfl (hp i)
  | resetPinRise i => exact absurd rfl (hr i)
  | duePoint | forcedKeymapSwitch | watchPoint | wakeHoldOffExpiry | tenderTimerExpiry | scannerCharacter
  | idleGapExpiry | admissionLimitExpiry | stallTimerExpiry | senseChange | stabilityTimerExpiry | pulseEnd
  | confirmTimeout | unitRecovered | openTooLong | tonePhaseEnd | lampBoundary | scannerStartBit => cases h
  | tableWalkStep => exact ⟨_, exec_tableWalkStep s⟩
  | waitIdleCharacter => exact ⟨_, exec_waitIdleCharacter s⟩
  | receiverIdle => exact ⟨_, exec_receiverIdle s⟩
  | transmitGapEnd => exact ⟨_, exec_transmitGapEnd s⟩
  | resetPinLow => exact ⟨_, exec_resetPinLow s⟩
  | trunkCharacterStored c => exact ⟨_, exec_trunkCharacterStored s c⟩
  | _ => exact ⟨_, rfl⟩

/-- Every command of the machine but the two that end a reset acts while the reset input is high, on what it names. -/
theorem exec_runs {c : Instr} (hw : c.wellFormed = true) (hp : ∀ i, c ≠ .powerOn i) (hr : ∀ i, c ≠ .resetPinRise i)
    (s : State) : ∃ f, exec c s = s.run f := by
  cases hs : c.site with
  | none => exact exec_of_no_site hs hp hr s
  | some x =>
    obtain ⟨e, f, hf⟩ := exec_of_site hs s
    have hlt := of_decide_eq_true ((wellFormed_of_site hs).symm.trans hw)
    exact ⟨_, hf.trans (s.runAt_of_lt e f hlt)⟩

theorem run_completes (s : State) (f : Device → Device) : ∃ t, s.run f = .next t ∧ t.pending = s.pending := by
  cases h : s.dev.inReset with
  | true => exact ⟨s, s.run_of_inReset f h, rfl⟩
  | false => exact ⟨_, s.run_of_running f h, rfl⟩

theorem completes_of_wellFormed {c : Instr} (hw : c.wellFormed = true) (s : State) :
    ∃ t, exec c s = .next t ∧ t.pending = s.pending := by
  by_cases hp : ∃ i, c = .powerOn i
  · obtain ⟨i, rfl⟩ := hp
    exact ⟨_, exec_powerOn s i, rfl⟩
  by_cases hr : ∃ i, c = .resetPinRise i
  · obtain ⟨i, rfl⟩ := hr
    exact ⟨_, exec_resetPinRise s i, rfl⟩
  obtain ⟨f, hf⟩ := exec_runs hw (not_exists.mp hp) (not_exists.mp hr) s
  exact hf ▸ run_completes s f

theorem faults_of_not_wellFormed {c : Instr} (hw : c.wellFormed = false) (s : State) : ∃ f, exec c s = .fault f := by
  cases hs : c.site with
  | none => exact absurd hw (by simp [wellFormed_of_no_site hs])
  | some x =>
    obtain ⟨e, f, hf⟩ := exec_of_site hs s
    have hge := of_decide_eq_false ((wellFormed_of_site hs).symm.trans hw)
    exact ⟨e, hf.trans (s.runAt_of_ge e f (Nat.not_lt.mp hge))⟩

/-- Settles O1: by the definition of a step. -/
theorem stepRunsFrontCommand : Obligations.StepRunsFrontCommand := by
  intro s c rest
  rfl

/-- Settles O3: a row acts, or waits out a reset, on an item that the part has, and faults on any other. -/
theorem wellFormedCommandsComplete : Obligations.WellFormedCommandsComplete := by
  intro c s
  exact ⟨fun hw => completes_of_wellFormed hw s, fun hw => faults_of_not_wellFormed hw s⟩

/-- Settles O4: every other row is guarded by the reset input. -/
theorem resetHoldsThePart : Obligations.ResetHoldsThePart := by
  intro c s hreset hw hp hr
  obtain ⟨f, hf⟩ := exec_runs hw hp hr s
  exact hf.trans (s.run_of_inReset f hreset)

end Sys2Proof.Machine

/-! ## The machine: what a microsecond does (assumptions 5, 6, 9) -/

namespace Sys2Proof.Machine

theorem tick_of_lt {d : Device} (h : d.usPhase < 999) : d.tick =
    { d with scanner := d.scanner.us, tlu := { d.tlu with generators := mapTab d.tlu.generators Generator.us }
             usPhase := d.usPhase + 1 } := by
  unfold Device.tick
  dsimp only
  rw [if_pos (by omega)]

theorem tick_of_ge {d : Device} (h : ¬ d.usPhase < 999) : d.tick =
    { Device.ms { d with scanner := d.scanner.us
                         tlu := { d.tlu with generators := mapTab d.tlu.generators Generator.us } } with usPhase := 0 } := by
  unfold Device.tick
  dsimp only
  rw [if_neg (by omega)]

theorem us_scanner (m : Scanner) (l : Fin 16) :
    m.us.lanes[l] = { m.lanes[l] with dueTimer := m.lanes[l].dueTimer.map (· - 1) } :=
  mapTab_getElem m.lanes LaneScan.us l

theorem Generator.us_eq (g : Generator) :
    g.us = { g with phaseUs := g.phaseUs + (if g.playing.isSome then 1 else 0) } := by
  unfold Generator.us
  split <;> rfl

theorem Drawer.ms_eq (w : Drawer) :
    w.ms = { w with
      stability := w.stability.map (· - 1), kickTimer := w.kickTimer.map (· - 1)
      openTime := if w.position = .opened then min 4294967295 (w.openTime + 1) else w.openTime
      limitTimer := if w.limitTimer.isSome ∧ 999 ≤ w.limitSubMs then w.limitTimer.map (· - 1) else w.limitTimer
      limitSubMs := if w.limitTimer.isSome ∧ 999 ≤ w.limitSubMs then 0
        else if w.limitTimer.isSome then w.limitSubMs + 1 else w.limitSubMs } := by
  unfold Drawer.ms Drawer.limitMs
  cases hl : w.limitTimer with
  | none => simp [countDown, satOpenTime]
  | some t =>
    by_cases hs : w.limitSubMs + 1 < 1000
    · have hn : ¬ 999 ≤ w.limitSubMs := by omega
      simp [hs, hn, countDown, satOpenTime]
    · have hn : 999 ≤ w.limitSubMs := by omega
      simp [hs, hn, countDown, satOpenTime]

/-- Settles O2: below the last microsecond of a millisecond only what counts microseconds moves; at it every block's
millisecond passes too. -/
theorem emptyQueueLetsTimePass : Obligations.EmptyQueueLetsTimePass := by
  intro s hq hreset
  dsimp only
  have hstep : step s = .next { s with dev := s.dev.tick } := by
    unfold step
    split
    · next hc => exact absurd (hq.symm.trans hc) (by simp)
    · exact s.run_of_running Device.tick hreset
  refine ⟨_, hstep, hq, ?_⟩
  generalize s.dev = d
  by_cases h : d.usPhase < 999
  · rw [tick_of_lt h, if_pos h]
    refine ⟨by simp [Scanner.us], fun l => ⟨?_, us_scanner d.scanner l, ?_, ?_⟩, fun n => ⟨?_, ?_⟩, fun q => ?_,
      fun c => ⟨?_, ?_⟩⟩
    · simp
    · simp
    · simp [Generator.us_eq]
    · simp
    · simp
    · simp
    · simp
    · simp
  · rw [tick_of_ge h, if_neg h]
    refine ⟨by simp [Scanner.us, Device.ms, ToneUnit.ms], fun l => ⟨?_, us_scanner d.scanner l, ?_, ?_⟩,
      fun n => ⟨?_, ?_⟩, fun q => ?_, fun c => ⟨?_, ?_⟩⟩
    · exact mapTab_getElem d.lanes LaneRec.ms l
    · exact mapTab_getElem d.keymaps.lanes LaneMap.ms l
    · simp [Device.ms, ToneUnit.ms, Generator.us_eq, Generator.ms, countDown]
    · exact mapTab_getElem d.ports Port.ms n
    · refine (mapTab_getElem d.drawers.drawers Drawer.ms n).trans ?_
      simp [Drawer.ms_eq]
    · exact mapTab_getElem d.pool.lanes PendLane.ms q
    · exact mapTab_getElem d.delivery.consumers Consumer.ms c
    · exact mapTab_getElem d.drawers.units SupplyUnit.ms c

end Sys2Proof.Machine

/-! ## The values of a device reset (R195) -/

namespace Sys2Proof.StartUp

open Sys2Proof.Machine

variable (cause : ResetCause) (i : Inputs)

theorem blank_lane (l : Fin 16) : (Device.blank cause i).lanes[l] = resetLaneRec := by simp [Device.blank]

theorem blank_scan (l : Fin 16) : (Device.blank cause i).scanner.lanes[l] = resetLaneScan := by
  simp [Device.blank, resetScanner]

theorem blank_trans (l : Fin 16) : (Device.blank cause i).trans[l] = resetKeyTrans := by simp [Device.blank]

theorem blank_map (l : Fin 16) :
    (Device.blank cause i).keymaps.lanes[l] = { active := none, pendingImg := none, switchTimer := none } := by
  simp [Device.blank, resetKeymaps]

theorem blank_generator (l : Fin 16) : (Device.blank cause i).tlu.generators[l] = idleGenerator := by
  simp [Device.blank, resetToneUnit]

theorem blank_lamp (l : Fin 16) : (Device.blank cause i).tlu.lamps[l] = { overrideMode := none, staged := none } := by
  simp [Device.blank, resetToneUnit]

theorem blank_image (m : Fin 8) : (Device.blank cause i).keymaps.images[m] = emptyImage := by
  simp [Device.blank, resetKeymaps]

theorem blank_port (n : Fin 32) : (Device.blank cause i).ports[n] = resetPort := by simp [Device.blank]

theorem blank_rules (n : Fin 32) : (Device.blank cause i).rules.active[n] = { rule := zeroRule, hits := 0 } ∧
    (Device.blank cause i).rules.shadow[n] = { rule := zeroRule, hits := 0 } := by simp [Device.blank, resetRules]

theorem blank_drawer (n : Fin 32) : (Device.blank cause i).drawers.drawers[n] = resetDrawer i.senseOpen n := by
  simp [Device.blank, resetDrawers]

theorem blank_slot (r : Fin 512) : (Device.blank cause i).pool.slots[r] = none := by simp [Device.blank, resetPool]

theorem blank_queue (q : Fin 17) : (Device.blank cause i).pool.lanes[q] = emptyPendLane := by
  simp [Device.blank, resetPool]

theorem blank_entry (e : Fin 64) : (Device.blank cause i).delivery.table[e] = zeroTableEntry := by
  simp [Device.blank, resetDelivery]

theorem blank_consumer (c : Fin 8) :
    (Device.blank cause i).delivery.consumers[c] = resetConsumer (if c = 0 then .active else .inactive) := by
  simp [Device.blank, resetDelivery]

theorem blank_unit (c : Fin 8) : (Device.blank cause i).drawers.units[c] = { state := .available, timer := none } := by
  simp [Device.blank, resetDrawers]

theorem blank_tone (e : Fin 8) : (Device.blank cause i).tlu.tones[e] = resetTone e := by
  simp [Device.blank, resetToneUnit]

/-- Nd and Nr of the default settings: 500 ms and 100 ms, in passes of 2 ms (R68). -/
theorem resetKeyTrans_eq : resetKeyTrans =
    { held := resetKeyTrans.held, owner := none, countdown := 0, delayPasses := 250, periodPasses := 50 } := by
  have hd : defaultSettings.delayPasses = 250 := by decide
  have hp : defaultSettings.periodPasses = 50 := by decide
  simp only [resetKeyTrans, hd, hp]

theorem resetTone_other {e : Fin 8} (h2 : 2 ≤ e.val) (h6 : e.val ≤ 6) :
    resetTone e = { divider := 200, onTime := 6, offTime := 0, repeats := 1, level := 0 } := by
  have h0 : e ≠ 0 := by rintro rfl; simp at h2
  have h1 : e ≠ 1 := by rintro rfl; simp at h2
  have h7 : e ≠ 7 := by rintro rfl; simp at h6
  rw [resetTone, if_neg h0, if_neg h1, if_neg h7]

/-- Settles O5: every table starts as copies of one record, or as a function of the index. -/
theorem deviceResetValues : Obligations.DeviceResetValues := by
  intro cause i
  refine ⟨fun l p => ⟨blank_lane cause i l, ?_, ?_, ?_, ?_, ?_, blank_map cause i l, blank_generator cause i l,
      blank_lamp cause i l⟩,
    rfl, fun m e => ⟨?_, ?_, rfl⟩,
    fun n => ⟨blank_port cause i n, (blank_rules cause i n).1, (blank_rules cause i n).2, ?_⟩,
    fun r q => ⟨blank_slot cause i r, blank_queue cause i q⟩, rfl,
    fun e c => ⟨blank_entry cause i e, blank_consumer cause i c, blank_unit cause i c⟩, rfl, rfl,
    ⟨blank_tone cause i 0, blank_tone cause i 1, blank_tone cause i 7,
      fun c h2 h6 => (blank_tone cause i c).trans (resetTone_other h2 h6), rfl⟩, ?_, rfl, rfl⟩
  · rw [blank_scan]
    rfl
  · rw [blank_scan]
    exact LanesKept.replicate_getElem 0 p
  · rw [blank_scan]
    exact LanesKept.replicate_getElem KeyState.released p
  · rw [blank_trans]
    exact resetKeyTrans_eq
  · rw [blank_trans]
    exact LanesKept.replicate_getElem none p
  · rw [blank_image]
    rfl
  · rw [blank_image]
    exact LanesKept.replicate_getElem zeroKeyEntry e
  · rw [blank_drawer]
    simp [resetDrawer, sensed, hasBit]
  · cases ha : i.strapA <;> cases hb : i.strapB <;> simp [Device.blank, resetTrunk, rateOfStraps, ha, hb]

end Sys2Proof.StartUp

/-! ## The events that a part queues, and the requests it answers (R108, R188, R189) -/

namespace Sys2Proof.Events

open Sys2Proof.Machine Sys2Proof.Claims Sys2Proof.OpenCounter

/-! ### Events without flags and body -/

/-- The notice of an event as it is told. -/
def notice (t : Told) : Notice :=
  { kind := t.1, source := t.2.1, detail1 := byteOf t.2.2.1, detail2 := byteOf t.2.2.2 }

theorem offer_eq_appended {d : Device} {q : Fin 17} (n : Notice) (h : room d q 1) :
    d.offer q n = { d with pool := appended d.pool q { ev := d.eventOf q n, body := n.body } } := by
  rw [d.offer_of_room q n (by omega)]
  simp only [Device.updPend, Device.updPool, appended, upd]
  simp

theorem offer_notice {d : Device} {q : Fin 17} (t : Told) (h : room d q 1) :
    d.offer q (notice t) = { d with pool := queued d q t.1 t.2.1 t.2.2.1 t.2.2.2 } := offer_eq_appended _ h

theorem appended_same (p : Pool) (q : Fin 17) (e : Entry) :
    (appended p q e).lanes[q] = { p.lanes[q] with seq := p.lanes[q].seq + 1, queue := p.lanes[q].queue ++ [e] } := by
  simp [appended]

theorem appended_other (p : Pool) {q m : Fin 17} (e : Entry) (h : m ≠ q) : (appended p q e).lanes[m] = p.lanes[m] := by
  have hv : q.val ≠ m.val := fun hq => h (Fin.ext hq.symm)
  simp [appended, hv]

theorem queued_congr {d e : Device} (hp : d.pool = e.pool) (hc : d.trunk.clock = e.trunk.clock) (q : Fin 17) (k : Kind)
    (source : Option Byte) (d1 d2 : Nat) : queued d q k source d1 d2 = queued e q k source d1 d2 := by
  unfold queued entryOf
  rw [hp, hc]

theorem queuedAll_cons (d : Device) (q : Fin 17) (t : Told) (ts : List Told) :
    queuedAll d q (t :: ts) = queuedAll { d with pool := queued d q t.1 t.2.1 t.2.2.1 t.2.2.2 } q ts := rfl

theorem queuedAll_congr {d e : Device} (hp : d.pool = e.pool) (hc : d.trunk.clock = e.trunk.clock) (q : Fin 17)
    (ts : List Told) : queuedAll d q ts = queuedAll e q ts := by
  induction ts generalizing d e with
  | nil => exact hp
  | cons t ts ih => exact ih (queued_congr hp hc q _ _ _ _) hc

theorem queuedAll_append (d : Device) (q : Fin 17) (xs ys : List Told) :
    queuedAll d q (xs ++ ys) = queuedAll { d with pool := queuedAll d q xs } q ys := by
  induction xs generalizing d with
  | nil => rfl
  | cons t xs ih => exact ih _

theorem queuedAll_one (d : Device) (q : Fin 17) (t : Told) :
    queuedAll d q [t] = queued d q t.1 t.2.1 t.2.2.1 t.2.2.2 := rfl

theorem queuedAll_length (d : Device) (q : Fin 17) (ts : List Told) :
    (queuedAll d q ts).lanes[q].queue.length = d.pool.lanes[q].queue.length + ts.length := by
  induction ts generalizing d with
  | nil => rfl
  | cons t ts ih =>
    rw [queuedAll_cons, ih, queued, appended_same, List.length_append, List.length_cons, List.length_cons,
      List.length_nil]
    omega

theorem queuedAll_other (d : Device) {q m : Fin 17} (ts : List Told) (h : m ≠ q) :
    (queuedAll d q ts).lanes[m] = d.pool.lanes[m] := by
  induction ts generalizing d with
  | nil => rfl
  | cons t ts ih =>
    rw [queuedAll_cons, ih]
    exact appended_other d.pool _ h

theorem queuedAll_rest (d : Device) (q : Fin 17) (ts : List Told) :
    queuedAll d q ts = { d.pool with lanes := (queuedAll d q ts).lanes } := by
  induction ts generalizing d with
  | nil => rfl
  | cons t ts ih => exact ih _

/-- The part after such events are offered on one queue, whether it has room for them or not. -/
def tells (d : Device) (q : Fin 17) (ts : List Told) : Device := ts.foldl (fun e t => e.offer q (notice t)) d

theorem tells_cons (d : Device) (q : Fin 17) (t : Told) (ts : List Told) :
    tells d q (t :: ts) = tells (d.offer q (notice t)) q ts := rfl

theorem tells_append (d : Device) (q : Fin 17) (xs ys : List Told) :
    tells d q (xs ++ ys) = tells (tells d q xs) q ys := List.foldl_append

theorem tells_touches (d : Device) (q : Fin 17) (ts : List Told) : Touches [.queues] d (tells d q ts) :=
  .foldl (fun e t => tell_touches e q (notice t) rfl) ts d

theorem tells_other (d : Device) {q m : Fin 17} (ts : List Told) (h : m ≠ q) :
    (tells d q ts).pool.lanes[m] = d.pool.lanes[m] := by
  induction ts generalizing d with
  | nil => rfl
  | cons t ts ih =>
    rw [tells_cons, ih]
    exact d.offer_other q m (notice t) h

/-- What an offer makes of the pool depends on the pool and the device clock alone. -/
theorem offer_pool_congr {d e : Device} (hp : d.pool = e.pool) (hc : d.trunk.clock = e.trunk.clock) (q : Fin 17)
    (n : Notice) : (d.offer q n).pool = (e.offer q n).pool := by
  have hev : d.eventOf q n = e.eventOf q n := by
    unfold Device.eventOf
    rw [hp, hc]
  rw [d.offer_slots, e.offer_slots, offer_lanes, offer_lanes, hev, hp]

theorem tells_pool_congr {d e : Device} (hp : d.pool = e.pool) (hc : d.trunk.clock = e.trunk.clock) (q : Fin 17)
    (ts : List Told) : (tells d q ts).pool = (tells e q ts).pool := by
  induction ts generalizing d e with
  | nil => exact hp
  | cons t ts ih =>
    refine ih (offer_pool_congr hp hc q _) ?_
    rw [Device.offer_trunk, Device.offer_trunk, hc]

/-- More events told after others that are all that has happened to the pool so far. -/
theorem tells_pool_after {d e : Device} {q : Fin 17} {ts : List Told} (hp : e.pool = (tells d q ts).pool)
    (hc : e.trunk.clock = d.trunk.clock) (us : List Told) : (tells e q us).pool = (tells d q (ts ++ us)).pool := by
  rw [tells_append]
  refine tells_pool_congr hp (hc.trans ?_) q us
  rw [(tells_touches d q ts .trunk (by decide) : (tells d q ts).trunk = d.trunk)]

theorem tells_of_room {d : Device} {q : Fin 17} (ts : List Told) (h : room d q ts.length) :
    tells d q ts = { d with pool := queuedAll d q ts } := by
  induction ts generalizing d with
  | nil => rfl
  | cons t ts ih =>
    rw [List.length_cons] at h
    have hlen : (queuedAll d q [t]).lanes[q].queue.length = d.pool.lanes[q].queue.length + 1 := queuedAll_length d q [t]
    rw [tells_cons, offer_notice t (by omega), ih]
    · rfl
    · change (queuedAll d q [t]).lanes[q].queue.length + ts.length ≤ 8
      omega

theorem tells_pool_of_room {d : Device} {q : Fin 17} (ts : List Told) (h : room d q ts.length) :
    (tells d q ts).pool = queuedAll d q ts := by rw [tells_of_room ts h]

/-! ### Whole devices, block by block -/

theorem eq_of_blocks {d e : Device} (lanes : d.lanes = e.lanes) (scanner : d.scanner = e.scanner)
    (trans : d.trans = e.trans) (keymaps : d.keymaps = e.keymaps) (ports : d.ports = e.ports) (rules : d.rules = e.rules)
    (pool : d.pool = e.pool) (delivery : d.delivery = e.delivery) (drawers : d.drawers = e.drawers)
    (tlu : d.tlu = e.tlu) (trunk : d.trunk = e.trunk)
    (timeBase : (d.inReset, d.usPhase) = (e.inReset, e.usPhase)) : d = e := by
  obtain ⟨hreset, hphase⟩ := Prod.mk.inj timeBase
  cases d
  cases e
  subst lanes scanner trans keymaps ports rules pool delivery drawers tlu trunk hreset hphase
  rfl

theorem pool_eq_of_touches {bs : List Block} {d e : Device} (h : Touches bs d e) (hs : Block.slots ∉ bs) :
    e.pool = { d.pool with lanes := e.pool.lanes } := by
  have hslots : { e.pool with lanes := d.pool.lanes } = d.pool := h .slots hs
  rw [← hslots]

theorem delivery_eq_of_touches {bs : List Block} {d e : Device} (h : Touches bs d e) (hd : Block.delivery ∉ bs) :
    e.delivery = { d.delivery with consumers := e.delivery.consumers } := by
  have hdelivery : { e.delivery with consumers := d.delivery.consumers } = d.delivery := h .delivery hd
  rw [← hdelivery]

theorem same_pool {bs : List Block} {d e : Device} (h : Touches bs d e) (hq : Block.queues ∉ bs)
    (hs : Block.slots ∉ bs) : e.pool = d.pool := by
  rw [pool_eq_of_touches h hs, (h .queues hq : e.pool.lanes = d.pool.lanes)]

theorem same_delivery {bs : List Block} {d e : Device} (h : Touches bs d e) (hc : Block.consumers ∉ bs)
    (hd : Block.delivery ∉ bs) : e.delivery = d.delivery := by
  rw [delivery_eq_of_touches h hd, (h .consumers hc : e.delivery.consumers = d.delivery.consumers)]

theorem same_clock {bs : List Block} {d e : Device} (h : Touches bs d e) (ht : Block.trunk ∉ bs) :
    e.trunk.clock = d.trunk.clock := congrArg Trunk.clock (h .trunk ht : e.trunk = d.trunk)

/-! ### The bytes that name a lane, a flag and other indices -/

theorem num_toNat {n : Nat} (h : n < 256) : (num n).toNat = n := by
  rw [num, BitVec.toNat_ofNat]
  exact Nat.mod_eq_of_lt h

theorem inIndex_num {n : Nat} (i : Fin n) (h : n ≤ 256) : inIndex n (num i.val) = some i := by
  have hi : (num i.val).toNat = i.val := num_toNat (i.isLt.trans_le h)
  simp [inIndex, hi]

theorem onLane_num (carry : Fin 16 → Device → Carried) (l : Fin 16) (d : Device) :
    onLane carry [num l] d = carry l d := by
  simp [onLane, inIndex_num l (by decide)]

theorem inBool_of_le {b : Byte} (h : b.toNat ≤ 1) : inBool b = some (decide (b.toNat = 1)) := by
  have hb : b.toNat = 0 ∨ b.toNat = 1 := by omega
  rcases hb with hb | hb
  · simp [inBool, hb]
  · simp [inBool, hb]

end Sys2Proof.Events

/-! ## Resets and start-up (R162, R195) -/

namespace Sys2Proof.StartUp

open Sys2Proof.Machine Sys2Proof.Claims Sys2Proof.Events

theorem blank_room (cause : ResetCause) (i : Inputs) (q : Fin 17) {n : Nat} (h : n ≤ 8) :
    room (Device.blank cause i) q n := by
  unfold room
  rw [blank_queue]
  exact (Nat.zero_add n).trans_le h

/-- The part as it announces its start, before a supply line that reads low is acted on. -/
theorem announced_eq (cause : ResetCause) (i : Inputs) :
    (Device.blank cause i).offer deviceQueue { kind := .deviceStarted, detail1 := byteOf cause.code } =
      startedUp cause i :=
  offer_notice (.deviceStarted, none, cause.code, 0) (blank_room cause i _ (by decide))

theorem startUp_of_high (cause : ResetCause) {i : Inputs} (h : i.supplyHigh = true) :
    startUp cause i = startedUp cause i := by
  unfold startUp
  dsimp only
  rw [announced_eq]
  exact if_pos h

theorem blank_energized (cause : ResetCause) (i : Inputs) : (Device.blank cause i).drawers.energized = [] := by
  simp [DrawerUnit.energized, Device.blank, resetDrawers, resetDrawer]

/-- At start-up no kick is under way, so a supply fault only sets the inhibit and reports itself. -/
theorem startUp_of_low (cause : ResetCause) {i : Inputs} (h : i.supplyHigh = false) :
    startUp cause i = { Device.blank cause i with
      drawers := { resetDrawers i with inhibit := true }
      pool := queuedAll (Device.blank cause i) deviceQueue
        [(.deviceStarted, none, cause.code, 0), (.supplyFault, none, 0, 0)] } := by
  have hroom : room (startedUp cause i) deviceQueue 1 := by
    have hlen : (startedUp cause i).pool.lanes[deviceQueue].queue.length =
        (Device.blank cause i).pool.lanes[deviceQueue].queue.length + 1 :=
      queuedAll_length (Device.blank cause i) deviceQueue [(.deviceStarted, none, cause.code, 0)]
    have hb := blank_room cause i deviceQueue (n := 2) (by decide)
    omega
  unfold startUp
  dsimp only
  rw [announced_eq, if_neg (by simp [startedUp, Device.blank, resetDrawers, h])]
  have hhot : (startedUp cause i).drawers.energized = [] := blank_energized cause i
  unfold Device.supplyFaultTaken
  dsimp only
  rw [hhot]
  exact offer_notice (d := (startedUp cause i).updDrawers fun u => { u with inhibit := true })
    (.supplyFault, none, 0, 0) hroom

theorem resetPort_ready : resetPort.ready = false := by decide

/-- Every output is off at the reset values. -/
theorem blank_outputs (cause : ResetCause) (i : Inputs) :
    (Device.blank cause i).trunkLine = [] ∧
    (∀ n : Fin 32, (Device.blank cause i).kickOutput n = false ∧ (Device.blank cause i).readyLine n = false) ∧
    (∀ l : Fin 16, (Device.blank cause i).buzzer l = false ∧ (Device.blank cause i).lamp l = false) := by
  refine ⟨rfl, fun n => ⟨?_, ?_⟩, fun l => ⟨?_, ?_⟩⟩
  · rw [Device.kickOutput, blank_drawer]
    rfl
  · rw [Device.readyLine, blank_port]
    exact resetPort_ready
  · rw [Device.buzzer, blank_generator]
    rfl
  · simp only [Device.lamp, Device.lampMode, blank_lamp, blank_lane]
    rfl

/-- Settles O6: start-up is the reset values with DEVICE-STARTED queued, and a supply fault behind it. -/
theorem resetsAndStartUp : Obligations.ResetsAndStartUp := by
  refine ⟨fun s i hhigh => ⟨fun hr => ?_, fun hr => ?_, fun tag hr ht => ?_, fun hr => ?_⟩, fun s i hlow hr => ?_⟩
  · rw [exec_powerOn, powerOn, if_neg (by simp [hr]), startUp_of_high _ hhigh]
  · rw [exec_resetPinRise, resetPinRise, if_pos hr, startUp_of_high _ hhigh]
  · rw [exec_transmitFrameEnd, s.run_of_running _ hr, transmitFrameEnd, ht, ← startUp_of_high _ hhigh]
    rfl
  · refine ⟨_, (exec_resetPinLow s).trans (s.run_of_running _ hr), rfl, rfl, ?_⟩
    exact blank_outputs .pin s.dev.lastInputs
  · refine ⟨_, exec_powerOn s i, ?_⟩
    rw [powerOn, if_neg (by simp [hr]), startUp_of_low _ hlow]
    refine ⟨rfl, ?_, fun l => ?_⟩
    · simp only [queuedAll, queued, appended_same, blank_queue, emptyPendLane, entryOf]
      rfl
    · have hl : laneQueue l ≠ deviceQueue := by
        intro h
        have := congrArg Fin.val h
        simp only [laneQueue, deviceQueue] at this
        omega
      exact (congrArg PendLane.queue ((queuedAll_other _ _ hl).trans (blank_queue .powerOn i (laneQueue l))) :)

end Sys2Proof.StartUp

/-! ## The lane requests and timers (R2 to R22) -/

namespace Sys2Proof.LaneRequests

open Sys2Proof.Machine Sys2Proof.Claims Sys2Proof.Events Sys2Proof.OpenCounter

/-! ### What the lane's ports make of an OPEN lane and of a lane that is not -/

theorem follow_on (p : Port) : p.follow true = { p with state := .active } := by
  unfold Port.follow
  split
  · rfl
  · next hp => cases hp
  · next hs _ =>
    rw [← hs]
  · next hp => cases hp
  · rfl
  · next hp => cases hp

theorem follow_enabled {p : Port} (h : p.enable = true) : p.follow (p.enable && true) = { p with state := .active } :=
  (congrArg p.follow (by rw [h]; rfl)).trans (follow_on p)

theorem follow_off {p : Port} (h : p.state ≠ .active) : p.follow false = p := by
  cases hs : p.state with
  | disabled | stopping => simp [Port.follow, hs]
  | active => exact absurd hs h

theorem follow_state (p : Port) (o : Bool) : { p.follow o with state := p.state } = p := by
  unfold Port.follow
  split <;> rfl

theorem follow_left (d : Device) (l : Fin 16) (n : Fin 32) :
    (if laneOf n = l then d.ports[n].follow (d.ports[n].enable && false) else d.ports[n]) = portLeft d l n := by
  unfold portLeft
  dsimp only
  rw [Bool.and_false]
  generalize d.ports[n] = p
  by_cases hl : laneOf n = l
  · rw [if_pos hl]
    cases hs : p.state with
    | disabled | stopping =>
      rw [follow_off (by simp [hs]), if_neg (by simp)]
    | active =>
      cases hc : p.current with
      | none => simp [Port.follow, hs, hc, hl]
      | some b => simp [Port.follow, hs, hc, hl]
  · rw [if_neg hl, if_neg fun h => hl h.1]

theorem left_ports (d : Device) (l : Fin 16) (n : Fin 32) : (d.tellPorts l false).ports[n] = portLeft d l n :=
  (tellPorts_ports d l false n).trans (follow_left d l n)

/-- The three cases of a port once its lane is OPEN. -/
theorem opened_ports (d : Device) (l : Fin 16) :
    (∀ n : Fin 32, laneOf n = l → d.ports[n].enable = true →
      (d.tellPorts l true).ports[n] = { d.ports[n] with state := .active }) ∧
    (∀ n : Fin 32, laneOf n = l → d.ports[n].enable = false → d.ports[n].state ≠ .active →
      (d.tellPorts l true).ports[n] = d.ports[n]) ∧
    (∀ n : Fin 32, laneOf n ≠ l → (d.tellPorts l true).ports[n] = d.ports[n]) := by
  refine ⟨fun n hl he => ?_, fun n hl he hs => ?_, fun n hl => ?_⟩
  · rw [tellPorts_ports, if_pos hl, follow_enabled he]
  · rw [tellPorts_ports, if_pos hl, he]
    exact follow_off hs
  · rw [tellPorts_ports, if_neg hl]

/-! ### OPEN-LANE, SUSPEND-LANE, RESUME-LANE -/

theorem openLane_pool (d : Device) (l : Fin 16) :
    (d.openLane l).pool = (tells d (laneQueue l) [(.laneState, none, 1, 0)]).pool := by
  unfold Device.openLane
  exact tells_pool_congr (by simp) (by simp) _ [(.laneState, none, 1, 0)]

theorem openLane_eq {d : Device} {l : Fin 16} (h : room d (laneQueue l) 1) : d.openLane l = { d with
    lanes := upd d.lanes l fun r => { { r with state := .opened }.stopWake with watchTimer := none }
    scanner := { d.scanner with lanes := upd d.scanner.lanes l fun m => m.enter d.lanes[l].active.scanPeriod }
    ports := (d.tellPorts l true).ports, pool := queued d (laneQueue l) .laneState none 1 0
    tlu := lampIn d.tlu l .opened } := by
  have ht := openLane_touches d l
  exact eq_of_blocks (openLane_lanes d l) (openLane_scanner d l) (ht .trans (by decide)) (ht .keymaps (by decide))
    (openLane_ports d l) (ht .rules (by decide)) ((openLane_pool d l).trans (tells_pool_of_room _ h))
    (same_delivery (d := d) ht (by decide) (by decide)) (ht .drawers (by decide)) (openLane_tlu d l) (ht .trunk (by decide))
    (ht .timeBase (by decide))

theorem suspendLane_pool (d : Device) (l : Fin 16) :
    (d.suspendLane l).pool = (tells d (laneQueue l) [(.laneState, none, 2, 0)]).pool := by
  unfold Device.suspendLane
  exact tells_pool_congr (by simp) (by simp) _ [(.laneState, none, 2, 0)]

theorem suspendLane_eq {d : Device} {l : Fin 16} (h : room d (laneQueue l) 1) : d.suspendLane l = { d with
    lanes := upd d.lanes l fun r => { r with state := .suspended }.closeWindow
    ports := (d.tellPorts l false).ports, pool := queued d (laneQueue l) .laneState none 2 0
    tlu := lampIn d.tlu l .suspended } := by
  have ht := suspendLane_touches d l
  exact eq_of_blocks (suspendLane_lanes d l) (ht .scanner (by decide)) (ht .trans (by decide)) (ht .keymaps (by decide))
    (suspendLane_ports d l) (ht .rules (by decide)) ((suspendLane_pool d l).trans (tells_pool_of_room _ h))
    (same_delivery (d := d) ht (by decide) (by decide)) (ht .drawers (by decide)) (suspendLane_tlu d l) (ht .trunk (by decide))
    (ht .timeBase (by decide))

theorem resumeLane_pool (d : Device) (l : Fin 16) :
    (d.resumeLane l).pool = (tells d (laneQueue l) [(.laneState, none, 1, 0)]).pool := by
  unfold Device.resumeLane
  exact tells_pool_congr (by simp) (by simp) _ [(.laneState, none, 1, 0)]

theorem resumeLane_eq {d : Device} {l : Fin 16} (h : room d (laneQueue l) 1) : d.resumeLane l = { d with
    lanes := upd d.lanes l fun r => { r with state := .opened }
    ports := (d.tellPorts l true).ports, pool := queued d (laneQueue l) .laneState none 1 0
    tlu := lampIn d.tlu l .opened } := by
  have ht := resumeLane_touches d l
  exact eq_of_blocks (resumeLane_lanes d l) (ht .scanner (by decide)) (ht .trans (by decide)) (ht .keymaps (by decide))
    (resumeLane_ports d l) (ht .rules (by decide)) ((resumeLane_pool d l).trans (tells_pool_of_room _ h))
    (same_delivery (d := d) ht (by decide) (by decide)) (ht .drawers (by decide)) (resumeLane_tlu d l) (ht .trunk (by decide))
    (ht .timeBase (by decide))

/-! ### Requests that name one lane -/

/-- A waiting request that names one lane and is answered with no other effect. -/
theorem onLane_onlyAnswered {s : State} {tag : Byte} {code : Nat} {l : Fin 16} {carry : Fin 16 → Device → Carried}
    {c : ReplyCode} (hw : Waits s (request tag code [num l])) (hr : (request tag code [num l]).is code = true)
    (hcarry : carry l (s.dev.begin (request tag code [num l])) =
      answer (s.dev.begin (request tag code [num l])) c) :
    s.takeCode code (onLane carry) = .next (onlyAnswered s (request tag code [num l]) c []) :=
  takeCode_of_answer (d := s.dev.begin _) hw hr ((onLane_num carry l _).trans hcarry) rfl

theorem openLaneReq_opened {d : Device} {l : Fin 16} (h : d.lanes[l].state = .opened) :
    openLaneReq l d = answer d .done := by
  unfold openLaneReq
  rw [h]

theorem openLaneReq_elsewhere {d : Device} {l : Fin 16} (h : d.lanes[l].state = .suspended ∨ d.lanes[l].state = .faulted) :
    openLaneReq l d = refuse d .refusedState := by
  unfold openLaneReq
  rcases h with h | h
  · rw [h]
  · rw [h]

theorem openLaneReq_closed {d : Device} {l : Fin 16} (h : d.lanes[l].state = .closed) : openLaneReq l d =
    if d.keymaps.lanes[l].active.isNone then refuse d .refusedNoKeymap else answer (d.openLane l) .done := by
  unfold openLaneReq
  rw [h]

theorem closeLane_closed {d : Device} {l : Fin 16} {force : Byte} (hf : force.toNat ≤ 1)
    (h : d.lanes[l].state = .closed) : closeLane [num l, force] d = refuse d .refusedState := by
  unfold closeLane
  simp only [inIndex_num l (by decide), inBool_of_le hf]
  rw [h]

theorem suspendLaneReq_opened {d : Device} {l : Fin 16} (h : d.lanes[l].state = .opened) :
    suspendLaneReq l d = answer (d.suspendLane l) .done := if_pos h

theorem suspendLaneReq_elsewhere {d : Device} {l : Fin 16} (h : d.lanes[l].state ≠ .opened) :
    suspendLaneReq l d = refuse d .refusedState := if_neg h

theorem resumeLaneReq_suspended {d : Device} {l : Fin 16} (h : d.lanes[l].state = .suspended) :
    resumeLaneReq l d = answer (d.resumeLane l) .done := if_pos h

theorem resumeLaneReq_elsewhere {d : Device} {l : Fin 16} (h : d.lanes[l].state ≠ .suspended) :
    resumeLaneReq l d = refuse d .refusedState := if_neg h

/-- Settles O7: by the lane's state, and on a CLOSED lane by its active image. -/
theorem openLane : Obligations.OpenLane := by
  refine ⟨fun s l tag hw hs => ⟨fun hk => ?_, fun hk hroom => ?_⟩, fun s l tag force => ⟨fun hw hs => ?_, fun hw hs => ?_,
    fun hw hf hs => ?_, fun hw hs => ?_, fun hw hs => ?_⟩⟩
  · exact onLane_onlyAnswered hw rfl
      ((openLaneReq_closed (d := s.dev.begin _) hs).trans (if_pos (Option.isNone_iff_eq_none.mpr hk)))
  · have hcarry : openLaneReq l (s.dev.begin (request tag 0x01 [num l])) =
        answer ((s.dev.begin (request tag 0x01 [num l])).openLane l) .done :=
      (openLaneReq_closed (d := s.dev.begin _) hs).trans (if_neg (Option.isNone_eq_false_iff.mpr hk ▸ Bool.false_ne_true))
    rw [openLane_eq (d := s.dev.begin _) hroom] at hcarry
    obtain ⟨hon, hoff, hother⟩ := opened_ports s.dev l
    exact ⟨_, takeCode_of_answer hw rfl ((onLane_num _ l _).trans hcarry) rfl, rfl, hon, hoff, hother, rfl⟩
  · exact onLane_onlyAnswered hw rfl (openLaneReq_opened (d := s.dev.begin _) hs)
  · exact onLane_onlyAnswered hw rfl (openLaneReq_elsewhere (d := s.dev.begin _) hs)
  · exact takeCode_of_answer (d := s.dev.begin _) hw rfl (closeLane_closed (d := s.dev.begin _) hf hs) rfl
  · exact onLane_onlyAnswered hw rfl (suspendLaneReq_elsewhere (d := s.dev.begin _) hs)
  · exact onLane_onlyAnswered hw rfl (resumeLaneReq_elsewhere (d := s.dev.begin _) hs)

/-- Settles O8: from the one state that each of the two requests starts in. -/
theorem suspendAndResume : Obligations.SuspendAndResume := by
  intro s l tag hroom
  refine ⟨fun hw hs => ?_, fun hw hs => ?_⟩
  · have hcarry := suspendLaneReq_opened (d := s.dev.begin (request tag 0x03 [num l])) hs
    rw [suspendLane_eq (d := s.dev.begin _) hroom] at hcarry
    exact ⟨_, takeCode_of_answer hw rfl ((onLane_num _ l _).trans hcarry) rfl, rfl, left_ports s.dev l, rfl⟩
  · have hcarry := resumeLaneReq_suspended (d := s.dev.begin (request tag 0x04 [num l])) hs
    rw [resumeLane_eq (d := s.dev.begin _) hroom] at hcarry
    obtain ⟨hon, hoff, hother⟩ := opened_ports s.dev l
    refine ⟨_, takeCode_of_answer hw rfl ((onLane_num _ l _).trans hcarry) rfl, rfl,
      fun n hl he => congrArg Port.state (hon n hl he), hoff, hother, fun n => ?_, rfl⟩
    have hport : (s.dev.tellPorts l true).ports[n] = _ := tellPorts_ports s.dev l true n
    refine Eq.trans (congrArg (fun p : Port => { p with state := s.dev.ports[n].state }) hport) ?_
    split
    · exact follow_state _ _
    · rfl

end Sys2Proof.LaneRequests

/-! ## Departures: CLOSE-LANE and what it shares with a missed-pass fault (R6 to R9) -/

namespace Sys2Proof.Departures

open Sys2Proof.Machine Sys2Proof.Claims Sys2Proof.Events Sys2Proof.OpenCounter Sys2Proof.LaneRequests

/-! ### What the releases of a lane's keys queue -/

theorem releasesOf_congr {d e : Device} {l : Fin 16} {ps : List (Fin 128)}
    (hheld : ∀ p ∈ ps, e.trans[l].held[p] = d.trans[l].held[p]) (hlock : e.lanes[l].keyLock = d.lanes[l].keyLock) :
    releasesOf e l ps = releasesOf d l ps := by
  unfold releasesOf
  refine List.filterMap_congr fun p hp => ?_
  rw [hheld p hp, hlock]

theorem releasesOf_cons (d : Device) (l : Fin 16) (p : Fin 128) (ps : List (Fin 128)) :
    releasesOf d l (p :: ps) = releasesOf d l [p] ++ releasesOf d l ps :=
  List.filterMap_append (l := [p]) (l' := ps)

theorem translateRelease_pool (d : Device) (l : Fin 16) (p : Fin 128) :
    (d.translateRelease l p).pool = (tells d (laneQueue l) (releasesOf d l [p])).pool := by
  simp only [Device.translateRelease, releasesOf, List.filterMap_cons, List.filterMap_nil]
  cases d.trans[l].held[p] with
  | none => rfl
  | some h =>
    by_cases hf : h.fate = .reported
    · simp only [hf, if_true, Device.updTrans_pool]
      rfl
    · simp only [hf, if_false, Device.updTrans_pool]
      rfl

/-- The keys released one after the other queue what each queues, since no record is deleted twice. -/
theorem releases_pool (d : Device) (l : Fin 16) {ps : List (Fin 128)} (hnodup : ps.Nodup) :
    (ps.foldl (fun e p => e.translateRelease l p) d).pool = (tells d (laneQueue l) (releasesOf d l ps)).pool := by
  induction ps generalizing d with
  | nil => rfl
  | cons p ps ih =>
    obtain ⟨hp, hps⟩ := List.nodup_cons.mp hnodup
    have ht := translateRelease_touches d l p
    have hheld (x : Fin 128) (hx : x ∈ ps) : (d.translateRelease l p).trans[l].held[x] = d.trans[l].held[x] := by
      rw [translateRelease_trans, upd_getElem_self, release_held, if_neg (ne_of_mem_of_not_mem hx hp)]
    have hlock : (d.translateRelease l p).lanes[l].keyLock = d.lanes[l].keyLock :=
      congrArg (fun v : Table LaneRec 16 => v[l].keyLock) (ht .lanes (by decide))
    rw [List.foldl_cons, ih _ hps, releasesOf_congr hheld hlock, releasesOf_cons]
    exact tells_pool_after (translateRelease_pool d l p) (same_clock ht (by decide)) _

theorem pressedKeys_nodup (d : Device) (l : Fin 16) : (pressedKeys d l).Nodup := (List.nodup_finRange 128).filter _

/-! ### What a departing lane queues -/

theorem windDown_pool (d : Device) (l : Fin 16) :
    (d.windDown l).pool = (tells d (laneQueue l) (releasesOf d l (pressedKeys d l))).pool := by
  have hreleases := releases_pool (d.withdrawPass l) l (pressedKeys_nodup d l)
  have hsame : (tells (d.withdrawPass l) (laneQueue l) (releasesOf (d.withdrawPass l) l (pressedKeys d l))).pool =
      (tells d (laneQueue l) (releasesOf d l (pressedKeys d l))).pool := tells_pool_congr (d := d.withdrawPass l) (e := d) rfl rfl _ _
  unfold Device.windDown
  dsimp only
  split
  · rw [Device.tellPorts_pool, Device.updTrans_pool, Device.updScan_pool]
    exact hreleases.trans hsame
  · rw [Device.updTrans_pool, Device.updScan_pool]
    exact hreleases.trans hsame

theorem switchTold_congr {d e : Device} (h : e.keymaps = d.keymaps) (l : Fin 16) : switchTold e l = switchTold d l := by
  unfold switchTold
  rw [h]

theorem departKeymap_pool (d : Device) (l : Fin 16) :
    (d.departKeymap l).pool = (tells d (laneQueue l) (switchTold d l)).pool := by
  unfold Device.departKeymap switchTold
  cases d.keymaps.lanes[l].pendingImg with
  | some i =>
    exact tells_pool_congr (d := d.updMap l fun _ => { active := some i, pendingImg := none, switchTimer := none })
      (e := d) rfl rfl (laneQueue l) [(.keymapSwitched, none, i.val, 0)]
  | none => rfl

theorem depart_pool (d : Device) (l : Fin 16) (dest : LaneState) (c : LaneCause) :
    (d.depart l dest c).pool = (tells d (laneQueue l) (departing d l dest.code c.code)).pool := by
  have hwind := windDown_touches d l
  let d1 := ((d.windDown l).setLaneState l dest).updLane l fun r => { r.closeWindow with watchTimer := some 8 }
  let d2 := (d1.offerLaneState l dest c).adopt l
  let d3 := if dest = .closed then d2.updLane l LaneRec.enterClosedWake else d2
  have h1 : d1.pool = (tells d (laneQueue l) (releasesOf d l (pressedKeys d l))).pool := by
    simp only [d1, Device.updLane_pool, Device.setLaneState_pool, windDown_pool]
  have hc1 : d1.trunk.clock = d.trunk.clock := by
    simp only [d1, Device.updLane_trunk, Device.setLaneState_trunk]
    exact same_clock hwind (by decide)
  have h2 : d2.pool = (tells d (laneQueue l)
      (releasesOf d l (pressedKeys d l) ++ [(.laneState, none, dest.code, c.code)])).pool := by
    simp only [d2, Device.adopt_pool]
    exact tells_pool_after h1 hc1 [(.laneState, none, dest.code, c.code)]
  have h3 : d3.pool = d2.pool ∧ d3.trunk = d2.trunk ∧ d3.keymaps = d2.keymaps := by
    simp only [d3]
    split <;> simp
  have hc3 : d3.trunk.clock = d.trunk.clock := by
    rw [h3.2.1]
    simp only [d2, Device.adopt_trunk, Device.offerLaneState_trunk]
    exact hc1
  have hk3 : d3.keymaps = d.keymaps := by
    rw [h3.2.2]
    simp only [d2, d1, Device.adopt_keymaps, Device.offerLaneState_keymaps, Device.updLane_keymaps,
      Device.setLaneState_keymaps]
    exact hwind .keymaps (by decide)
  refine (departKeymap_pool d3 l).trans ?_
  rw [switchTold_congr hk3]
  exact tells_pool_after (h3.1.trans h2) hc3 _

/-! ### The lane record, the translator and the whole part after a departure -/

theorem enterClosedWake_eq (r : LaneRec) : r.enterClosedWake =
    { r with wakeMonitor := r.active.wake, wakeRef := none, wakeDue := false
             wakeHoldOff := if r.active.wake then r.wakeHoldOff else 0 } := by
  unfold LaneRec.enterClosedWake
  split
  · next h =>
    rw [h]
    rfl
  · next h =>
    rw [Bool.eq_false_of_not_eq_true h]
    rfl

/-- An adoption changes the two setting sets, and the wake monitor alone besides. -/
theorem adopted_enterClosedWake (r : LaneRec) : r.adopted.enterClosedWake =
    { r with active := r.pendingSet.getD r.active, pendingSet := none
             wakeMonitor := (r.pendingSet.getD r.active).wake, wakeRef := none, wakeDue := false
             wakeHoldOff := if (r.pendingSet.getD r.active).wake then r.wakeHoldOff else 0 } := by
  rw [enterClosedWake_eq]
  unfold LaneRec.adopted
  split
  · next h =>
    rw [h]
    cases r
    cases h
    rfl
  · next g h =>
    rw [h]
    dsimp only [Option.getD_some]
    unfold LaneRec.adoptWake
    by_cases hw : g.wake = true
    · by_cases hm : r.state = .closed ∧ ¬ r.wakeMonitor = true
      · simp [LaneRec.startWake, hw, hm]
      · have hn : ¬ ¬ g.wake = true := not_not_intro hw
        rw [if_neg hn, if_neg hm, if_pos hw, hw]
    · simp [LaneRec.stopWake, hw]

theorem delayPasses_eq (g : Settings) : g.delayPasses = passes g.typDelay g.scanPeriod := by
  rw [Settings.delayPasses, ceilDivAtLeastOne, passes, Nat.mul_assoc]

theorem periodPasses_eq (g : Settings) : g.periodPasses = passes g.typPeriod g.scanPeriod := by
  rw [Settings.periodPasses, ceilDivAtLeastOne, passes, Nat.mul_assoc]

theorem retimed_eq (g : Option Settings) (t : KeyTrans) (a : Settings) : t.retimed g =
    { t with delayPasses := if g.isSome then passes (g.getD a).typDelay (g.getD a).scanPeriod else t.delayPasses
             periodPasses := if g.isSome then passes (g.getD a).typPeriod (g.getD a).scanPeriod else t.periodPasses } := by
  cases g with
  | none => rfl
  | some g =>
    rw [KeyTrans.retimed, delayPasses_eq, periodPasses_eq]
    rfl

theorem release_timing (t : KeyTrans) (p : Fin 128) :
    (t.release p).delayPasses = t.delayPasses ∧ (t.release p).periodPasses = t.periodPasses := by
  unfold KeyTrans.release KeyTrans.letGo
  split
  · exact ⟨rfl, rfl⟩
  · dsimp only
    split <;> exact ⟨rfl, rfl⟩

theorem releaseAll_timing (ps : List (Fin 128)) (t : KeyTrans) :
    (t.releaseAll ps).delayPasses = t.delayPasses ∧ (t.releaseAll ps).periodPasses = t.periodPasses := by
  induction ps generalizing t with
  | nil => exact ⟨rfl, rfl⟩
  | cons p ps ih =>
    obtain ⟨hd, hp⟩ := release_timing t p
    have hrest := ih (t.release p)
    rw [hd, hp] at hrest
    exact hrest

/-- The key translator's part of a lane that has departed. -/
theorem departed_trans (g : Option Settings) (a : Settings) (ps : List (Fin 128)) (t : KeyTrans) :
    ((t.releaseAll ps).clearOwner).retimed g =
      { t with
        held := (((t.releaseAll ps).clearOwner).retimed g).held, owner := none, countdown := 0
        delayPasses := if g.isSome then passes (g.getD a).typDelay (g.getD a).scanPeriod else t.delayPasses
        periodPasses := if g.isSome then passes (g.getD a).typPeriod (g.getD a).scanPeriod else t.periodPasses } := by
  obtain ⟨hd, hp⟩ := releaseAll_timing ps t
  rw [retimed_held, retimed_eq g _ a, KeyTrans.clearOwner]
  dsimp only
  rw [hd, hp]

theorem depart_letGo (d : Device) (l : Fin 16) (dest : LaneState) (c : LaneCause) :
    letGo d l (pressedKeys d l) (d.depart l dest c).trans[l] := by
  intro p
  rw [depart_trans, upd_getElem_self, retimed_held]
  exact releaseAll_held _ _ p

theorem depart_ports_left (d : Device) (l : Fin 16) (dest : LaneState) (c : LaneCause) (n : Fin 32) :
    (d.depart l dest c).ports[n] = if d.lanes[l].state = .opened then portLeft d l n else d.ports[n] := by
  rw [depart_ports]
  split
  · exact left_ports d l n
  · rfl

theorem depart_other (d : Device) (l : Fin 16) (dest : LaneState) (c : LaneCause) {m : Fin 17} (h : m ≠ laneQueue l) :
    (d.depart l dest c).pool.lanes[m] = d.pool.lanes[m] := by
  rw [depart_pool]
  exact tells_other d _ h

theorem depart_eq (d : Device) (l : Fin 16) (dest : LaneState) (c : LaneCause) :
    let r := d.lanes[l]
    let g := r.pendingSet.getD r.active
    d.depart l dest c = { d with
      lanes := upd d.lanes l (LaneRec.departed dest)
      scanner := withdrawn d l
      trans := d.trans.set l
        { d.trans[l] with
          held := (d.depart l dest c).trans[l].held, owner := none, countdown := 0
          delayPasses := if r.pendingSet.isSome then passes g.typDelay g.scanPeriod else d.trans[l].delayPasses
          periodPasses := if r.pendingSet.isSome then passes g.typPeriod g.scanPeriod else d.trans[l].periodPasses }
      keymaps := switched d l, ports := (d.depart l dest c).ports
      pool := { d.pool with lanes := (d.depart l dest c).pool.lanes }
      tlu := lampIn d.tlu l dest } := by
  have ht := depart_touches d l dest c
  have htrans : (d.depart l dest c).trans = d.trans.set l (d.depart l dest c).trans[l] := by
    rw [depart_trans, upd_getElem_self]
    rfl
  have hl : (d.depart l dest c).trans[l] =
      ((d.trans[l].releaseAll (pressedKeys d l)).clearOwner).retimed d.lanes[l].pendingSet := by
    rw [depart_trans, upd_getElem_self]
    rfl
  refine eq_of_blocks (depart_lanes d l dest c) (depart_scanner d l dest c) ?_ (depart_keymaps d l dest c) rfl
    (ht .rules (by decide)) (pool_eq_of_touches ht (by decide)) (same_delivery (d := d) ht (by decide) (by decide))
    (ht .drawers (by decide)) (depart_tlu d l dest c) (ht .trunk (by decide)) (ht .timeBase (by decide))
  refine htrans.trans ?_
  rw [hl]
  exact congrArg (fun t => d.trans.set l t) (departed_trans _ _ _ _)

theorem departed_closed (r : LaneRec) : LaneRec.departed .closed r =
    { r with state := .closed, windowOpen := false, tenderTimer := 0, watchTimer := some 8
             active := r.pendingSet.getD r.active, pendingSet := none, wakeMonitor := (r.pendingSet.getD r.active).wake
             wakeRef := none, wakeDue := false
             wakeHoldOff := if (r.pendingSet.getD r.active).wake then r.wakeHoldOff else 0 } := by
  unfold LaneRec.departed
  rw [if_pos rfl, adopted_enterClosedWake]
  rfl

/-! ### CLOSE-LANE -/

theorem drawerOpen_iff (d : Device) (l : Fin 16) : d.drawerOpen l = true ↔ ∃ n : Fin 32, laneOf n = l ∧
    d.drawers.drawers[n].present = true ∧ d.drawers.drawers[n].settled = true ∧
    d.drawers.drawers[n].position = .opened := by
  unfold Device.drawerOpen
  simp only [List.any_cons, List.any_nil, Bool.or_false, Bool.or_eq_true, Bool.and_eq_true, beq_iff_eq, and_assoc]
  constructor
  · rintro (h | h)
    · exact ⟨_, (laneOf_eq_iff _ l).mpr (.inl rfl), h⟩
    · exact ⟨_, (laneOf_eq_iff _ l).mpr (.inr rfl), h⟩
  · rintro ⟨n, hn, h⟩
    rcases (laneOf_eq_iff n l).mp hn with rfl | rfl
    · exact .inl h
    · exact .inr h

theorem closeLane_scanning {d : Device} {l : Fin 16} {force : Byte} (hf : force.toNat ≤ 1)
    (h : d.lanes[l].state.scanning = true) : closeLane [num l, force] d =
      if d.drawerOpen l && !decide (force.toNat = 1) then refuse d .refusedState
      else answer (d.depart l .closed .request) .done := by
  unfold closeLane
  simp only [inIndex_num l (by decide), inBool_of_le hf]
  cases hs : d.lanes[l].state with
  | opened | suspended => rfl
  | closed | faulted =>
    rw [hs] at h
    cases h

theorem closeLane_faulted {d : Device} {l : Fin 16} {force : Byte} (hf : force.toNat ≤ 1)
    (h : d.lanes[l].state = .faulted) : closeLane [num l, force] d = answer (d.closeFaulted l) .done := by
  unfold closeLane
  simp only [inIndex_num l (by decide), inBool_of_le hf]
  rw [h]

theorem closeFaulted_pool (d : Device) (l : Fin 16) :
    (d.closeFaulted l).pool = (tells d (laneQueue l) [(.laneState, none, 0, 0)]).pool := by
  unfold Device.closeFaulted
  exact tells_pool_congr (by simp) (by simp) _ [(.laneState, none, 0, 0)]

theorem closeFaulted_eq {d : Device} {l : Fin 16} (h : room d (laneQueue l) 1) : d.closeFaulted l = { d with
    lanes := upd d.lanes l fun r => { r with state := .closed }.enterClosedWake
    pool := queued d (laneQueue l) .laneState none 0 0, tlu := lampIn d.tlu l .closed } := by
  have ht := closeFaulted_touches d l
  exact eq_of_blocks (closeFaulted_lanes d l) (ht .scanner (by decide)) (ht .trans (by decide))
    (ht .keymaps (by decide)) (ht .ports (by decide)) (ht .rules (by decide))
    ((closeFaulted_pool d l).trans (tells_pool_of_room _ h)) (same_delivery (d := d) ht (by decide) (by decide))
    (ht .drawers (by decide)) (closeFaulted_tlu d l) (ht .trunk (by decide)) (ht .timeBase (by decide))

/-- Settles O9: a scanning lane departs unless its drawers hold it, and a FAULT lane changes its state alone. -/
theorem closeLane : Obligations.CloseLane := by
  intro s l tag force hw hf
  dsimp only
  refine ⟨fun hscan hzero hopen => ?_, fun hscan hfree => ?_, fun hfault hroom => ?_⟩
  · refine takeCode_of_answer (d := s.dev.begin _) hw rfl
      ((closeLane_scanning (d := s.dev.begin _) hf hscan).trans (if_pos ?_)) rfl
    have hdrawer : (s.dev.begin (request tag 0x02 [num l, force])).drawerOpen l = true := (drawerOpen_iff _ l).mpr hopen
    simp [hdrawer, hzero]
  · let e := s.dev.begin (request tag 0x02 [num l, force])
    have hgoes : ¬ (e.drawerOpen l && !decide (force.toNat = 1)) = true := by
      simp only [Bool.and_eq_true, Bool.not_eq_true', decide_eq_false_iff_not, not_and_or, not_not]
      refine hfree.symm.imp (fun hclosed hopen => ?_) id
      obtain ⟨n, hl, hpresent, hsettled, hpos⟩ := (drawerOpen_iff e l).mp hopen
      cases (hclosed n hl hpresent hsettled).symm.trans hpos
    have hcarry := (closeLane_scanning (d := e) hf hscan).trans (if_neg hgoes)
    have htrunk : (e.depart l .closed .request).trunk = started s.dev.trunk (request tag 0x02 [num l, force]) :=
      depart_touches e l .closed .request .trunk (by decide)
    have hother (m : Fin 17) (hm : m ≠ laneQueue l) :
        (e.depart l .closed .request).pool.lanes[m] = s.dev.pool.lanes[m] := depart_other e l .closed .request hm
    have hports (n : Fin 32) : (e.depart l .closed .request).ports[n] =
        if s.dev.lanes[l].state = .opened then portLeft s.dev l n else s.dev.ports[n] :=
      depart_ports_left e l .closed .request n
    have hletGo : letGo s.dev l (pressedKeys s.dev l) (e.depart l .closed .request).trans[l] :=
      depart_letGo e l .closed .request
    have hpool (hroom : room s.dev (laneQueue l) (departing s.dev l 0 0).length) :
        (e.depart l .closed .request).pool = queuedAll s.dev (laneQueue l) (departing s.dev l 0 0) :=
      (depart_pool e l .closed .request).trans
        ((tells_pool_congr (d := e) (e := s.dev) rfl rfl _ _).trans (tells_pool_of_room _ hroom))
    have heq := depart_eq e l .closed .request
    have hrec : upd e.lanes l (LaneRec.departed .closed) = e.lanes.set l (LaneRec.departed .closed e.lanes[l]) := rfl
    rw [hrec, departed_closed] at heq
    generalize e.depart l .closed .request = x at hcarry htrunk hother hports hletGo hpool heq
    exact ⟨_, takeCode_of_answer hw rfl hcarry htrunk, rfl, hpool, hother, hports, hletGo,
      congrArg (fun x : Device => { x with
        trunk := answered s.dev.trunk (request tag 0x02 [num l, force]) .done [] }) heq⟩
  · have hcarry := closeLane_faulted (d := s.dev.begin (request tag 0x02 [num l, force])) hf hfault
    rw [closeFaulted_eq (d := s.dev.begin _) hroom] at hcarry
    refine (takeCode_of_answer hw rfl hcarry rfl).trans ?_
    have hrec : upd s.dev.lanes l (fun r => { r with state := .closed }.enterClosedWake) =
        s.dev.lanes.set l ({ s.dev.lanes[l] with state := .closed }.enterClosedWake) := rfl
    rw [enterClosedWake_eq] at hrec
    exact congrArg (fun v => Host.Outcome.next { s with dev := { s.dev with
      lanes := v, pool := queued s.dev (laneQueue l) .laneState none 0 0, tlu := lampIn s.dev.tlu l .closed
      trunk := answered s.dev.trunk (request tag 0x02 [num l, force]) .done [] } }) hrec

end Sys2Proof.Departures

/-! ## Kicks given up, and RESET-LANE (R10, R117, R164) -/

namespace Sys2Proof.LaneResets

open Sys2Proof.Machine Sys2Proof.Claims Sys2Proof.Events Sys2Proof.OpenCounter Sys2Proof.LaneRequests
open Sys2Proof.Departures

/-! ### WAITING kicks that are given up one after the other -/

theorem abortWaiting_drawers (d : Device) (n : Fin 32) (cause : Nat) : (d.abortWaiting n cause).drawers =
    { d.drawers with drawers := upd d.drawers.drawers n fun w => { w with kick := .idle }
                     waitList := d.drawers.waitList.filter (· ≠ n) } := by
  rw [Device.abortWaiting, Device.offer_drawers]
  rfl

/-- Each of the drawers' kicks is IDLE, and none of them waits; nothing else of the drawer unit has moved. -/
structure GivenUp (ns : List (Fin 32)) (u v : DrawerUnit) : Prop where
  drawer : ∀ k : Fin 32, v.drawers[k] = if k ∈ ns then { u.drawers[k] with kick := .idle } else u.drawers[k]
  rest : v = { u with drawers := v.drawers, waitList := u.waitList.filter (· ∉ ns) }

theorem abortAll_givenUp (ns : List (Fin 32)) (cause : Nat) (d : Device) :
    GivenUp ns d.drawers (ns.foldl (fun e n => e.abortWaiting n cause) d).drawers := by
  induction ns generalizing d with
  | nil =>
    refine ⟨fun k => by simp, ?_⟩
    simp
  | cons n ns ih =>
    obtain ⟨hdrawer, hrest⟩ := ih (d.abortWaiting n cause)
    rw [List.foldl_cons]
    refine ⟨fun k => ?_, ?_⟩
    · rw [hdrawer k, abortWaiting_drawers, upd_getElem]
      by_cases hk : k = n
      · simp [hk]
      · simp [hk]
    · have hlist : (d.drawers.waitList.filter (· ≠ n)).filter (· ∉ ns) = d.drawers.waitList.filter (· ∉ n :: ns) := by
        rw [List.filter_filter]
        refine List.filter_congr fun k _ => ?_
        rw [Bool.eq_iff_iff]
        simp [and_comm]
      refine hrest.trans ?_
      rw [abortWaiting_drawers, ← hlist]

/-- The events of kicks given up on one lane, in their order. -/
def abortsTold (ns : List (Fin 32)) (cause : Nat) : List Told :=
  ns.map fun k => (Kind.kickAborted, drawerSource k, cause, 0)

theorem abortAll_pool {l : Fin 16} {ns : List (Fin 32)} (hl : ∀ n ∈ ns, laneOf n = l) (cause : Nat) (d : Device) :
    (ns.foldl (fun e n => e.abortWaiting n cause) d).pool = (tells d (laneQueue l) (abortsTold ns cause)).pool := by
  induction ns generalizing d with
  | nil => rfl
  | cons n ns ih =>
    have hn : (d.abortWaiting n cause).pool =
        (tells d (laneQueue l) [(.kickAborted, drawerSource n, cause, 0)]).pool := by
      rw [← hl n List.mem_cons_self]
      exact tells_pool_congr (d := d.updDrawers _) (e := d) rfl rfl (laneQueue (laneOf n))
        [(.kickAborted, drawerSource n, cause, 0)]
    rw [List.foldl_cons, ih fun m hm => hl m (List.mem_cons_of_mem n hm)]
    exact tells_pool_after hn (same_clock (abortWaiting_touches d n cause) (by decide)) _

/-! ### The queue of a lane that is reset -/

theorem emptied_eq (p : PendLane) : p.emptied =
    { p with queue := [], waiting := false, waitTimer := none, lastSet := none, gap := p.gap || !p.queue.isEmpty
             lossCount := if p.queue = [] then p.lossCount else min 65535 (p.lossCount + p.queue.length) } := by
  unfold PendLane.emptied PendLane.lost
  cases p.queue with
  | nil => rfl
  | cons e es => rfl

/-- The part with the lane's queue emptied, as its next events find it. -/
def withEmptied (d : Device) (q : Fin 17) : Device :=
  { d with pool := { d.pool with lanes := d.pool.lanes.set q d.pool.lanes[q].emptied } }

theorem emptyQueue_pool (d : Device) (q : Fin 17) : (d.emptyQueue q).pool = (withEmptied d q).pool := by
  rw [pool_eq_of_touches (emptyQueue_touches d q) (by decide), emptyQueue_lanes]
  rfl

theorem loseAll_delivery (q : Fin 17) (es : List Entry) (d : Device) :
    (es.foldl (fun d e => d.loseEntry q e) d).delivery = d.delivery := by
  induction es generalizing d with
  | nil => rfl
  | cons e es ih =>
    rw [List.foldl_cons, ih]
    exact same_delivery (d := d) (loseEntry_touches d q e) (by decide) (by decide)

theorem miss_one (x : Consumer) : x.miss 1 = missedOne x := by
  simp [Consumer.miss, missedOne, sat16]

/-- The members of a WAITING head's last computed set miss it with the rest of the queue. -/
theorem emptyQueue_consumers (d : Device) (q : Fin 17) (c : Fin 8) :
    let n := d.pool.lanes[q]
    (d.emptyQueue q).delivery.consumers[c] =
      if n.waiting = true ∧ (n.lastSet.any fun set => set[c] != .out) = true ∧
        d.delivery.consumers[c].state ≠ .inactive
      then missedOne d.delivery.consumers[c] else d.delivery.consumers[c] := by
  have hlost := loseAll_delivery q d.pool.lanes[q].queue
    (d.updPend q fun n => { n with queue := [], waiting := false, waitTimer := none, lastSet := none })
  unfold Device.emptyQueue
  dsimp only
  split
  · next s hw hs =>
    rw [hw, hs, Device.flagMembers, Device.updDelivery_delivery, hlost, tab_getElem]
    simp only [Option.any_some, bne_iff_ne, ne_eq, true_and, miss_one]
    rfl
  · next hno =>
    refine (congrArg (fun u : Delivery => u.consumers[c]) hlost).trans (if_neg ?_).symm
    rintro ⟨hw, hset, -⟩
    cases hs : d.pool.lanes[q].lastSet with
    | none =>
      rw [hs] at hset
      cases hset
    | some s => exact hno s hw hs

/-! ### RESET-LANE -/

theorem wiped_eq (r : LaneRec) : r.wiped =
    { r with state := .closed, windowOpen := false, tenderTimer := 0, lockCandidate := none, lockCount := 0
             watchTimer := some 8, active := r.pendingSet.getD r.active, pendingSet := none
             wakeMonitor := (r.pendingSet.getD r.active).wake, wakeRef := none, wakeHoldOff := 0, wakeDue := false } := by
  rw [LaneRec.wiped, adopted_enterClosedWake]
  unfold LaneRec.laneReset LaneRec.closeWindow
  dsimp only
  rw [ite_self]

/-- What RESET-LANE queues. -/
def resetTold (d : Device) (l : Fin 16) : List Told :=
  (.laneState, none, 0, 2) :: abortsTold (d.drawers.waitingOf l) 3 ++ switchTold d l

theorem waitingOf_lane {u : DrawerUnit} {l : Fin 16} {n : Fin 32} (h : n ∈ u.waitingOf l) : laneOf n = l :=
  beq_iff_eq.mp (List.mem_filter.mp h).2

/-- The steps of RESET-LANE up to its LANE-STATE event. -/
def laneCleared (d : Device) (l : Fin 16) : Device :=
  (((((d.emptyQueue (laneQueue l)).clearRuntime l).updLane l LaneRec.laneReset).setLaneState l .closed).adopt
    l).updLane l LaneRec.enterClosedWake

theorem laneCleared_touches (d : Device) (l : Fin 16) : Touches [.lanes, .states, .settings, .scanner, .trans, .ports,
    .queues, .entries, .offers, .consumers, .tlu] d (laneCleared d l) :=
  ((((((emptyQueue_touches d (laneQueue l)).seq (clearRuntime_touches _ l)).seq (updLane_touches _ l _)).seq
    (setLaneState_touches _ l .closed)).seq (adopt_touches _ l)).seq (updLane_touches _ l _)).mono (by decide)

theorem laneCleared_pool (d : Device) (l : Fin 16) : (laneCleared d l).pool = (withEmptied d (laneQueue l)).pool := by
  rw [← emptyQueue_pool]
  simp [laneCleared, Device.clearRuntime]

/-- The steps of RESET-LANE up to the end of its kicks. -/
def kicksDropped (d : Device) (l : Fin 16) : Device :=
  ((laneCleared d l).drawers.waitingOf l).foldl (fun d n => d.abortWaiting n 3)
    ((laneCleared d l).offerLaneState l .closed .reset)

theorem kicksDropped_touches (d : Device) (l : Fin 16) : Touches [.lanes, .states, .settings, .scanner, .trans, .ports,
    .queues, .entries, .offers, .consumers, .drawers, .kicks, .tlu] d (kicksDropped d l) :=
  (((laneCleared_touches d l).seq (offerLaneState_touches _ l .closed .reset)).seq
    (abortAll_touches _ _ 3)).mono (by decide)

theorem kicksDropped_pool (d : Device) (l : Fin 16) : (kicksDropped d l).pool = (tells (withEmptied d (laneQueue l))
    (laneQueue l) ((.laneState, none, 0, 2) :: abortsTold (d.drawers.waitingOf l) 3)).pool := by
  have hclock := same_clock (laneCleared_touches d l) (by decide)
  have hdrawers : (laneCleared d l).drawers = d.drawers := laneCleared_touches d l .drawers (by decide)
  have hfirst : ((laneCleared d l).offerLaneState l .closed .reset).pool =
      (tells (withEmptied d (laneQueue l)) (laneQueue l) [(.laneState, none, 0, 2)]).pool :=
    tells_pool_congr (laneCleared_pool d l) hclock _ [(.laneState, none, 0, 2)]
  have hclock' : ((laneCleared d l).offerLaneState l .closed .reset).trunk.clock = d.trunk.clock := by
    rw [Device.offerLaneState_trunk]
    exact hclock
  unfold kicksDropped
  rw [hdrawers]
  exact (abortAll_pool (fun n hn => waitingOf_lane hn) 3 _).trans (tells_pool_after hfirst hclock' _)

theorem resetLane_steps (d : Device) (l : Fin 16) : d.resetLane l =
    (((kicksDropped d l).updGen l Generator.stop).updLamp l fun _ => { overrideMode := none, staged := none }).departKeymap
      l := by
  have hdrawers : ((laneCleared d l).offerLaneState l .closed .reset).drawers = (laneCleared d l).drawers :=
    Device.offerLaneState_drawers _ l .closed .reset
  unfold kicksDropped
  rw [← hdrawers]
  rfl

theorem resetLane_pool (d : Device) (l : Fin 16) :
    (d.resetLane l).pool = (tells (withEmptied d (laneQueue l)) (laneQueue l) (resetTold d l)).pool := by
  have ht := kicksDropped_touches d l
  have hclock : (kicksDropped d l).trunk.clock = (withEmptied d (laneQueue l)).trunk.clock :=
    same_clock (d := d) ht (by decide)
  have hkeymaps : (kicksDropped d l).keymaps = d.keymaps := ht .keymaps (by decide)
  rw [resetLane_steps, departKeymap_pool, switchTold_congr (d := d) (by simpa using hkeymaps)]
  exact tells_pool_after (by simpa using kicksDropped_pool d l) (by simpa using hclock) _

theorem resetLane_givenUp (d : Device) (l : Fin 16) :
    GivenUp (d.drawers.waitingOf l) d.drawers (d.resetLane l).drawers := by
  obtain ⟨e, he, h⟩ := SupplyKept.resetLane_drawers d l
  have hall := abortAll_givenUp (d.drawers.waitingOf l) 3 e
  rwa [← h, he] at hall

theorem waitList_without (u : DrawerUnit) (l : Fin 16) :
    u.waitList.filter (· ∉ u.waitingOf l) = u.waitList.filter fun k => laneOf k != l := by
  refine List.filter_congr fun k hk => ?_
  simp [DrawerUnit.waitingOf, hk, bne, Bool.beq_eq_decide_eq]

theorem resetLane_consumers (d : Device) (l : Fin 16) :
    (d.resetLane l).delivery.consumers = (d.emptyQueue (laneQueue l)).delivery.consumers :=
  resetLane_touches_emptied d l .consumers (by decide)

/-- The ports of the lane are cleared whatever the lost entries released. -/
theorem resetLane_port (d : Device) (l : Fin 16) {k : Fin 32} (hk : laneOf k = l) :
    (d.resetLane l).ports[k] = d.ports[k].laneReset := by
  rw [resetLane_ports, if_pos hk, emptyQueue_ports]
  exact laneReset_releasedAll _ _ k

theorem resetLane_otherPort (d : Device) (l : Fin 16)
    (hown : ∀ e ∈ d.pool.lanes[laneQueue l].queue, ∀ k b i j, e.body = .buffer k b i j → laneOf k = l) {k : Fin 32}
    (hk : laneOf k ≠ l) : (d.resetLane l).ports[k] = d.ports[k] := by
  rw [resetLane_ports, if_neg hk, emptyQueue_ports]
  exact releasedAll_other _ _ fun e he c i j hb => hk (hown e he k c i j hb)

theorem resetLane_eq (d : Device) (l : Fin 16) :
    let r := d.lanes[l]
    let g := r.pendingSet.getD r.active
    d.resetLane l = { d with
      lanes := d.lanes.set l d.lanes[l].wiped
      scanner := withdrawn d l
      trans := d.trans.set l
        { d.trans[l] with
          held := Vector.replicate 128 none, owner := none, countdown := 0
          delayPasses := if r.pendingSet.isSome then passes g.typDelay g.scanPeriod else d.trans[l].delayPasses
          periodPasses := if r.pendingSet.isSome then passes g.typPeriod g.scanPeriod else d.trans[l].periodPasses }
      keymaps := switched d l, ports := (d.resetLane l).ports
      pool := { d.pool with lanes := (d.resetLane l).pool.lanes }
      delivery := { d.delivery with consumers := (d.resetLane l).delivery.consumers }
      drawers := { d.drawers with
        drawers := (d.resetLane l).drawers.drawers, waitList := d.drawers.waitList.filter fun k => laneOf k != l }
      tlu := { d.tlu with
        generators := d.tlu.generators.set l { d.tlu.generators[l] with playing := none, phaseTimer := none }
        lamps := d.tlu.lamps.set l { overrideMode := none, staged := none } } } := by
  intro r g
  have ht := resetLane_touches d l
  refine eq_of_blocks (resetLane_lanes d l) (resetLane_scanner d l) ?_ (resetLane_keymaps d l) (by dsimp only)
    (ht .rules (by decide)) (pool_eq_of_touches ht (by decide)) (delivery_eq_of_touches ht (by decide)) ?_
    (resetLane_tlu d l) (ht .trunk (by decide)) (ht .timeBase (by decide))
  · rw [resetLane_trans]
    unfold upd
    dsimp only
    rw [retimed_eq d.lanes[l].pendingSet _ d.lanes[l].active]
    rfl
  · rw [← waitList_without]
    exact (resetLane_givenUp d l).rest

/-- Settles O10: block by block, the events through the pool that the emptied queue leaves. -/
theorem resetLane : Obligations.ResetLane := by
  intro s l tag hw
  dsimp only
  let e := s.dev.begin (request tag 0x05 [num l])
  have hcarry : (fun fs d => onLane (fun l d => answer (d.resetLane l) .done) fs d) [num l] e =
      answer (e.resetLane l) .done := onLane_num _ l e
  have htrunk : (e.resetLane l).trunk = started s.dev.trunk (request tag 0x05 [num l]) :=
    resetLane_touches e l .trunk (by decide)
  have hpool (hroom : (resetTold s.dev l).length ≤ 8) : (e.resetLane l).pool =
      queuedAll (withEmptied s.dev (laneQueue l)) (laneQueue l) (resetTold s.dev l) := by
    have hempty : (withEmptied s.dev (laneQueue l)).pool.lanes[laneQueue l].queue = [] := by
      rw [withEmptied, emptied_eq]
      simp
    refine (resetLane_pool e l).trans ((tells_pool_congr (d := withEmptied e (laneQueue l))
      (e := withEmptied s.dev (laneQueue l)) rfl rfl _ _).trans (tells_pool_of_room _ ?_))
    unfold room
    rw [hempty]
    exact (Nat.zero_add _).trans_le hroom
  have hother (m : Fin 17) (hm : m ≠ laneQueue l) : (e.resetLane l).pool.lanes[m] = s.dev.pool.lanes[m] := by
    rw [resetLane_pool, tells_other _ _ hm]
    exact set_getElem _ _ _ _ |>.trans (if_neg hm)
  have hconsumers (c : Fin 8) : (e.resetLane l).delivery.consumers[c] = _ :=
    (congrArg (fun v : Table Consumer 8 => v[c]) (resetLane_consumers e l)).trans (emptyQueue_consumers e (laneQueue l) c)
  have hports (k : Fin 32) (hk : laneOf k = l) : (e.resetLane l).ports[k] = s.dev.ports[k].laneReset :=
    resetLane_port e l hk
  have hothers (hown : ∀ x ∈ s.dev.pool.lanes[laneQueue l].queue, ∀ k b i j, x.body = .buffer k b i j → laneOf k = l)
      (k : Fin 32) (hk : laneOf k ≠ l) : (e.resetLane l).ports[k] = s.dev.ports[k] := resetLane_otherPort e l hown hk
  have hdrawers := (resetLane_givenUp e l).drawer
  have heq := resetLane_eq e l
  dsimp only at heq
  have hrec : e.lanes[l].wiped = s.dev.lanes[l].wiped := rfl
  rw [hrec, wiped_eq] at heq
  unfold withEmptied at hpool
  rw [emptied_eq] at hpool
  generalize e.resetLane l = x at hcarry htrunk hpool hother hconsumers hports hothers hdrawers heq
  exact ⟨_, takeCode_of_answer hw rfl hcarry htrunk, rfl, hpool, hother, hconsumers, hports, hothers, hdrawers,
    congrArg (fun y : Device => { y with trunk := answered s.dev.trunk (request tag 0x05 [num l]) .done [] }) heq⟩

end Sys2Proof.LaneResets

/-! ## What stays within one lane -/

namespace Sys2Proof.Machine

theorem upd_other {α : Type} {n : Nat} (v : Table α n) {i j : Fin n} (f : α → α) (h : j ≠ i) : (upd v i f)[j] = v[j] :=
  (upd_getElem v i j f).trans (if_neg h)

/-- From `d` to `e` no other lane's record, keyboard, held records or keymaps have moved, and no other pending queue. -/
structure Within (l : Fin 16) (d e : Device) : Prop where
  lanes : ∀ m : Fin 16, m ≠ l → e.lanes[m] = d.lanes[m]
  scan : ∀ m : Fin 16, m ≠ l → e.scanner.lanes[m] = d.scanner.lanes[m]
  trans : ∀ m : Fin 16, m ≠ l → e.trans[m] = d.trans[m]
  maps : ∀ m : Fin 16, m ≠ l → e.keymaps.lanes[m] = d.keymaps.lanes[m]
  queues : ∀ q : Fin 17, q ≠ laneQueue l → e.pool.lanes[q] = d.pool.lanes[q]

namespace Within

variable {l : Fin 16} {d e f : Device}

theorem rfl' (l : Fin 16) (d : Device) : Within l d d :=
  ⟨fun _ _ => rfl, fun _ _ => rfl, fun _ _ => rfl, fun _ _ => rfl, fun _ _ => rfl⟩

theorem seq (h1 : Within l d e) (h2 : Within l e f) : Within l d f where
  lanes m hm := (h2.lanes m hm).trans (h1.lanes m hm)
  scan m hm := (h2.scan m hm).trans (h1.scan m hm)
  trans m hm := (h2.trans m hm).trans (h1.trans m hm)
  maps m hm := (h2.maps m hm).trans (h1.maps m hm)
  queues q hq := (h2.queues q hq).trans (h1.queues q hq)

theorem foldl {α : Type} {g : Device → α → Device} (hg : ∀ d a, Within l d (g d a)) (as : List α) (d : Device) :
    Within l d (as.foldl g d) := by
  induction as generalizing d with
  | nil => exact rfl' l d
  | cons a as ih => exact (hg d a).seq (ih _)

theorem ite {c : Prop} [Decidable c] (he : Within l d e) (hf : Within l d f) : Within l d (if c then e else f) := by
  split
  · exact he
  · exact hf

/-- An operation that touches none of the five. -/
theorem of_touches {bs : List Block} (h : Touches bs d e) (hl : Block.lanes ∉ bs) (hs : Block.scanner ∉ bs)
    (ht : Block.trans ∉ bs) (hk : Block.keymaps ∉ bs) (hq : Block.queues ∉ bs) : Within l d e where
  lanes m _ := congrArg (fun v : Table LaneRec 16 => v[m]) (h .lanes hl)
  scan m _ := congrArg (fun v : Scanner => v.lanes[m]) (h .scanner hs)
  trans m _ := congrArg (fun v : Table KeyTrans 16 => v[m]) (h .trans ht)
  maps m _ := congrArg (fun v : KeymapStore => v.lanes[m]) (h .keymaps hk)
  queues q _ := congrArg (fun v : Table PendLane 17 => v[q]) (h .queues hq)

end Within

section

variable (d : Device) (l : Fin 16)

theorem updLane_within (f : LaneRec → LaneRec) : Within l d (d.updLane l f) :=
  { Within.rfl' l d with lanes := fun _ hm => upd_other d.lanes f hm }

theorem updScan_within (f : LaneScan → LaneScan) : Within l d (d.updScan l f) :=
  { Within.rfl' l d with scan := fun _ hm => upd_other d.scanner.lanes f hm }

theorem updTrans_within (f : KeyTrans → KeyTrans) : Within l d (d.updTrans l f) :=
  { Within.rfl' l d with trans := fun _ hm => upd_other d.trans f hm }

theorem updMap_within (f : LaneMap → LaneMap) : Within l d (d.updMap l f) :=
  { Within.rfl' l d with maps := fun _ hm => upd_other d.keymaps.lanes f hm }

theorem offer_within (n : Notice) : Within l d (d.offer (laneQueue l) n) := by
  have ht := offer_touches d (laneQueue l) n
  refine ⟨fun m _ => ?_, fun m _ => ?_, fun m _ => ?_, fun m _ => ?_, fun q hq => d.offer_other _ q n hq⟩
  · exact congrArg (fun v : Table LaneRec 16 => v[m]) (ht .lanes (by decide))
  · exact congrArg (fun v : Scanner => v.lanes[m]) (ht .scanner (by decide))
  · exact congrArg (fun v : Table KeyTrans 16 => v[m]) (ht .trans (by decide))
  · exact congrArg (fun v : KeymapStore => v.lanes[m]) (ht .keymaps (by decide))

theorem wakeReading_within (raw : Byte) : Within l d (d.wakeReading l raw) := by
  have h1 := updLane_within d l fun r => { r with wakeRef := some (rowReading d.lanes[l].active.rows raw), wakeDue := false }
  unfold Device.wakeReading
  dsimp only
  split
  · exact h1
  · exact .ite ((h1.seq (updLane_within _ l _)).seq (offer_within _ l _)) h1

theorem acceptLock_within (k : KeyLock) : Within l d (d.acceptLock l k) := by
  have h1 := updLane_within d l fun r =>
    if k = .locked then LaneRec.closeWindow { r with keyLock := k, settled := true, lockCandidate := none, lockCount := 0 }
    else { r with keyLock := k, settled := true, lockCandidate := none, lockCount := 0 }
  unfold Device.acceptLock
  exact .ite (h1.seq (offer_within _ l _)) h1

theorem sampleLock_within (k : KeyLock) : Within l d (d.sampleLock l k) := by
  unfold Device.sampleLock
  exact .ite (updLane_within d l _) (.ite (updLane_within d l _) (acceptLock_within d l k))

theorem translateRelease_within (p : Fin 128) : Within l d (d.translateRelease l p) := by
  unfold Device.translateRelease
  split
  · exact .rfl' l d
  · exact (Within.ite (offer_within d l _) (.rfl' l d)).seq (updTrans_within _ l _)

theorem laneOf_ofLane (k : Fin 2) : laneOf (ofLane l k) = l := by
  refine Fin.ext ?_
  simp only [laneOf, ofLane]
  omega

theorem interlock_within : Within l d (d.interlock l).1 := by
  have hconsume : Within l d (d.testAndConsume l).1 := by
    unfold Device.testAndConsume
    split
    · exact updLane_within d l _
    · exact .rfl' l d
  unfold Device.interlock
  split
  · split
    · exact .rfl' l d
    · exact .rfl' l d
    · exact hconsume
    · exact .rfl' l d
  · exact .rfl' l d
  · exact .rfl' l d
  · exact .rfl' l d

theorem requestKick_within (k : Fin 2) (o : Origin) : Within l d (d.requestKick (ofLane l k) o).1 := by
  have hrefuse (x : Device) (w : KickRefusal) : Within l x (x.refuseKick (ofLane l k) o w) := by
    rw [Device.refuseKick, laneOf_ofLane]
    exact offer_within x l _
  have haccept (x : Device) : Within l x (x.acceptKick (ofLane l k)) :=
    .of_touches (updDrawers_touches x _) (by decide) (by decide) (by decide) (by decide) (by decide)
  rcases d.requestKick_cases (ofLane l k) o with ⟨w, h⟩ | ⟨-, h⟩ | ⟨-, -, -, -, -, ⟨-, h⟩ | ⟨-, h⟩⟩
  · rw [h]
    exact hrefuse d w
  · rw [h]
    exact .rfl' l d
  · rw [h, laneOf_ofLane]
    exact (interlock_within d l).seq (haccept _)
  · rw [h, laneOf_ofLane]
    exact (interlock_within d l).seq (hrefuse _ .interlock)

theorem tenderPress_within : Within l d (d.tenderPress l) := by
  have h1 := updLane_within d l LaneRec.openWindow
  unfold Device.tenderPress
  dsimp only
  split
  · exact h1.seq (requestKick_within _ l _ _)
  · exact h1

theorem translatePress_within (p : Fin 128) (late : Bool) : Within l d (d.translatePress l p late) := by
  rw [translatePress_eq]
  dsimp only
  have h1 := updTrans_within d l fun t => { t with held := t.held.set p (some (d.pressRecord l p)) }
  split
  · exact h1
  · exact h1
  · exact h1.seq (offer_within _ l _)
  · have h2 := h1.seq (offer_within _ l (keyNotice .keyPress p (d.pressRecord l p) d.lanes[l].keyLock late))
    have h3 := Within.ite (c := d.lanes[l].state = .opened ∧ (d.keyEntry l d.trans[l].layer p).tender = true)
      (h2.seq (tenderPress_within _ l)) h2
    exact .ite (h3.seq (updTrans_within _ l _)) h3

theorem advanceRepeat_within (presses : List (Fin 128 × Bool)) : Within l d (d.advanceRepeat l presses) := by
  unfold Device.advanceRepeat
  dsimp only
  split
  · exact .rfl' l d
  · refine .ite (.rfl' l d) (.ite (updTrans_within d l _) ?_)
    have h1 := updTrans_within d l fun t => { t with countdown := t.periodPasses }
    split
    · exact h1
    · exact .ite h1 (h1.seq (offer_within _ l _))

theorem passNotice_within (rs : List (Fin 128)) (cs : List (Fin 128 × Bool)) : Within l d (d.passNotice l rs cs) := by
  have h1 := Within.foldl (fun d p => translateRelease_within d l p) rs d
  have h2 := Within.foldl (fun d c => translatePress_within d l c.1 c.2) cs
    (rs.foldl (fun d p => d.translateRelease l p) d)
  exact (h1.seq h2).seq (advanceRepeat_within _ l cs)

theorem switchKeymap_within (i : Fin 8) (f : Bool) : Within l d (d.switchKeymap l i f) :=
  (updMap_within d l _).seq (offer_within _ l _)

theorem quietSwitch_within : Within l d (d.quietSwitch l) := by
  unfold Device.quietSwitch
  dsimp only
  split
  · exact .ite (switchKeymap_within d l _ false) (.rfl' l d)
  · exact .rfl' l d

theorem completePass_within (raw : BitVec 128) (lock : KeyLock) : Within l d (d.completePass l raw lock) := by
  rw [completePass_eq]
  exact (((updScan_within d l _).seq (sampleLock_within _ l lock)).seq (passNotice_within _ l _ _)).seq
    (quietSwitch_within _ l)

theorem adopt_within : Within l d (d.adopt l) := by
  unfold Device.adopt
  split
  · exact .rfl' l d
  · exact (updLane_within d l _).seq (updTrans_within _ l _)

theorem latchKey_within (p : Fin 128) : Within l d (d.latchKey l p) :=
  (translateRelease_within d l p).seq (updScan_within _ l _)

theorem applyAdopted_within : Within l d (d.applyAdopted l) :=
  (updScan_within d l _).seq (.foldl (fun d p => latchKey_within d l p) _ _)

theorem laneQueue_ne {m l : Fin 16} (h : m ≠ l) : laneQueue m ≠ laneQueue l := by
  intro hq
  have hval := congrArg Fin.val hq
  exact h (Fin.ext hval)

theorem updLane_updLane (f g : LaneRec → LaneRec) : (d.updLane l f).updLane l g = d.updLane l (g ∘ f) := by
  unfold Device.updLane
  rw [upd_upd]

end

end Sys2Proof.Machine

/-! ## SET-LANE, watch points, and the lane controller's expiries (R12 to R22) -/

namespace Sys2Proof.LaneTiming

open Sys2Proof.Machine Sys2Proof.Claims Sys2Proof.Events Sys2Proof.OpenCounter Sys2Proof.Departures

/-! ### SET-LANE -/

theorem setLane_num {l : Fin 16} {fs : List Byte} {g : Settings} (h : rawSettings fs = some g) (d : Device) :
    setLane (num l :: fs) d =
      let d1 := d.updLane l fun r => { r with pendingSet := some g.clamped }
      answer (if d.lanes[l].state.scanning then d1 else d1.adopt l) (if g.clamped = g then .done else .doneClamped) := by
  unfold setLane
  simp only [inIndex_num l (by decide), h, doneOr, ne_eq, decide_not, Bool.not_eq_true', decide_eq_false_iff_not, ite_not]

theorem adopt_pending (d : Device) (l : Fin 16) (g : Settings) :
    (d.updLane l fun r => { r with pendingSet := some g }).adopt l = { d with
      lanes := d.lanes.set l { d.lanes[l] with active := g, pendingSet := none }.adoptWake
      trans := d.trans.set l { d.trans[l] with
        delayPasses := passes g.typDelay g.scanPeriod, periodPasses := passes g.typPeriod g.scanPeriod } } := by
  have hp : (d.updLane l fun r => { r with pendingSet := some g }).lanes[l].pendingSet = some g := by
    rw [Device.updLane_lanes, upd_getElem_self]
  unfold Device.adopt
  split
  · next hn => cases hn.symm.trans hp
  · next g' hg =>
    cases hg.symm.trans hp
    rw [← delayPasses_eq, ← periodPasses_eq, updLane_updLane]
    rfl

theorem adoptWake_eq (r : LaneRec) : r.adoptWake =
    if r.active.wake = false then { r with wakeMonitor := false, wakeRef := none, wakeHoldOff := 0, wakeDue := false }
    else if r.state = .closed ∧ r.wakeMonitor = false then { r with wakeMonitor := true, wakeRef := none, wakeDue := false }
    else r := by
  simp only [LaneRec.adoptWake, LaneRec.stopWake, LaneRec.startWake, Bool.not_eq_true]

/-- Settles O11: the pending copy is written, and adopted at once where the lane is not scanning. -/
theorem setLane : Obligations.SetLane := by
  intro s l tag fs g d r c w trunk adopted hw hraw
  have hcarry := setLane_num (l := l) hraw (s.dev.begin w)
  refine ⟨fun hscan => ?_, fun hscan => ?_⟩
  · exact takeCode_of_answer hw rfl (hcarry.trans (congrArg (fun x => answer x _) (if_pos hscan))) rfl
  · have hscan' : ¬ (s.dev.begin w).lanes[l].state.scanning = true := by
      rw [show (s.dev.begin w).lanes[l].state.scanning = false from hscan]
      decide
    dsimp only at hcarry
    rw [if_neg hscan', adopt_pending, adoptWake_eq] at hcarry
    exact takeCode_of_answer hw rfl hcarry rfl

/-! ### Key-lock samples and wake readings -/

/-- The third equal sample in a row: the position is accepted, with KEYLOCK unless it is the lane's first. -/
theorem acceptLock_eq {d : Device} {l : Fin 16} (k : KeyLock) (h : room d (laneQueue l) 1) : d.acceptLock l k = { d with
    lanes := d.lanes.set l
      { d.lanes[l] with
        lockCandidate := none, lockCount := 0, keyLock := k, settled := true
        windowOpen := if k = .locked then false else d.lanes[l].windowOpen
        tenderTimer := if k = .locked then 0 else d.lanes[l].tenderTimer }
    pool := if d.lanes[l].settled = true then queued d (laneQueue l) .keylock none k.code d.lanes[l].keyLock.code
      else d.pool } := by
  unfold Device.acceptLock
  by_cases hset : d.lanes[l].settled = true
  · rw [if_pos hset, if_pos hset]
    refine (offer_notice (d := d.updLane l _) (.keylock, none, k.code, d.lanes[l].keyLock.code) h).trans ?_
    cases k <;> rfl
  · rw [if_neg hset, if_neg hset]
    cases k <;> rfl

theorem sampleLock_eq {d : Device} {l : Fin 16} (k : KeyLock) (h : room d (laneQueue l) 1) :
    d.sampleLock l k = lockSampled d l k := by
  unfold Device.sampleLock lockSampled lockFiltered
  dsimp only
  by_cases hsame : d.lanes[l].settled = true ∧ k = d.lanes[l].keyLock
  · rw [if_pos hsame, if_pos hsame, if_neg fun hacc => hacc.1.1 hsame]
    rfl
  rw [if_neg hsame, if_neg hsame]
  by_cases hcand : d.lanes[l].lockCandidate = some k
  · rw [if_pos hcand, if_neg (not_not_intro hcand)]
    by_cases hcount : d.lanes[l].lockCount < 2
    · have hno : ¬ (lockAccepts d.lanes[l] k ∧ d.lanes[l].settled = true) :=
        fun hacc => Nat.not_le.mpr hcount hacc.1.2.2
      rw [if_pos (by omega), if_pos hcount, if_neg hno, ← hcand]
      rfl
    · have hacc : lockAccepts d.lanes[l] k := ⟨hsame, hcand, Nat.not_lt.mp hcount⟩
      rw [if_neg (by omega), if_neg hcount, acceptLock_eq k h]
      by_cases hset : d.lanes[l].settled = true
      · have hboth : lockAccepts d.lanes[l] k ∧ d.lanes[l].settled = true := ⟨hacc, hset⟩
        rw [if_pos hset, if_pos hboth]
      · have hno : ¬ (lockAccepts d.lanes[l] k ∧ d.lanes[l].settled = true) := fun hboth => hset hboth.2
        rw [if_neg hset, if_neg hno]
  · have hno : ¬ (lockAccepts d.lanes[l] k ∧ d.lanes[l].settled = true) := fun hacc => hcand hacc.1.2.1
    rw [if_neg hcand, if_pos (by decide), if_pos hcand, if_neg hno]
    rfl

theorem byteOf_toNat (b : Byte) : byteOf b.toNat = b := BitVec.ofNat_toNat 8 b

theorem wakeReading_eq {d : Device} {l : Fin 16} (rows : Byte) (h : room d (laneQueue l) 1) :
    d.wakeReading l rows = woken d l rows := by
  unfold Device.wakeReading woken
  dsimp only [rowReading]
  cases d.lanes[l].wakeRef with
  | none => rfl
  | some old =>
    dsimp only
    split
    · rw [updLane_updLane]
      generalize hnew : rows &&& BitVec.ofNat 8 (2 ^ d.lanes[l].active.rows - 1) = new
      have hoffer (x : Device) : x.offer (laneQueue l) { kind := .activity, detail1 := old, detail2 := new } =
          x.offer (laneQueue l) (notice (.activity, none, old.toNat, new.toNat)) := by
        unfold notice
        dsimp only
        rw [byteOf_toNat, byteOf_toNat]
      rw [hoffer]
      exact offer_notice (d := d.updLane l _) (.activity, none, old.toNat, new.toNat) h
    · rfl

/-! ### The readings that are due at a pass end -/

/-- What a wake reading of lane `l` reads and writes, with the device clock. -/
def wakeView (d : Device) (l : Fin 16) : LaneRec × PendLane × Word32 :=
  (d.lanes[l], d.pool.lanes[laneQueue l], d.trunk.clock)

theorem wakeReading_view_other (d : Device) {m l : Fin 16} (h : l ≠ m) (raw : Byte) :
    wakeView (d.wakeReading m raw) l = wakeView d l := by
  have hw := wakeReading_within d m raw
  unfold wakeView
  rw [hw.lanes l h, hw.queues _ (laneQueue_ne h), same_clock (wakeReading_touches d m raw) (by decide)]

theorem offer_view_congr {d e : Device} {l : Fin 16} (h : wakeView d l = wakeView e l) (n : Notice) :
    wakeView (d.offer (laneQueue l) n) l = wakeView (e.offer (laneQueue l) n) l := by
  obtain ⟨hrec, hpair⟩ := Prod.mk.inj h
  obtain ⟨hqueue, hclock⟩ := Prod.mk.inj hpair
  have hev : d.eventOf (laneQueue l) n = e.eventOf (laneQueue l) n := by
    unfold Device.eventOf
    rw [hqueue, hclock]
  unfold wakeView
  rw [Device.offer_lanes, Device.offer_lanes, Device.offer_trunk, Device.offer_trunk, Machine.offer_lanes,
    Machine.offer_lanes, upd_getElem_self, upd_getElem_self, hev, hrec, hqueue, hclock]

theorem updLane_view_congr {d e : Device} {l : Fin 16} (h : wakeView d l = wakeView e l) (f : LaneRec → LaneRec) :
    wakeView (d.updLane l f) l = wakeView (e.updLane l f) l := by
  obtain ⟨hrec, hpair⟩ := Prod.mk.inj h
  unfold wakeView
  rw [Device.updLane_lanes, Device.updLane_lanes, upd_getElem_self, upd_getElem_self, hrec]
  exact congrArg (Prod.mk _) hpair

theorem wakeReading_view_congr {d e : Device} {l : Fin 16} (h : wakeView d l = wakeView e l) (raw : Byte) :
    wakeView (d.wakeReading l raw) l = wakeView (e.wakeReading l raw) l := by
  have hrec : d.lanes[l] = e.lanes[l] := (Prod.mk.inj h).1
  unfold Device.wakeReading
  dsimp only
  rw [hrec]
  have h1 := updLane_view_congr h fun r => { r with wakeRef := some (rowReading e.lanes[l].active.rows raw), wakeDue := false }
  cases e.lanes[l].wakeRef with
  | none => exact h1
  | some old =>
    by_cases hnew : old ≠ rowReading e.lanes[l].active.rows raw ∧ e.lanes[l].wakeHoldOff = 0
    · simp only [if_pos hnew]
      exact offer_view_congr (updLane_view_congr h1 _) _
    · simp only [if_neg hnew]
      exact h1

theorem readings_view {ls : List (Fin 16)} (hnodup : ls.Nodup) (wake : BitVec 128) (d : Device) (l : Fin 16) :
    wakeView (ls.foldl (fun d m => d.wakeReading m (wakeRows wake m)) d) l =
      if l ∈ ls then wakeView (d.wakeReading l (wakeRows wake l)) l else wakeView d l := by
  induction ls generalizing d with
  | nil => rfl
  | cons m ls ih =>
    obtain ⟨hm, hls⟩ := List.nodup_cons.mp hnodup
    rw [List.foldl_cons, ih hls]
    by_cases hl : l = m
    · subst hl
      rw [if_neg hm, if_pos List.mem_cons_self]
    · have hview := wakeReading_view_other d hl (wakeRows wake m)
      rw [hview, wakeReading_view_congr hview]
      simp [hl]

theorem takeDueReadings_view (wake : BitVec 128) (d : Device) (l : Fin 16) :
    wakeView (d.takeDueReadings wake) l =
      if d.lanes[l].wakeDue = true then wakeView (d.wakeReading l (wakeRows wake l)) l else wakeView d l := by
  unfold Device.takeDueReadings
  rw [readings_view ((List.nodup_finRange 16).filter _)]
  simp

theorem wakeRows_eq (wake : BitVec 128) (l : Fin 16) : wakeRows wake l = wake.extractLsb' (8 * l.val) 8 := by
  refine BitVec.eq_of_toNat_eq ?_
  simp [wakeRows, BitVec.extractLsb'_toNat, Nat.shiftRight_eq_div_pow]

/-- The steps of a pass end before it takes the readings that are due. -/
def passSettled (raw : BitVec 128) (lock : KeyLock) (p : Fin 16) (d : Device) : Device :=
  (if d.scanner.lanes[p].discard then d.updScan p fun m => { m with discard := false }
    else d.completePass p raw lock).updScanner fun m =>
      { m with laneInPass := none, passLeft := 0, passColumns := 0, passDwell := 0 }

theorem passEnd_eq {d : Device} {p : Fin 16} (hp : d.scanner.laneInPass = some p) (raw : BitVec 128) (lock : KeyLock)
    (wake : BitVec 128) : passEnd raw lock wake d = (passSettled raw lock p d).takeDueReadings wake := by
  unfold passEnd passSettled
  rw [hp]

theorem passSettled_within (raw : BitVec 128) (lock : KeyLock) (p : Fin 16) (d : Device) :
    Within p d (passSettled raw lock p d) := by
  have hfree (x : Device) : Within p x (x.updScanner fun m =>
      { m with laneInPass := none, passLeft := 0, passColumns := 0, passDwell := 0 }) :=
    { Within.rfl' p x with scan := fun _ _ => rfl }
  exact (Within.ite (updScan_within d p _) (completePass_within d p raw lock)).seq (hfree _)

theorem passSettled_touches (raw : BitVec 128) (lock : KeyLock) (p : Fin 16) (d : Device) :
    Touches [.lanes, .scanner, .trans, .keymaps, .queues, .drawers] d (passSettled raw lock p d) :=
  ((Touches.ite ((updScan_touches d p _).mono (by decide)) (completePass_touches d p raw lock)).seq
    (updScanner_touches _ _)).mono (by decide)

/-- A pass of another lane, or one that is discarded, leaves to the readings what they found before it. -/
theorem passSettled_view (raw : BitVec 128) (lock : KeyLock) {p l : Fin 16} {d : Device}
    (h : p ≠ l ∨ d.scanner.lanes[p].discard = true) : wakeView (passSettled raw lock p d) l = wakeView d l := by
  rcases h with h | h
  · have hw := passSettled_within raw lock p d
    unfold wakeView
    rw [hw.lanes l h.symm, hw.queues _ (laneQueue_ne h.symm), same_clock (passSettled_touches raw lock p d) (by decide)]
  · unfold passSettled
    rw [if_pos h]
    rfl

/-! ### Watch points and expiries -/

theorem exec_watchPoint_fin (s : State) (l : Fin 16) (a b : Bool) (rows : Byte) (hr : s.dev.inReset = false) :
    exec (.watchPoint l a b rows) s = .next { s with dev := watchPoint a b rows l s.dev } :=
  (exec_watchPoint s l a b rows).trans ((s.runAt_of_lt _ _ l.isLt).trans (s.run_of_running _ hr))

theorem lockSampled_rec (d : Device) (l : Fin 16) (k : KeyLock) :
    (lockSampled d l k).lanes[l] = lockFiltered d.lanes[l] k := by
  simp [lockSampled]

theorem lockSampled_room {d : Device} {l : Fin 16} (k : KeyLock) (h : room d (laneQueue l) 2) :
    room (lockSampled d l k) (laneQueue l) 1 := by
  unfold lockSampled room
  dsimp only
  split
  · rw [queued, appended_same, List.length_append, List.length_singleton]
    omega
  · omega

theorem watchPoint_eq {d : Device} {l : Fin 16} (hrun : d.lanes[l].watchTimer.isSome) (a b : Bool) (rows : Byte) :
    watchPoint a b rows l d =
      let d1 := (d.updLane l fun r => { r with watchTimer := some 8 }).sampleLock l (KeyLock.ofLines a b)
      if d.lanes[l].state = .closed ∧ d.lanes[l].wakeMonitor = true then
        if d.scanner.idle then d1.wakeReading l rows else d1.updLane l fun r => { r with wakeDue := true }
      else d1 := by
  obtain ⟨t, ht⟩ := Option.isSome_iff_exists.mp hrun
  unfold watchPoint
  rw [ht]

/-- Settles O12: a watch point is a sample and then a reading or its deferral; a pass end takes each lane's reading
apart from those of the others. -/
theorem laneTimers : Obligations.LaneTimers := by
  refine ⟨fun s l a b rows hr hrun hroom => ?_, fun s p l raw wake a b hr hp hpl hroom => ?_, fun s l hr => ⟨?_, ?_, ?_⟩⟩
  · intro r d goes
    have hsample : (s.dev.updLane l fun r => { r with watchTimer := some 8 }).sampleLock l (KeyLock.ofLines a b) = d :=
      sampleLock_eq _ (Nat.le_of_succ_le hroom)
    have hpoint := watchPoint_eq hrun a b rows
    dsimp only at hpoint
    rw [hsample] at hpoint
    have hgo {x : Device} (hx : watchPoint a b rows l s.dev = x) : goes x :=
      hx ▸ exec_watchPoint_fin s l a b rows hr
    refine ⟨fun hno => hgo (hpoint.trans (if_neg ?_)), fun hclosed hmon hidle => hgo ?_, fun hclosed hmon hbusy => hgo ?_⟩
    · rintro ⟨hclosed, hmon⟩
      rcases hno with hno | hno
      · exact hno hclosed
      · cases hno.symm.trans hmon
    · rw [hpoint, if_pos ⟨hclosed, hmon⟩, if_pos (by simp [Scanner.idle, hidle])]
      exact wakeReading_eq rows (lockSampled_room _ hroom)
    · have hidle : ¬ s.dev.scanner.idle = true := by
        obtain ⟨m, hm⟩ := Option.isSome_iff_exists.mp hbusy
        simp [Scanner.idle, hm]
      rw [hpoint, if_pos ⟨hclosed, hmon⟩, if_neg hidle]
      rfl
  · intro d q
    have hview := takeDueReadings_view wake (passSettled raw (KeyLock.ofLines a b) p s.dev) l
    have hbefore := passSettled_view raw (KeyLock.ofLines a b) hpl
    have hdue : (passSettled raw (KeyLock.ofLines a b) p s.dev).lanes[l] = s.dev.lanes[l] := (Prod.mk.inj hbefore).1
    rw [wakeReading_view_congr hbefore, hbefore, hdue, wakeReading_eq _ hroom, wakeRows_eq] at hview
    refine ⟨_, (exec_passEnd s raw a b wake).trans (s.run_of_running _ hr), rfl, ?_, fun hd => ?_, fun hd => ?_⟩
    · rw [passEnd_scanner s.dev hp]
      rfl
    · dsimp only
      rw [if_pos hd] at hview
      rw [passEnd_eq hp]
      exact ⟨(Prod.mk.inj hview).1, (Prod.mk.inj (Prod.mk.inj hview).2).1⟩
    · dsimp only
      rw [if_neg (Bool.eq_false_iff.mp hd)] at hview
      rw [passEnd_eq hp]
      exact ⟨(Prod.mk.inj hview).1, (Prod.mk.inj (Prod.mk.inj hview).2).1⟩
  · intro hopen
    refine (exec_tenderTimerExpiry s l).trans ((s.runAt_of_lt _ _ l.isLt).trans ((s.run_of_running _ hr).trans ?_))
    rw [show tenderExpiry ⟨l, l.isLt⟩ s.dev = s.dev.updLane l LaneRec.closeWindow from if_pos hopen]
    rfl
  · intro hopen
    refine (exec_tenderTimerExpiry s l).trans ((s.runAt_of_lt _ _ l.isLt).trans ((s.run_of_running _ hr).trans ?_))
    rw [show tenderExpiry ⟨l, l.isLt⟩ s.dev = s.dev from if_neg (Bool.eq_false_iff.mp hopen)]
  · exact (exec_wakeHoldOffExpiry s l).trans ((s.runAt_of_lt _ _ l.isLt).trans (s.run_of_running _ hr))

end Sys2Proof.LaneTiming

/-! ## The three arbiters (R27, R112, R144) -/

namespace Sys2Proof.Arbiters

open Sys2Proof.Machine Sys2Proof.Claims

/-! ### The first in a search order is the nearest -/

/-- In a list ordered by a measure, and complete, the first element with a property is the one of least measure. -/
theorem find?_eq_some_iff_least {α : Type} {xs : List α} {m : α → Nat} (hsorted : xs.Pairwise fun a b => m a < m b)
    (hall : ∀ a, a ∈ xs) (p : α → Bool) (a : α) :
    xs.find? p = some a ↔ p a = true ∧ ∀ b, p b = true → m a ≤ m b := by
  have hleast {c : α} (hc : xs.find? p = some c) (b : α) (hb : p b = true) : b = c ∨ m c < m b := by
    obtain ⟨-, as, bs, rfl, hno⟩ := List.find?_eq_some_iff_append.mp hc
    rcases List.mem_append.mp (hall b) with hmem | hmem
    · exact absurd hb (by simpa using hno b hmem)
    · rcases List.mem_cons.mp hmem with rfl | hmem
      · exact .inl rfl
      · exact .inr ((List.pairwise_cons.mp (List.pairwise_append.mp hsorted).2.1).1 b hmem)
  constructor
  · intro h
    refine ⟨List.find?_some h, fun b hb => ?_⟩
    rcases hleast h b hb with rfl | hlt
    · exact le_rfl
    · exact hlt.le
  · rintro ⟨ha, hmin⟩
    cases h : xs.find? p with
    | none => exact absurd ha (by simpa using List.find?_eq_none.mp h a (hall a))
    | some c =>
      rcases hleast h a ha with rfl | hlt
      · rfl
      · exact absurd (hmin c (List.find?_some h)) (Nat.not_le.mpr hlt)

theorem distance_next {n : Nat} [NeZero n] (last k : Fin n) : distance n last (last + 1 + k : Fin n).val = k.val := by
  have hn : 0 < n := Nat.pos_of_ne_zero (NeZero.ne n)
  have hval : (last + 1 + k : Fin n).val = (last.val + 1 + k.val) % n := by
    simp [Fin.val_add]
  unfold distance
  rw [hval]
  have hl := last.isLt
  have hk := k.isLt
  by_cases h : last.val + 1 + k.val < n
  · rw [Nat.mod_eq_of_lt h, show last.val + 1 + k.val + n - last.val - 1 = k.val + n from by omega, Nat.add_mod_right,
      Nat.mod_eq_of_lt hk]
  · have hmod : (last.val + 1 + k.val) % n = last.val + 1 + k.val - n := by
      rw [Nat.mod_eq_sub_mod (by omega), Nat.mod_eq_of_lt (by omega)]
    rw [hmod, show last.val + 1 + k.val - n + n - last.val - 1 = k.val from by omega, Nat.mod_eq_of_lt hk]

theorem rotation_sorted {n : Nat} [NeZero n] (last : Fin n) :
    (Machine.rotation last).Pairwise fun a b => distance n last a.val < distance n last b.val := by
  unfold Machine.rotation
  rw [List.pairwise_map]
  refine (List.pairwise_lt_finRange n).imp fun {a b} h => ?_
  rw [distance_next, distance_next]
  exact h

theorem mem_rotation {n : Nat} [NeZero n] (last i : Fin n) : i ∈ Machine.rotation last := by
  refine List.mem_map.mpr ⟨i - (last + 1), List.mem_finRange _, ?_⟩
  exact add_sub_cancel _ _

theorem rotation_find {n : Nat} [NeZero n] (last : Fin n) (p : Fin n → Bool) (i : Fin n) :
    (Machine.rotation last).find? p = some i ↔
      p i = true ∧ ∀ k, p k = true → distance n last i.val ≤ distance n last k.val :=
  find?_eq_some_iff_least (rotation_sorted last) (mem_rotation last) p i

/-! ### The candidates of each arbiter -/

theorem nextLane_iff {m : Scanner} (h : m.laneInPass = none) (l : Fin 16) :
    m.nextLane = some l ↔ m.lanes[l].waiting = true ∧
      ∀ k : Fin 16, m.lanes[k].waiting = true → distance 16 m.lastServed l ≤ distance 16 m.lastServed k := by
  have hidle : m.idle = true := by simp [Scanner.idle, h]
  unfold Scanner.nextLane
  rw [if_pos hidle]
  exact rotation_find m.lastServed (fun l => m.lanes[l].waiting) l

/-- A head that the admitter may take: FRESH, or WAITING with its need met. -/
abbrev Candidate (p : Pool) (q : Fin 17) : Prop :=
  ∃ e rest, p.lanes[q].queue = e :: rest ∧
    (p.lanes[q].waiting = false ∨
      (if e.ev.kind.cls = .key ∨ e.ev.kind.cls = .scan then p.reserve else 0) < p.freeList.length)

theorem meets_iff (p : Pool) (c : EventClass) :
    p.meets c = true ↔ (if c = .key ∨ c = .scan then p.reserve else 0) < p.freeList.length := by
  unfold Pool.meets Pool.freeCount
  cases c <;> simp [EventClass.underReserve]

theorem candidate_iff (p : Pool) (q : Fin 17) : p.candidate q = true ↔ Candidate p q := by
  unfold Pool.candidate Candidate
  cases h : p.lanes[q].queue with
  | nil => simp
  | cons e rest =>
    rw [Bool.or_eq_true, Bool.not_eq_true', meets_iff]
    constructor
    · exact fun hc => ⟨e, rest, rfl, hc⟩
    · rintro ⟨e', rest', heq, hc⟩
      cases heq
      exact hc

theorem poolNextLane_iff (p : Pool) (q : Fin 17) : p.nextLane = some q ↔ Candidate p q ∧
    ∀ k : Fin 17, Candidate p k → distance 17 p.lastServed q ≤ distance 17 p.lastServed k := by
  unfold Pool.nextLane
  simp only [rotation_find, candidate_iff]

/-! ### The transmitter's choice -/

theorem findSome?_eq_some_iff {α β : Type} {xs : List α} {g : α → Option β} {b : β} :
    xs.findSome? g = some b ↔ ∃ a, xs.find? (fun a => (g a).isSome) = some a ∧ g a = some b := by
  induction xs with
  | nil => simp
  | cons x xs ih =>
    cases hx : g x with
    | none => simp [hx, ih]
    | some c => simp [hx]

/-- The consumer has credit and a reference in the queue `f`. -/
abbrev Ready (f : Consumer → List (Fin 512)) (u : Delivery) (c : Fin 8) : Prop :=
  0 < u.consumers[c].credit ∧ f u.consumers[c] ≠ []

theorem firstWith_eq_some (u : Delivery) (f : Consumer → List (Fin 512)) (c : Fin 8) (r : Fin 512) :
    u.firstWith f = some (c, r) ↔ (f u.consumers[c]).head? = some r ∧ 0 < u.consumers[c].credit ∧
      ∀ k : Fin 8, Ready f u k → distance 8 u.lastServed c ≤ distance 8 u.lastServed k := by
  have hready (k : Fin 8) : (if 0 < u.consumers[k].credit then (f u.consumers[k]).head?.map fun r => (k, r)
      else none).isSome = true ↔ Ready f u k := by
    unfold Ready
    by_cases hc : 0 < u.consumers[k].credit
    · rw [if_pos hc, Option.isSome_map, List.isSome_head?]
      simp only [hc, true_and, ne_eq]
    · rw [if_neg hc]
      simp only [hc, false_and, Option.isSome_none, Bool.false_eq_true]
  unfold Delivery.firstWith
  rw [findSome?_eq_some_iff]
  simp only [rotation_find, hready]
  constructor
  · rintro ⟨a, ⟨⟨hc, -⟩, hmin⟩, ha⟩
    rw [if_pos hc, Option.map_eq_some_iff] at ha
    obtain ⟨r', hr, heq⟩ := ha
    cases heq
    exact ⟨hr, hc, hmin⟩
  · rintro ⟨hr, hc, hmin⟩
    refine ⟨c, ⟨⟨hc, fun hnil => ?_⟩, hmin⟩, ?_⟩
    · rw [hnil] at hr
      cases hr
    · rw [if_pos hc, hr]
      rfl

theorem firstWith_eq_none (u : Delivery) (f : Consumer → List (Fin 512)) :
    u.firstWith f = none ↔ ∀ k : Fin 8, ¬ Ready f u k := by
  unfold Delivery.firstWith
  rw [List.findSome?_eq_none_iff]
  constructor
  · rintro h k ⟨hc, hq⟩
    have hk := h k (mem_rotation _ k)
    rw [if_pos hc, Option.map_eq_none_iff, List.head?_eq_none_iff] at hk
    exact hq hk
  · intro h k _
    by_cases hc : 0 < u.consumers[k].credit
    · rw [if_pos hc, Option.map_eq_none_iff, List.head?_eq_none_iff]
      exact not_not.mp fun hq => h k ⟨hc, hq⟩
    · rw [if_neg hc]

theorem chooseFrame_urgent (u : Delivery) (c : Fin 8) (r : Fin 512) :
    u.chooseFrame = some (c, r, true) ↔ u.firstWith Consumer.urgentQ = some (c, r) := by
  unfold Delivery.chooseFrame
  cases u.firstWith Consumer.urgentQ with
  | some x => simp [Prod.ext_iff]
  | none =>
    cases u.firstWith Consumer.routineQ with
    | some x => simp
    | none => simp

theorem chooseFrame_routine (u : Delivery) (c : Fin 8) (r : Fin 512) : u.chooseFrame = some (c, r, false) ↔
    u.firstWith Consumer.urgentQ = none ∧ u.firstWith Consumer.routineQ = some (c, r) := by
  unfold Delivery.chooseFrame
  cases u.firstWith Consumer.urgentQ with
  | some x => simp
  | none =>
    cases u.firstWith Consumer.routineQ with
    | some x => simp [Prod.ext_iff]
    | none => simp

theorem chooseFrame_none (u : Delivery) :
    u.chooseFrame = none ↔ u.firstWith Consumer.urgentQ = none ∧ u.firstWith Consumer.routineQ = none := by
  unfold Delivery.chooseFrame
  cases u.firstWith Consumer.urgentQ with
  | some x => simp
  | none =>
    cases u.firstWith Consumer.routineQ with
    | some x => simp
    | none => simp

/-- Settles O26: each arbiter finds the first of its candidates in the rotation, which lists by distance. -/
theorem rotations : Obligations.Rotations := by
  intro m p u
  refine ⟨fun l h => nextLane_iff h l, poolNextLane_iff p, fun c r => ?_, fun c r => ?_, ?_⟩
  · rw [chooseFrame_urgent, firstWith_eq_some]
  · rw [chooseFrame_routine, firstWith_eq_none, firstWith_eq_some]
  · rw [chooseFrame_none, firstWith_eq_none, firstWith_eq_none]
    exact ⟨fun ⟨h1, h2⟩ k => ⟨h1 k, h2 k⟩, fun h => ⟨fun k => (h k).1, fun k => (h k).2⟩⟩

end Sys2Proof.Arbiters

/-! ## Due points and pass starts (R25 to R31) -/

namespace Sys2Proof.Passes

open Sys2Proof.Machine Sys2Proof.Claims Sys2Proof.Events Sys2Proof.OpenCounter Sys2Proof.Departures
open Sys2Proof.Arbiters

/-! ### Due points -/

theorem exec_duePoint_fin (s : State) (l : Fin 16) (hr : s.dev.inReset = false) :
    exec (.duePoint l) s = .next { s with dev := duePoint l s.dev } :=
  (exec_duePoint s l).trans ((s.runAt_of_lt _ _ l.isLt).trans (s.run_of_running _ hr))

theorem duePoint_fresh {d : Device} {l : Fin 16} (ht : d.scanner.lanes[l].dueTimer.isSome)
    (hw : d.scanner.lanes[l].waiting = false) : duePoint l d = d.updScan l fun m =>
      { m with waiting := true, dueTimer := some (d.lanes[l].active.scanPeriod * 250) } := by
  obtain ⟨t, ht⟩ := Option.isSome_iff_exists.mp ht
  unfold duePoint
  dsimp only
  rw [ht]
  exact if_neg (Bool.eq_false_iff.mp hw)

/-- The part with the pass of lane `l` counted as missed. -/
def missed (d : Device) (l : Fin 16) : Device :=
  d.updScan l fun m =>
    { m with missCount := sat16 m.missCount 1, dueTimer := some (d.lanes[l].active.scanPeriod * 250) }

theorem duePoint_missed {d : Device} {l : Fin 16} (ht : d.scanner.lanes[l].dueTimer.isSome)
    (hw : d.scanner.lanes[l].waiting = true) : duePoint l d =
      match d.lanes[l].active.missPolicy with
      | .hold => missed d l
      | .fault => (missed d l).depart l .faulted .missFault := by
  obtain ⟨t, ht⟩ := Option.isSome_iff_exists.mp ht
  unfold duePoint
  dsimp only
  rw [ht]
  exact if_pos hw

theorem missed_keys (d : Device) (l : Fin 16) : (missed d l).scanner.lanes[l] =
    { d.scanner.lanes[l] with
      missCount := sat16 d.scanner.lanes[l].missCount 1, dueTimer := some (d.lanes[l].active.scanPeriod * 250) } := by
  unfold missed
  rw [Device.updScan, Device.updScanner_scanner, upd_getElem_self]

theorem pressedKeys_congr {d e : Device} {l : Fin 16} (h : e.scanner.lanes[l].keys = d.scanner.lanes[l].keys) :
    pressedKeys e l = pressedKeys d l := by
  unfold pressedKeys
  rw [h]

theorem missed_pressed (d : Device) (l : Fin 16) : pressedKeys (missed d l) l = pressedKeys d l :=
  pressedKeys_congr (by rw [missed_keys])

theorem missed_departing (d : Device) (l : Fin 16) (state cause : Nat) :
    departing (missed d l) l state cause = departing d l state cause := by
  unfold departing
  rw [missed_pressed]
  rfl

theorem departed_faulted (r : LaneRec) :
    let g := r.pendingSet.getD r.active
    let left := { r with state := .faulted, windowOpen := false, tenderTimer := 0, watchTimer := some 8, active := g
                         pendingSet := none }
    LaneRec.departed .faulted r =
      if r.pendingSet.isSome ∧ g.wake = false then
        { left with wakeMonitor := false, wakeRef := none, wakeHoldOff := 0, wakeDue := false } else left := by
  unfold LaneRec.departed LaneRec.adopted
  dsimp only [LaneRec.closeWindow]
  rw [if_neg (by decide)]
  cases hp : r.pendingSet with
  | none => simp
  | some g =>
    dsimp only [Option.getD_some, Option.isSome_some]
    rw [LaneTiming.adoptWake_eq]
    by_cases hw : g.wake = false
    · rw [if_pos hw, if_pos ⟨rfl, hw⟩]
    · have hc : ¬ (LaneState.faulted = .closed ∧ r.wakeMonitor = false) := fun h => absurd h.1 (by decide)
      rw [if_neg hw, if_neg hc, if_neg fun h => hw h.2]

/-- A missed pass under the miss policy FAULT. -/
theorem missFault {s : State} {l : Fin 16} (hr : s.dev.inReset = false) (ht : s.dev.scanner.lanes[l].dueTimer.isSome)
    (hw : s.dev.scanner.lanes[l].waiting = true) (hp : s.dev.lanes[l].active.missPolicy = .fault) :
    exec (.duePoint l) s = .next { s with dev := (missed s.dev l).depart l .faulted .missFault } := by
  rw [exec_duePoint_fin s l hr, duePoint_missed ht hw, hp]

theorem missed_withdrawn (d : Device) (l : Fin 16) : withdrawn (missed d l) l = { d.scanner with
    lanes := d.scanner.lanes.set l
      { (withdrawn d l).lanes[l] with missCount := min 65535 (d.scanner.lanes[l].missCount + 1) } } := by
  have hscan : (withdrawn d l).lanes[l] = { d.scanner.lanes[l] with
      waiting := false, dueTimer := none
      discard := d.scanner.lanes[l].discard || decide (d.scanner.laneInPass = some l)
      integ := Vector.replicate 128 0, keys := Vector.replicate 128 .released } := by
    unfold withdrawn
    exact upd_getElem_self d.scanner.lanes l fun _ => _
  rw [hscan]
  unfold withdrawn
  rw [missed_keys]
  simp only [missed, Device.updScan, Device.updScanner_scanner]
  congr 1
  exact upd_upd d.scanner.lanes l _ fun _ => _

/-! ### Pass starts: the keys above the rollover limit -/

theorem latchKey_pool (d : Device) (l : Fin 16) (p : Fin 128) : (d.latchKey l p).pool = (d.translateRelease l p).pool := by
  rw [Device.latchKey, Device.updScan_pool]

theorem latchKeys_pool (d : Device) (l : Fin 16) {ps : List (Fin 128)} (hnodup : ps.Nodup) :
    (ps.foldl (fun e p => e.latchKey l p) d).pool = (tells d (laneQueue l) (releasesOf d l ps)).pool := by
  induction ps generalizing d with
  | nil => rfl
  | cons p ps ih =>
    obtain ⟨hp, hps⟩ := List.nodup_cons.mp hnodup
    have ht := latchKey_touches d l p
    have hheld (x : Fin 128) (hx : x ∈ ps) : (d.latchKey l p).trans[l].held[x] = d.trans[l].held[x] := by
      have htrans : (d.latchKey l p).trans = (d.translateRelease l p).trans := Device.updScan_trans _ l _
      rw [htrans, translateRelease_trans, upd_getElem_self, release_held, if_neg (ne_of_mem_of_not_mem hx hp)]
    have hlock : (d.latchKey l p).lanes[l].keyLock = d.lanes[l].keyLock :=
      congrArg (fun v : Table LaneRec 16 => v[l].keyLock) (ht .lanes (by decide))
    rw [List.foldl_cons, ih _ hps, releasesOf_congr hheld hlock, releasesOf_cons]
    exact tells_pool_after ((latchKey_pool d l p).trans (translateRelease_pool d l p)) (same_clock ht (by decide)) _

/-- The keys above a rollover limit, as the statements name them. -/
theorem overLimit_eq (d : Device) (l : Fin 16) (limit : Nat) : d.scanner.lanes[l].overLimit limit =
    (pressedKeys d l).reverse.take ((pressedKeys d l).length - limit) := rfl

theorem overLimit_nodup (m : LaneScan) (limit : Nat) : (m.overLimit limit).Nodup :=
  ((List.nodup_reverse.mpr ((List.nodup_finRange 128).filter _)).sublist (List.take_sublist _ _))

theorem adopt_keyLock (d : Device) (l : Fin 16) : (d.adopt l).lanes[l].keyLock = d.lanes[l].keyLock := by
  rw [adopt_lanes, upd_getElem_self]
  unfold LaneRec.adopted LaneRec.adoptWake LaneRec.stopWake LaneRec.startWake
  cases d.lanes[l].pendingSet with
  | none => rfl
  | some g =>
    dsimp only
    split
    · rfl
    · split <;> rfl

theorem adopt_held (d : Device) (l : Fin 16) (p : Fin 128) : (d.adopt l).trans[l].held[p] = d.trans[l].held[p] := by
  rw [adopt_trans, upd_getElem_self, retimed_held]

/-- The events of a pass start that adopts settings. -/
theorem startPass_pool (d : Device) (l : Fin 16) : (d.startPass l).pool =
    match d.lanes[l].pendingSet with
    | none => d.pool
    | some g => (tells d (laneQueue l) (releasesOf d l (d.scanner.lanes[l].overLimit g.rollover))).pool := by
  rw [startPass_eq, Device.updScanner_pool]
  have hkeys : ((d.takePass l).adopt l).scanner.lanes[l].keys = d.scanner.lanes[l].keys := by
    rw [Device.adopt_scanner]
    unfold Device.takePass Device.updScan
    rw [Device.updScanner_scanner, Device.updScanner_scanner]
    dsimp only
    rw [upd_getElem_self]
  unfold Device.refit
  cases hp : d.lanes[l].pendingSet with
  | none =>
    have hp' : (d.takePass l).lanes[l].pendingSet = none := hp
    rw [hp']
    rfl
  | some g =>
    have hp' : (d.takePass l).lanes[l].pendingSet = some g := hp
    rw [hp']
    simp only [Option.isSome_some, if_true]
    have hactive : ((d.takePass l).adopt l).lanes[l].active = g := by
      rw [adopt_lanes, upd_getElem_self, adopted_active, hp', Option.getD_some]
    unfold Device.applyAdopted
    dsimp only
    rw [hactive]
    generalize hx : ((d.takePass l).adopt l).updScan l (fun m => { m with integ := mapTab m.integ (min g.debounce) }) = x
    have hxkeys : x.scanner.lanes[l].keys = d.scanner.lanes[l].keys := by
      rw [← hkeys, ← hx, Device.updScan, Device.updScanner_scanner, upd_getElem_self]
    have hxpool : x.pool = d.pool := by
      rw [← hx, Device.updScan_pool, Device.adopt_pool]
      rfl
    have hxtrunk : x.trunk.clock = d.trunk.clock := by
      rw [← hx, Device.updScan_trunk, Device.adopt_trunk]
      rfl
    have hxheld (p : Fin 128) : x.trans[l].held[p] = d.trans[l].held[p] := by
      rw [← hx, Device.updScan_trans, adopt_held]
      rfl
    have hxlock : x.lanes[l].keyLock = d.lanes[l].keyLock := by
      rw [← hx, Device.updScan_lanes, adopt_keyLock]
      rfl
    rw [latchKeys_pool _ _ (overLimit_nodup _ _), overLimit_congr hxkeys,
      releasesOf_congr (fun p _ => hxheld p) hxlock]
    exact tells_pool_congr hxpool hxtrunk _ _

theorem startPass_within (d : Device) (l : Fin 16) : Within l d (d.startPass l) := by
  have hfree (x : Device) (f : Scanner → Scanner) (hf : (f x.scanner).lanes = x.scanner.lanes) :
      Within l x (x.updScanner f) :=
    { Within.rfl' l x with scan := fun m _ => congrArg (fun v : Table LaneScan 16 => v[m]) hf }
  have htake : Within l d (d.takePass l) := (updScan_within d l _).seq (hfree _ _ rfl)
  rw [startPass_eq]
  refine (htake.seq ?_).seq (hfree _ _ rfl)
  unfold Device.refit
  exact .ite ((adopt_within _ l).seq (applyAdopted_within _ l)) (.rfl' l _)

theorem passStart_of_none {d : Device} (h : d.scanner.nextLane = none) : passStart d = d := by
  unfold passStart
  rw [h]

theorem passStart_of_some {d : Device} {l : Fin 16} (h : d.scanner.nextLane = some l) : passStart d = d.startPass l := by
  unfold passStart
  rw [h]

theorem refit_eq (r : LaneRec) (m : LaneScan) : LaneScan.refit r { m with waiting := false, discard := false } =
    { m with
      waiting := false, discard := false
      integ := (LaneScan.refit r { m with waiting := false, discard := false }).integ
      keys := (LaneScan.refit r { m with waiting := false, discard := false }).keys } := by
  unfold LaneScan.refit
  cases r.pendingSet with
  | none => rfl
  | some g => rfl

theorem adopted_pending (r : LaneRec) : r.adopted.pendingSet = none := by
  unfold LaneRec.adopted LaneRec.adoptWake LaneRec.stopWake LaneRec.startWake
  cases hp : r.pendingSet with
  | none => exact hp
  | some g =>
    dsimp only
    split
    · rfl
    · split <;> rfl

/-- The started pass in the scanner, with the lane's keys and integrators as the adoption leaves them. -/
theorem startPass_scan (d : Device) (l : Fin 16) :
    (d.startPass l).scanner.lanes[l] =
      LaneScan.refit d.lanes[l] { d.scanner.lanes[l] with waiting := false, discard := false } := by
  rw [startPass_scanner]
  exact upd_getElem_self d.scanner.lanes l _

theorem startPass_scanner_eq (d : Device) (l : Fin 16) :
    let g := d.lanes[l].pendingSet.getD d.lanes[l].active
    (d.startPass l).scanner = { d.scanner with
      laneInPass := some l, lastServed := l, passLeft := g.columns * d.scanner.dwell, passColumns := g.columns
      passDwell := d.scanner.dwell
      lanes := d.scanner.lanes.set l
        { d.scanner.lanes[l] with
          waiting := false, discard := false, integ := (d.startPass l).scanner.lanes[l].integ
          keys := (d.startPass l).scanner.lanes[l].keys } } := by
  rw [startPass_scan, startPass_scanner]
  dsimp only
  rw [← refit_eq]
  rfl

/-- The adoption at a pass start (R30, R31). -/
theorem startPass_adopts (d : Device) (l : Fin 16) (hpending : d.lanes[l].pendingSet.isSome) :
    let g := d.lanes[l].pendingSet.getD d.lanes[l].active
    let above := (pressedKeys d l).reverse.take ((pressedKeys d l).length - g.rollover)
    (∀ p : Fin 128, (d.startPass l).scanner.lanes[l].integ[p] = min g.debounce d.scanner.lanes[l].integ[p] ∧
      (d.startPass l).scanner.lanes[l].keys[p] = if p ∈ above then .latched else d.scanner.lanes[l].keys[p]) ∧
    (d.startPass l).scanner.lanes[l].countKeys .pressed = min (d.scanner.lanes[l].countKeys .pressed) g.rollover ∧
    letGo d l above (d.startPass l).trans[l] ∧
    (room d (laneQueue l) (releasesOf d l above).length →
      (d.startPass l).pool = queuedAll d (laneQueue l) (releasesOf d l above)) := by
  obtain ⟨g, hg⟩ := Option.isSome_iff_exists.mp hpending
  dsimp only
  rw [hg, Option.getD_some, ← overLimit_eq]
  have hscan : (d.startPass l).scanner.lanes[l] =
      LaneScan.fit g { d.scanner.lanes[l] with waiting := false, discard := false } := by
    rw [startPass_scan, LaneScan.refit, hg]
  have hover : LaneScan.overLimit { d.scanner.lanes[l] with waiting := false, discard := false } g.rollover =
      d.scanner.lanes[l].overLimit g.rollover := overLimit_congr (by rfl) _
  have hkeys (p : Fin 128) : (d.startPass l).scanner.lanes[l].keys[p] =
      if p ∈ d.scanner.lanes[l].overLimit g.rollover then .latched else d.scanner.lanes[l].keys[p] := by
    rw [hscan, LanesKept.fit_keys, hover]
  refine ⟨fun p => ⟨?_, hkeys p⟩, ?_, ?_, fun hroom => ?_⟩
  · rw [hscan, LanesKept.fit_integ]
  · rw [countKeys_pressed]
    exact LanesKept.pressed_within _ _ hkeys
  · intro p
    rw [startPass_trans, hg]
    dsimp only
    rw [upd_getElem_self, releaseAll_held, retimed_held]
  · rw [startPass_pool, hg]
    exact tells_pool_of_room _ hroom

theorem startPass_still (d : Device) (l : Fin 16) (hpending : d.lanes[l].pendingSet = none) :
    (d.startPass l).lanes = d.lanes ∧ (d.startPass l).trans = d.trans ∧ (d.startPass l).pool = d.pool ∧
    (d.startPass l).scanner.lanes[l].keys = d.scanner.lanes[l].keys ∧
    (d.startPass l).scanner.lanes[l].integ = d.scanner.lanes[l].integ := by
  have hscan : (d.startPass l).scanner.lanes[l] = { d.scanner.lanes[l] with waiting := false, discard := false } := by
    rw [startPass_scan, LaneScan.refit, hpending]
  refine ⟨?_, ?_, ?_, ?_, ?_⟩
  · rw [startPass_lanes]
    refine upd_id d.lanes l ?_
    simp only [LaneRec.adopted, hpending]
  · rw [startPass_trans, hpending]
  · rw [startPass_pool, hpending]
  · rw [hscan]
  · rw [hscan]

theorem nextLane_none {m : Scanner} (h : ∀ l : Fin 16, m.lanes[l].waiting = false) : m.nextLane = none := by
  cases hn : m.nextLane with
  | none => rfl
  | some l => cases (LanesKept.nextLane_some hn).2.symm.trans (h l)

theorem nextLane_busy {m : Scanner} (h : m.laneInPass.isSome) : m.nextLane = none := by
  cases hn : m.nextLane with
  | none => rfl
  | some l =>
    rw [(LanesKept.nextLane_some hn).1] at h
    cases h

theorem exec_passStart_running {s : State} (hr : s.dev.inReset = false) :
    exec .passStart s = .next { s with dev := passStart s.dev } := (exec_passStart s).trans (s.run_of_running _ hr)

/-- Settles O13: a due point by the waiting flag and the miss policy, a pass start by the arbiter's choice. -/
theorem dueAndPassStart : Obligations.DueAndPassStart := by
  refine ⟨fun s l hr ht => ?_, fun s hr => ⟨fun hno => ?_, fun hbusy => ?_, fun l hidle hw hmin => ?_⟩⟩
  · intro d m r g q
    refine ⟨fun hw => ?_, fun hw hp => ?_, fun hw hp _ => ?_⟩
    · rw [exec_duePoint_fin s l hr, duePoint_fresh ht hw]
      rfl
    · rw [exec_duePoint_fin s l hr, duePoint_missed ht hw, show s.dev.lanes[l].active.missPolicy = .hold from hp]
      rfl
    · intro left
      have hrun := missFault hr ht hw hp
      have hpool := depart_pool (missed d l) l .faulted .missFault
      have hother (k : Fin 17) (hk : k ≠ q) := depart_other (missed d l) l .faulted .missFault hk
      have hports := depart_ports_left (missed d l) l .faulted .missFault
      have hletGo := depart_letGo (missed d l) l .faulted .missFault
      have heq := depart_eq (missed d l) l .faulted .missFault
      have hrec : upd (missed d l).lanes l (LaneRec.departed .faulted) = d.lanes.set l (LaneRec.departed .faulted r) := rfl
      have hscanner := depart_scanner (missed d l) l .faulted .missFault
      dsimp only at heq
      rw [hrec, departed_faulted, missed_withdrawn] at heq
      rw [missed_withdrawn] at hscanner
      rw [missed_departing] at hpool
      rw [missed_pressed] at hletGo
      change exec (.duePoint l) s = .next { s with dev := (missed d l).depart l .faulted .missFault } at hrun
      generalize (missed d l).depart l .faulted .missFault = x at hrun hpool hother hports hletGo heq hscanner
      have hlane : x.scanner.lanes[l] =
          { (withdrawn d l).lanes[l] with missCount := min 65535 (m.missCount + 1) } := by
        rw [hscanner]
        exact upd_getElem_self d.scanner.lanes l fun _ => _
      rw [← hlane] at heq
      exact ⟨_, hrun, rfl, fun hroom => hpool.trans ((tells_pool_congr (d := missed d l) (e := d) rfl rfl _ _).trans
        (tells_pool_of_room _ hroom)), hother, hports, hletGo, hlane, heq⟩
  · rw [exec_passStart_running hr, passStart_of_none (nextLane_none hno)]
  · rw [exec_passStart_running hr, passStart_of_none (nextLane_busy hbusy)]
  · intro d g above
    have hnext : s.dev.scanner.nextLane = some l := (nextLane_iff hidle l).mpr ⟨hw, hmin⟩
    have hrun := exec_passStart_running hr
    rw [passStart_of_some hnext] at hrun
    have hscanner := startPass_scanner_eq d l
    have hadopts := startPass_adopts d l
    have hstill := startPass_still d l
    have hwithin := startPass_within d l
    have ht := startPass_touches d l
    have hlanes := startPass_lanes d l
    change exec .passStart s = .next { s with dev := d.startPass l } at hrun
    generalize d.startPass l = x at hrun hscanner hadopts hstill hwithin ht hlanes
    refine ⟨_, hrun, rfl, hscanner, ?_, ?_, hadopts, hstill, fun m hm => ⟨hwithin.lanes m hm, hwithin.trans m hm,
      hwithin.queues _ (laneQueue_ne hm)⟩, ?_⟩
    · dsimp only
      rw [hlanes, upd_getElem_self, adopted_active]
    · dsimp only
      rw [hlanes, upd_getElem_self, adopted_pending]
    · exact eq_of_blocks rfl rfl rfl (ht .keymaps (by decide)) (ht .ports (by decide)) (ht .rules (by decide)) rfl
        (same_delivery (d := d) ht (by decide) (by decide)) (ht .drawers (by decide)) (ht .tlu (by decide))
        (ht .trunk (by decide)) (ht .timeBase (by decide))

end Sys2Proof.Passes

/-! ## The end of a pass (R32 to R41) -/

namespace Sys2Proof.PassEnds

open Sys2Proof.Machine Sys2Proof.Claims Sys2Proof.Events Sys2Proof.OpenCounter Sys2Proof.Departures
open Sys2Proof.LaneTiming Sys2Proof.LanesKept

/-! ### The sample and the ghost check -/

theorem closedAt_iff (g : Settings) (raw : BitVec 128) (r c : Nat) :
    closedAt g raw r c ↔ inSample g raw r c = true := by
  simp [closedAt, inSample, hasBit, and_assoc]

theorem ghostAt_iff (g : Settings) (raw : BitVec 128) (r c : Nat) : ghostAt g raw r c ↔ ambiguous g raw r c = true := by
  unfold ghostAt ambiguous
  simp only [closedAt_iff, Bool.and_eq_true, List.any_eq_true, List.mem_range, bne_iff_ne]
  rw [and_assoc]
  refine and_congr_right fun _ => and_congr_right fun _ => ?_
  constructor
  · rintro ⟨r', c', hr, hc, hrow, hcol, hright, hbelow, hcross⟩
    exact ⟨r', hr, ⟨hrow, hbelow⟩, c', hc, ⟨hcol, hright⟩, hcross⟩
  · rintro ⟨r', hr, ⟨hrow, hbelow⟩, c', hc, ⟨hcol, hright⟩, hcross⟩
    exact ⟨r', c', hr, hc, hrow, hcol, hright, hbelow, hcross⟩

theorem integrate_cases (g : Settings) (raw : BitVec 128) (r : Fin 8) (c : Fin 16) {p : Fin 128}
    (hp : p.val = r.val * 16 + c.val) (i : Nat) :
    (ghostAt g raw r c → integrate g raw p.val i = i) ∧
    (closedAt g raw r c → ¬ ghostAt g raw r c → integrate g raw p.val i = min g.debounce (i + 1)) ∧
    (¬ closedAt g raw r c → integrate g raw p.val i = i - 1) := by
  have hrow : p.val / 16 = r.val := by omega
  have hcol : p.val % 16 = c.val := by omega
  unfold integrate
  rw [hrow, hcol, closedAt_iff, ghostAt_iff]
  refine ⟨fun hghost => if_pos hghost, fun hclosed hghost => ?_, fun hopen => ?_⟩
  · rw [if_neg hghost, if_pos hclosed]
  · have hghost : ¬ ambiguous g raw r c = true := fun h =>
      hopen ((closedAt_iff g raw r c).mp ((ghostAt_iff g raw r c).mpr h).2.1)
    rw [if_neg hghost, if_neg hopen]

/-! ### Integrators and the frame of a pass end -/

theorem ended_discarded {m : LaneScan} (h : m.discard = true) (g : Settings) (raw : BitVec 128) (dead : Fin 128 → Bool) :
    m.ended g raw dead = { m with discard := false } := if_pos h

theorem ended_counts {m : LaneScan} (h : m.discard = false) (g : Settings) (raw : BitVec 128) (dead : Fin 128 → Bool) :
    m.ended g raw dead = m.passed g raw dead := if_neg (Bool.eq_false_iff.mp h)

theorem ended_rest (m : LaneScan) (g : Settings) (raw : BitVec 128) (dead : Fin 128 → Bool) :
    (m.ended g raw dead).discard = false ∧ (m.ended g raw dead).waiting = m.waiting ∧
    (m.ended g raw dead).dueTimer = m.dueTimer ∧ (m.ended g raw dead).missCount = m.missCount := by
  cases hd : m.discard with
  | true =>
    rw [ended_discarded hd]
    exact ⟨rfl, rfl, rfl, rfl⟩
  | false =>
    obtain ⟨hwaiting, hdue, hdiscard, hmisses⟩ := passed_rest m g raw dead
    rw [ended_counts hd]
    exact ⟨hdiscard.trans hd, hwaiting, hdue, hmisses⟩

theorem exec_passEnd_running {s : State} (hr : s.dev.inReset = false) (raw wake : BitVec 128) (a b : Bool) :
    exec (.passEnd raw a b wake) s = .next { s with dev := passEnd raw (KeyLock.ofLines a b) wake s.dev } :=
  (exec_passEnd s raw a b wake).trans (s.run_of_running _ hr)

theorem passEnd_scan {d : Device} {l : Fin 16} (hl : d.scanner.laneInPass = some l) (raw : BitVec 128) (lock : KeyLock)
    (wake : BitVec 128) : (passEnd raw lock wake d).scanner.lanes[l] =
      d.scanner.lanes[l].ended d.lanes[l].active raw (d.dead l) := by
  rw [passEnd_scanner d hl]
  unfold Scanner.freed
  dsimp only
  rw [upd_getElem_self]

theorem passSettled_discarded {d : Device} {l : Fin 16} (hd : d.scanner.lanes[l].discard = true) (raw : BitVec 128)
    (lock : KeyLock) : passSettled raw lock l d = (d.updScan l fun m => { m with discard := false }).updScanner fun m =>
      { m with laneInPass := none, passLeft := 0, passColumns := 0, passDwell := 0 } := by
  unfold passSettled
  rw [if_pos hd]

theorem passSettled_counts {d : Device} {l : Fin 16} (hd : d.scanner.lanes[l].discard = false) (raw : BitVec 128)
    (lock : KeyLock) : passSettled raw lock l d = (d.completePass l raw lock).updScanner fun m =>
      { m with laneInPass := none, passLeft := 0, passColumns := 0, passDwell := 0 } := by
  unfold passSettled
  rw [if_neg (Bool.eq_false_iff.mp hd)]

/-- Settles O14: the sample and the ghost check decide each integrator; the rest is the footprint of a pass end. -/
theorem passEndIntegrators : Obligations.PassEndIntegrators := by
  intro s l raw wake a b hr hl g
  have hrun := exec_passEnd_running hr raw wake a b
  have hscanner := passEnd_scanner s.dev hl raw (KeyLock.ofLines a b) wake
  have hscan := passEnd_scan hl raw (KeyLock.ofLines a b) wake
  have ht := passEnd_touches raw (KeyLock.ofLines a b) wake s.dev
  have heq := passEnd_eq hl raw (KeyLock.ofLines a b) wake
  have hreadings := takeDueReadings_touches (passSettled raw (KeyLock.ofLines a b) l s.dev) wake
  have hwithin := passSettled_within raw (KeyLock.ofLines a b) l s.dev
  obtain ⟨hdiscard, hwaiting, hdue, hmisses⟩ :=
    ended_rest s.dev.scanner.lanes[l] s.dev.lanes[l].active raw (s.dev.dead l)
  rw [← heq] at hreadings
  generalize passEnd raw (KeyLock.ofLines a b) wake s.dev = x at hrun hscanner hscan ht hreadings
  refine ⟨_, hrun, rfl, ?_⟩
  dsimp only
  rw [hscan]
  refine ⟨by rw [hscanner]; rfl, hdiscard, hwaiting, hdue, hmisses, by rw [hscanner]; rfl, by rw [hscanner]; rfl,
    fun hd => ?_, fun hd r c p hp => ?_, fun m hm => ⟨?_, ?_⟩, ?_⟩
  · rw [passSettled_discarded hd] at hreadings
    rw [ended_discarded hd]
    exact ⟨rfl, rfl, hreadings .trans (by decide), hreadings .keymaps (by decide), hreadings .drawers (by decide)⟩
  · rw [ended_counts hd, passed_integ, sampled_integ]
    exact integrate_cases _ raw r c hp _
  · have hsame : x.scanner = (passSettled raw (KeyLock.ofLines a b) l s.dev).scanner := hreadings .scanner (by decide)
    rw [hsame]
    exact hwithin.scan m hm
  · have hsame : x.trans = (passSettled raw (KeyLock.ofLines a b) l s.dev).trans := hreadings .trans (by decide)
    rw [hsame]
    exact hwithin.trans m hm
  · exact eq_of_blocks rfl rfl rfl rfl (ht .ports (by decide)) (ht .rules (by decide))
      (pool_eq_of_touches (d := s.dev) ht (by decide)) (same_delivery (d := s.dev) ht (by decide) (by decide)) rfl
      (ht .tlu (by decide)) (ht .trunk (by decide)) (ht .timeBase (by decide))

/-! ### The key states after a pass -/

theorem sampled_blocked (m : LaneScan) (g : Settings) (raw : BitVec 128) (p : Fin 128) :
    (m.sampled g raw).keys[p] = .blocked ↔ m.keys[p] = .blocked ∧ g.debounce ≤ (m.sampled g raw).integ[p] := by
  rw [sampled_keys]
  generalize (m.sampled g raw).integ[p] = i
  generalize m.keys[p] = k
  cases k with
  | pressed | latched => by_cases hi : i = 0 <;> simp [releaseStep, hi]
  | blocked =>
    by_cases hi : i < g.debounce
    · simp [releaseStep, hi]
    · simp [releaseStep, hi, Nat.not_lt.mp hi]
  | released => simp [releaseStep]

/-- With its integrator at D, a key that the release step leaves RELEASED was RELEASED. -/
theorem sampled_released {m : LaneScan} {g : Settings} (hD : 1 ≤ g.debounce) {raw : BitVec 128} {p : Fin 128}
    (hi : (m.sampled g raw).integ[p] = g.debounce) (hk : (m.sampled g raw).keys[p] = .released) :
    m.keys[p] = .released := by
  rw [sampled_keys, hi] at hk
  have hD0 : g.debounce ≠ 0 := by omega
  generalize m.keys[p] = k at hk
  cases k <;> simp_all [releaseStep]

theorem mem_fst {cs : List (Fin 128 × Bool)} {p : Fin 128} (h : p ∈ cs.map Prod.fst) : ∃ late, (p, late) ∈ cs := by
  obtain ⟨c, hc, rfl⟩ := List.mem_map.mp h
  exact ⟨c.2, hc⟩

theorem fst_mem {cs : List (Fin 128 × Bool)} {p : Fin 128} {late : Bool} (h : (p, late) ∈ cs) : p ∈ cs.map Prod.fst :=
  List.mem_map.mpr ⟨(p, late), h, rfl⟩

/-- The press step leaves a key that is no candidate. -/
theorem pressStep_kept {v : LaneScan} {g : Settings} {dead : Fin 128 → Bool} {p : Fin 128}
    (h : ∀ late, (p, late) ∉ v.candidates g.debounce dead) : (v.pressStep g dead).keys[p] = v.keys[p] := by
  have hdone := pressStep_done v g dead
  refine hdone.others p fun hp => ?_
  obtain ⟨late, hc⟩ := mem_fst hp
  exact h late hc

theorem pressStep_candidate {v : LaneScan} {g : Settings} {dead : Fin 128 → Bool} {p : Fin 128} {late : Bool}
    (h : (p, late) ∈ v.candidates g.debounce dead) :
    (v.pressStep g dead).keys[p] = .pressed ∨ (v.pressStep g dead).keys[p] = .blocked := by
  have hdone := pressStep_done v g dead
  exact hdone.settled p (fst_mem h)

/-- A BLOCKED key with its integrator at D means that the rollover limit is reached (R39). -/
theorem pressStep_full {v : LaneScan} {g : Settings} {dead : Fin 128 → Bool} {p : Fin 128}
    (hk : (v.pressStep g dead).keys[p] = .blocked) (hi : v.integ[p] = g.debounce) :
    g.rollover ≤ pressedIn (v.pressStep g dead).keys := by
  have hdone := pressStep_done v g dead
  have hcand : ∃ late, (p, late) ∈ v.candidates g.debounce dead := by
    by_contra hno
    have hbefore : v.keys[p] = .blocked := (pressStep_kept fun late hc => hno ⟨late, hc⟩).symm.trans hk
    exact hno ⟨true, (mem_candidates _ _ _ p true).mpr ⟨hi, .inl ⟨hbefore, rfl⟩⟩⟩
  obtain ⟨late, hc⟩ := hcand
  rw [← hdone.counted rfl]
  exact hdone.full p (fst_mem hc) hk

theorem pressStep_presses (v : LaneScan) (g : Settings) (dead : Fin 128 → Bool) : (v.pressStep g dead).presses =
    (v.candidates g.debounce dead).filter fun c => (v.pressStep g dead).keys[c.1] == .pressed := by
  have hdone := pressStep_done v g dead
  exact hdone.presses

/-- A key that is no candidate is left as the release step left it. -/
theorem passed_kept {m : LaneScan} {g : Settings} {raw : BitVec 128} {dead : Fin 128 → Bool} {p : Fin 128}
    (h : ∀ late, (p, late) ∉ (m.sampled g raw).candidates g.debounce dead) :
    (m.passed g raw dead).keys[p] = (m.sampled g raw).keys[p] := by
  rw [passed_keys]
  exact pressStep_kept h

theorem passed_candidate {m : LaneScan} {g : Settings} {raw : BitVec 128} {dead : Fin 128 → Bool} {p : Fin 128}
    {late : Bool} : (p, late) ∈ (m.sampled g raw).candidates g.debounce dead →
    (m.passed g raw dead).keys[p] = .pressed ∨ (m.passed g raw dead).keys[p] = .blocked := by
  rw [passed_keys]
  exact pressStep_candidate

/-- A key whose integrator is not at D is no candidate, nor is one that is PRESSED or LATCHED. -/
theorem not_candidate_of_integ {v : LaneScan} {D : Nat} {dead : Fin 128 → Bool} {p : Fin 128} (h : v.integ[p] ≠ D)
    (late : Bool) : (p, late) ∉ v.candidates D dead := fun hc => h ((mem_candidates v D dead p late).mp hc).1

theorem not_candidate_of_key {v : LaneScan} {D : Nat} {dead : Fin 128 → Bool} {p : Fin 128}
    (h : v.keys[p] = .pressed ∨ v.keys[p] = .latched) (late : Bool) : (p, late) ∉ v.candidates D dead := fun hc => by
  rcases ((mem_candidates v D dead p late).mp hc).2 with ⟨hk, -⟩ | ⟨hk, -⟩
  · rcases h with h | h <;> cases hk.symm.trans h
  · rcases h with h | h <;> cases hk.symm.trans h

theorem not_candidate_of_dead {v : LaneScan} {D : Nat} {dead : Fin 128 → Bool} {p : Fin 128}
    (h : v.keys[p] = .released) (hdead : dead p = true) (late : Bool) : (p, late) ∉ v.candidates D dead := fun hc => by
  rcases ((mem_candidates v D dead p late).mp hc).2 with ⟨hk, -⟩ | ⟨-, hlive, -⟩
  · cases hk.symm.trans h
  · cases hlive.symm.trans hdead

/-- A PRESSED or LATCHED key is released at 0 and kept above it. -/
theorem passed_held {m : LaneScan} {g : Settings} (hD : 1 ≤ g.debounce) (raw : BitVec 128) (dead : Fin 128 → Bool)
    {p : Fin 128} {k : KeyState} (hk : k = .pressed ∨ k = .latched) (hold : m.keys[p] = k) :
    (m.passed g raw dead).keys[p] = if (m.passed g raw dead).integ[p] = 0 then .released else k := by
  have hstep : (m.sampled g raw).keys[p] = if (m.sampled g raw).integ[p] = 0 then .released else k := by
    rw [sampled_keys, hold]
    rcases hk with rfl | rfl <;> rfl
  rw [passed_integ, ← hstep]
  refine passed_kept fun late => ?_
  by_cases hi : (m.sampled g raw).integ[p] = 0
  · exact not_candidate_of_integ (by rw [hi]; exact fun h => absurd (h ▸ hD) (by decide)) late
  · rw [if_neg hi] at hstep
    exact not_candidate_of_key (by rw [hstep]; exact hk) late

/-- The key states after a pass, one statement for each state before it (R38 to R40). -/
theorem passed_states {m : LaneScan} {g : Settings} (hD : 1 ≤ g.debounce) (raw : BitVec 128) (dead : Fin 128 → Bool)
    (p : Fin 128) :
    let new := m.passed g raw dead
    (m.keys[p] = .pressed → new.keys[p] = if new.integ[p] = 0 then .released else .pressed) ∧
    (m.keys[p] = .latched → new.keys[p] = if new.integ[p] = 0 then .released else .latched) ∧
    (m.keys[p] = .blocked → new.integ[p] < g.debounce → new.keys[p] = .released) ∧
    (m.keys[p] = .blocked → new.integ[p] = g.debounce → new.keys[p] = .pressed ∨ new.keys[p] = .blocked) ∧
    (m.keys[p] = .released → (new.integ[p] ≠ g.debounce ∨ dead p = true) → new.keys[p] = .released) ∧
    (m.keys[p] = .released → new.integ[p] = g.debounce → dead p = false →
      new.keys[p] = .pressed ∨ new.keys[p] = .blocked) := by
  have hstep := sampled_keys m g raw p
  dsimp only
  rw [passed_integ]
  refine ⟨fun hold => ?_, fun hold => ?_, fun hold hi => ?_, fun hold hi => ?_, fun hold hno => ?_, fun hold hi hlive => ?_⟩
  · rw [← passed_integ m g raw dead]
    exact passed_held hD raw dead (.inl rfl) hold
  · rw [← passed_integ m g raw dead]
    exact passed_held hD raw dead (.inr rfl) hold
  · rw [passed_kept (not_candidate_of_integ hi.ne), hstep, hold]
    exact if_pos hi
  · exact passed_candidate (late := true) ((mem_candidates _ _ _ p true).mpr
      ⟨hi, .inl ⟨(sampled_blocked m g raw p).mpr ⟨hold, hi.ge⟩, rfl⟩⟩)
  · have hreleased : (m.sampled g raw).keys[p] = .released := by
      rw [hstep, hold]
      rfl
    rcases hno with hi | hdead
    · rw [passed_kept (not_candidate_of_integ hi), hreleased]
    · rw [passed_kept (not_candidate_of_dead hreleased hdead), hreleased]
  · have hreleased : (m.sampled g raw).keys[p] = .released := by
      rw [hstep, hold]
      rfl
    exact passed_candidate (late := false) ((mem_candidates _ _ _ p false).mpr ⟨hi, .inr ⟨hreleased, hlive, rfl⟩⟩)

theorem passed_full {m : LaneScan} {g : Settings} (hN : m.countKeys .pressed ≤ g.rollover) (raw : BitVec 128)
    (dead : Fin 128 → Bool) {p : Fin 128} (hk : (m.passed g raw dead).keys[p] = .blocked)
    (hi : (m.passed g raw dead).integ[p] = g.debounce) : (m.passed g raw dead).countKeys .pressed = g.rollover := by
  refine le_antisymm (passed_limit hN raw dead) ?_
  rw [passed_keys] at hk
  rw [passed_integ] at hi
  rw [countKeys_pressed, passed_keys]
  exact pressStep_full hk hi

/-! ### The presses and releases of a pass -/

theorem pressesMade_eq (m : LaneScan) (g : Settings) (raw : BitVec 128) (dead : Fin 128 → Bool) :
    m.pressesMade g raw dead =
      ((m.sampled g raw).candidates g.debounce dead).filter fun c => (m.passed g raw dead).keys[c.1] == .pressed := by
  rw [passed_keys, LaneScan.pressesMade]
  exact pressStep_presses _ g dead

theorem mem_pressesMade {m : LaneScan} {g : Settings} (hD : 1 ≤ g.debounce) (raw : BitVec 128) (dead : Fin 128 → Bool)
    (p : Fin 128) (late : Bool) : (p, late) ∈ m.pressesMade g raw dead ↔
      m.keys[p] ≠ .pressed ∧ (m.passed g raw dead).keys[p] = .pressed ∧ late = (m.keys[p] == .blocked) := by
  have hmade (late : Bool) : (p, late) ∈ m.pressesMade g raw dead →
      m.keys[p] ≠ .pressed ∧ (m.passed g raw dead).keys[p] = .pressed ∧ late = (m.keys[p] == .blocked) := by
    intro h
    rw [pressesMade_eq, List.mem_filter, mem_candidates, beq_iff_eq] at h
    obtain ⟨⟨hi, hkey⟩, hpressed⟩ := h
    rcases hkey with ⟨hkey, rfl⟩ | ⟨hkey, -, rfl⟩
    · have hold := ((sampled_blocked m g raw p).mp hkey).1
      rw [hold]
      exact ⟨by decide, hpressed, by decide⟩
    · have hold := sampled_released hD hi hkey
      rw [hold]
      exact ⟨by decide, hpressed, by decide⟩
  refine ⟨hmade late, fun ⟨hold, hnew, hlate⟩ => ?_⟩
  rcases (passed_pressed m g raw dead p).mp hnew with hmem | ⟨hkey, -⟩
  · obtain ⟨c, hc, rfl⟩ := List.mem_map.mp hmem
    rw [hlate, ← (hmade c.2 hc).2.2]
    exact hc
  · exact absurd hkey hold

theorem pressesMade_ordered (m : LaneScan) (g : Settings) (raw : BitVec 128) (dead : Fin 128 → Bool) :
    (m.pressesMade g raw dead).Pairwise fun x y => (x.2 = true ∧ y.2 = false) ∨ (x.2 = y.2 ∧ x.1 < y.1) := by
  have hgroup (f : Fin 128 → Bool) (late : Bool) : (((List.finRange 128).filter f).map fun p => (p, late)).Pairwise
      fun x y => (x.2 = true ∧ y.2 = false) ∨ (x.2 = y.2 ∧ x.1 < y.1) := by
    rw [List.pairwise_map]
    exact ((List.pairwise_lt_finRange 128).filter f).imp fun h => .inr ⟨rfl, h⟩
  rw [pressesMade_eq]
  refine List.Pairwise.filter _ (List.pairwise_append.mpr ⟨hgroup _ true, hgroup _ false, fun x hx y hy => .inl ?_⟩)
  obtain ⟨-, -, rfl⟩ := List.mem_map.mp hx
  obtain ⟨-, -, rfl⟩ := List.mem_map.mp hy
  exact ⟨rfl, rfl⟩

theorem released_eq {m : LaneScan} {g : Settings} (hD : 1 ≤ g.debounce) (raw : BitVec 128) (dead : Fin 128 → Bool) :
    m.released g raw = (m.positions .pressed).filter fun p => (m.passed g raw dead).keys[p] == .released := by
  unfold LaneScan.released
  refine List.filter_congr fun p hp => ?_
  have hold : m.keys[p] = .pressed := beq_iff_eq.mp (List.mem_filter.mp hp).2
  rw [(passed_states hD raw dead p).1 hold, passed_integ, sampled_keys, hold]
  rfl

theorem passed_eq (m : LaneScan) (g : Settings) (raw : BitVec 128) (dead : Fin 128 → Bool) : m.passed g raw dead =
    { m with keys := (m.passed g raw dead).keys, integ := (m.passed g raw dead).integ } := by
  unfold LaneScan.passed LaneScan.sampled
  dsimp only

/-! ### The repeat and the keymap notice -/

theorem advanceRepeat_eq {d : Device} {l : Fin 16} (presses : List (Fin 128 × Bool)) (h : room d (laneQueue l) 1) :
    d.advanceRepeat l presses = repeatCounted d l presses := by
  unfold Device.advanceRepeat repeatCounted
  dsimp only
  cases howner : d.trans[l].owner with
  | none => rfl
  | some p =>
    have hany : (presses.any fun c => c.1 == p) = true ↔ p ∈ presses.map Prod.fst := by
      simp [List.any_eq_true, List.mem_map]
    dsimp only
    by_cases hp : p ∈ presses.map Prod.fst
    · rw [if_pos hp, if_pos (hany.mpr hp)]
    · rw [if_neg hp, if_neg (mt hany.mp hp)]
      by_cases hc : 1 < d.trans[l].countdown
      · rw [if_pos hc, if_pos hc, ← howner]
        rfl
      · rw [if_neg hc, if_neg hc, ← howner]
        cases d.trans[l].held[p] with
        | none => rfl
        | some k =>
          dsimp only
          by_cases hs : d.lanes[l].state = .suspended ∧ k.wake = false
          · have hs' : d.lanes[l].state = .suspended ∧ ¬ k.wake = true := ⟨hs.1, Bool.eq_false_iff.mp hs.2⟩
            rw [if_pos hs, if_pos hs']
            rfl
          · have hs' : ¬ (d.lanes[l].state = .suspended ∧ ¬ k.wake = true) :=
              fun hx => hs ⟨hx.1, Bool.eq_false_iff.mpr hx.2⟩
            rw [if_neg hs, if_neg hs']
            exact offer_notice (d := d.updTrans l _) (keyTold .keyRepeat p k d.lanes[l].keyLock) h

theorem repeatCounted_room {d : Device} {l : Fin 16} (presses : List (Fin 128 × Bool)) (h : room d (laneQueue l) 2) :
    room (repeatCounted d l presses) (laneQueue l) 1 := by
  have hone (t : Told) : (queuedAll d (laneQueue l) [t]).lanes[laneQueue l].queue.length + 1 ≤ 8 := by
    rw [queuedAll_length, List.length_singleton]
    exact h
  have hnone : d.pool.lanes[laneQueue l].queue.length + 1 ≤ 8 := by omega
  unfold room repeatCounted
  dsimp only
  split
  · exact hnone
  · split
    · exact hnone
    · split
      · exact hnone
      · dsimp only
        split
        · exact hnone
        · split
          · exact hnone
          · exact hone _

theorem no_keys_iff (m : LaneScan) : m.countKeys .pressed + m.countKeys .blocked = 0 ↔
    ∀ p : Fin 128, m.keys[p] ≠ .pressed ∧ m.keys[p] ≠ .blocked := by
  have hnone (k : KeyState) : m.countKeys k = 0 ↔ ∀ p : Fin 128, m.keys[p] ≠ k := by
    simp [LaneScan.countKeys, LaneScan.positions, List.filter_eq_nil_iff]
  rw [Nat.add_eq_zero_iff, hnone, hnone, ← forall_and]

theorem quietSwitch_eq {d : Device} {l : Fin 16} (h : room d (laneQueue l) 1) :
    d.quietSwitch l = quietlySwitched d l := by
  unfold Device.quietSwitch quietlySwitched
  dsimp only
  cases hp : d.keymaps.lanes[l].pendingImg with
  | none =>
    have hmaps : switched d l = d.keymaps := by rw [switched, hp]
    have htold : switchTold d l = [] := by rw [switchTold, hp]
    rw [hmaps, htold]
    exact (ite_self d).symm
  | some i =>
    have hmaps : switched d l = { d.keymaps with
        lanes := d.keymaps.lanes.set l { active := some i, pendingImg := none, switchTimer := none } } := by
      rw [switched, hp]
    have htold : switchTold d l = [(.keymapSwitched, none, i.val, 0)] := by rw [switchTold, hp]
    dsimp only
    rw [hmaps, htold]
    by_cases hq : ∀ p : Fin 128, d.scanner.lanes[l].keys[p] ≠ .pressed ∧ d.scanner.lanes[l].keys[p] ≠ .blocked
    · rw [if_pos ((no_keys_iff _).mpr hq), if_pos hq]
      exact offer_notice (d := d.updMap l _) (.keymapSwitched, none, i.val, 0) h
    · rw [if_neg (mt (no_keys_iff _).mp hq), if_neg hq]

/-! ### A wake reading that falls due -/

/-- No wake reading has become due or been taken from `d` to `e`. -/
structure SameDue (d e : Device) : Prop where
  due : ∀ m : Fin 16, e.lanes[m].wakeDue = d.lanes[m].wakeDue

namespace SameDue

variable {d e f : Device}

theorem rfl' (d : Device) : SameDue d d := ⟨fun _ => rfl⟩

theorem seq (h1 : SameDue d e) (h2 : SameDue e f) : SameDue d f := ⟨fun m => (h2.due m).trans (h1.due m)⟩

theorem ite {c : Prop} [Decidable c] (he : SameDue d e) (hf : SameDue d f) : SameDue d (if c then e else f) := by
  split
  · exact he
  · exact hf

theorem foldl {α : Type} {g : Device → α → Device} (hg : ∀ d a, SameDue d (g d a)) (as : List α) (d : Device) :
    SameDue d (as.foldl g d) := by
  induction as generalizing d with
  | nil => exact .rfl' d
  | cons a as ih => exact (hg d a).seq (ih _)

theorem of_lanes (h : e.lanes = d.lanes) : SameDue d e := ⟨fun m => by rw [h]⟩

theorem of_touches {bs : List Block} (h : Touches bs d e) (hl : Block.lanes ∉ bs) : SameDue d e :=
  .of_lanes (h .lanes hl)

theorem updLane (d : Device) (l : Fin 16) {f : LaneRec → LaneRec} (hf : ∀ r, (f r).wakeDue = r.wakeDue) :
    SameDue d (d.updLane l f) := by
  refine ⟨fun m => ?_⟩
  rw [Device.updLane_lanes, upd_getElem]
  split
  · next h => rw [hf, h]
  · rfl

end SameDue

theorem acceptLock_due (d : Device) (l : Fin 16) (k : KeyLock) : SameDue d (d.acceptLock l k) := by
  have h1 : SameDue d (d.updLane l fun r =>
      if k = .locked then LaneRec.closeWindow { r with keyLock := k, settled := true, lockCandidate := none, lockCount := 0 }
      else { r with keyLock := k, settled := true, lockCandidate := none, lockCount := 0 }) :=
    .updLane d l fun r => by split <;> rfl
  unfold Device.acceptLock
  exact .ite (h1.seq (.of_lanes (Device.offer_lanes _ _ _))) h1

theorem sampleLock_due (d : Device) (l : Fin 16) (k : KeyLock) : SameDue d (d.sampleLock l k) := by
  have hfilter (c : Option KeyLock) (n : Nat) :
      SameDue d (d.updLane l fun r => { r with lockCandidate := c, lockCount := n }) := .updLane d l fun _ => rfl
  unfold Device.sampleLock
  exact .ite (hfilter _ _) (.ite (hfilter _ _) (acceptLock_due d l k))

theorem interlock_due (d : Device) (l : Fin 16) : SameDue d (d.interlock l).1 := by
  have hconsume : SameDue d (d.testAndConsume l).1 := by
    unfold Device.testAndConsume
    split
    · exact .updLane d l fun _ => rfl
    · exact .rfl' _
  unfold Device.interlock
  split
  · split
    · exact .rfl' _
    · exact .rfl' _
    · exact hconsume
    · exact .rfl' _
  · exact .rfl' _
  · exact .rfl' _
  · exact .rfl' _

theorem requestKick_due (d : Device) (n : Fin 32) (o : Origin) : SameDue d (d.requestKick n o).1 := by
  have hrefuse (x : Device) (w : KickRefusal) : SameDue x (x.refuseKick n o w) :=
    .of_lanes (refuseKick_touches x n o w .lanes (by decide))
  have haccept (x : Device) : SameDue x (x.acceptKick n) := .of_lanes rfl
  rcases d.requestKick_cases n o with ⟨w, h⟩ | ⟨-, h⟩ | ⟨-, -, -, -, -, ⟨-, h⟩ | ⟨-, h⟩⟩
  · rw [h]
    exact hrefuse d w
  · rw [h]
    exact .rfl' _
  · rw [h]
    exact (interlock_due d _).seq (haccept _)
  · rw [h]
    exact (interlock_due d _).seq (hrefuse _ .interlock)

theorem translatePress_due (d : Device) (l : Fin 16) (p : Fin 128) (late : Bool) :
    SameDue d (d.translatePress l p late) := by
  have htender (x : Device) : SameDue x (x.tenderPress l) := by
    have h1 : SameDue x (x.updLane l LaneRec.openWindow) := .updLane x l fun _ => rfl
    unfold Device.tenderPress
    dsimp only
    split
    · exact h1.seq (requestKick_due _ _ _)
    · exact h1
  rw [translatePress_eq]
  dsimp only
  split
  · exact .of_lanes (Device.updTrans_lanes _ _ _)
  · exact .of_lanes (Device.updTrans_lanes _ _ _)
  · exact .of_lanes (Device.offer_lanes _ _ _)
  · have h2 : SameDue d ((d.updTrans l fun t => { t with held := t.held.set p (some (d.pressRecord l p)) }).offer
        (laneQueue l) (keyNotice .keyPress p (d.pressRecord l p) d.lanes[l].keyLock late)) :=
      .of_lanes (Device.offer_lanes _ _ _)
    have h3 := SameDue.ite (c := d.lanes[l].state = .opened ∧ (d.keyEntry l d.trans[l].layer p).tender = true)
      (h2.seq (htender _)) h2
    exact .ite (h3.seq (.of_lanes (Device.updTrans_lanes _ _ _))) h3

theorem completePass_due (d : Device) (l : Fin 16) (raw : BitVec 128) (lock : KeyLock) :
    SameDue d (d.completePass l raw lock) := by
  have hreleases (x : Device) (ps : List (Fin 128)) : SameDue x (ps.foldl (fun d p => d.translateRelease l p) x) :=
    .of_touches (releases_touches x l ps) (by decide)
  have hpresses (x : Device) (cs : List (Fin 128 × Bool)) :
      SameDue x (cs.foldl (fun d c => d.translatePress l c.1 c.2) x) :=
    SameDue.foldl (g := fun d c => d.translatePress l c.1 c.2) (fun d c => translatePress_due d l c.1 c.2) cs x
  have hnotice (x : Device) (ps : List (Fin 128)) (cs : List (Fin 128 × Bool)) : SameDue x (x.passNotice l ps cs) :=
    ((hreleases x ps).seq (hpresses _ cs)).seq (.of_touches (advanceRepeat_touches _ l cs) (by decide))
  have hscan (f : LaneScan → LaneScan) : SameDue d (d.updScan l f) := .of_lanes (Device.updScan_lanes d l f)
  have hquiet (x : Device) : SameDue x (x.quietSwitch l) := .of_touches (quietSwitch_touches x l) (by decide)
  rw [completePass_eq]
  generalize d.scanner.lanes[l].pressesMade d.lanes[l].active raw (d.dead l) = cs
  generalize d.scanner.lanes[l].released d.lanes[l].active raw = rs
  have hstart := (hscan fun _ => d.scanner.lanes[l].passed d.lanes[l].active raw (d.dead l)).seq (sampleLock_due _ l lock)
  generalize (d.updScan l fun _ => d.scanner.lanes[l].passed d.lanes[l].active raw (d.dead l)).sampleLock l lock = x at hstart
  exact (hstart.seq (hnotice x rs cs)).seq (hquiet _)

theorem takeDueReadings_none {d : Device} (h : ∀ m : Fin 16, d.lanes[m].wakeDue = false) (wake : BitVec 128) :
    d.takeDueReadings wake = d := by
  have hnone : ((List.finRange 16).filter fun l => d.lanes[l].wakeDue) = [] :=
    List.filter_eq_nil_iff.mpr fun m _ => Bool.eq_false_iff.mp (h m)
  unfold Device.takeDueReadings
  rw [hnone]
  rfl

/-! ### The whole pass end -/

/-- A pass that counts, with room for its events: the sample of the key lock, the translations, the repeat and the
keymap notice. -/
theorem completePass_steps {d x sampled translated : Device} {l : Fin 16} {raw : BitVec 128} {lock : KeyLock}
    {rs : List (Fin 128)} {cs : List (Fin 128 × Bool)}
    (hx : d.updScan l (fun _ => d.scanner.lanes[l].passed d.lanes[l].active raw (d.dead l)) = x)
    (hsampled : sampled = lockSampled x l lock)
    (hrs : rs = d.scanner.lanes[l].released d.lanes[l].active raw)
    (hcs : cs = d.scanner.lanes[l].pressesMade d.lanes[l].active raw (d.dead l))
    (htranslated : translated = cs.foldl (fun d x => d.translatePress l x.1 x.2)
      (rs.foldl (fun d p => d.translateRelease l p) sampled))
    (hroom : room d (laneQueue l) 1) (hafter : room translated (laneQueue l) 2) :
    d.completePass l raw lock = quietlySwitched (repeatCounted translated l cs) l := by
  have hlock : x.sampleLock l lock = sampled := (sampleLock_eq lock (hx ▸ hroom)).trans hsampled.symm
  have hrepeat : translated.advanceRepeat l cs = repeatCounted translated l cs :=
    advanceRepeat_eq cs (Nat.le_of_succ_le hafter)
  rw [completePass_eq, hx, ← hrs, ← hcs, hlock, ← quietSwitch_eq (repeatCounted_room cs hafter), ← hrepeat, htranslated]
  rfl

theorem updScan_passed (d : Device) (l : Fin 16) (m : LaneScan) : d.updScan l (fun _ => m) =
    { d with scanner := { d.scanner with lanes := d.scanner.lanes.set l m } } := rfl

/-- The readings that are due come last, on a part that differs from the completed pass in the scanner alone. -/
theorem passEnd_readings {d : Device} {l : Fin 16} (hl : d.scanner.laneInPass = some l)
    (hd : d.scanner.lanes[l].discard = false) (raw : BitVec 128) (lock : KeyLock) (wake : BitVec 128) :
    ∃ m : Scanner, passEnd raw lock wake d = { d.completePass l raw lock with scanner := m }.takeDueReadings wake := by
  rw [passEnd_eq hl, passSettled_counts hd]
  exact ⟨_, rfl⟩

/-- Settles O15: the two steps of R38 and R39 for the key states, the steps of R32 for what is translated. -/
theorem passEndKeyStates : Obligations.PassEndKeyStates := by
  intro s t l raw wake a b hr hl hd hD hN hrun D N old new q
  obtain ⟨m, heq⟩ := passEnd_readings hl hd raw (KeyLock.ofLines a b) wake
  have ht : t = { s with dev := passEnd raw (KeyLock.ofLines a b) wake s.dev } :=
    Host.Outcome.next.inj (hrun.symm.trans (exec_passEnd_running hr raw wake a b))
  have hnew : new = old.passed s.dev.lanes[l].active raw (s.dev.dead l) := by
    rw [show new = t.dev.scanner.lanes[l] from rfl, ht]
    exact (passEnd_scan hl raw _ wake).trans (ended_counts hd _ raw _)
  rw [hnew]
  refine ⟨passed_states hD raw (s.dev.dead l), passed_limit hN raw _, fun ⟨p, hk, hi⟩ => passed_full hN raw _ hk hi,
    old.pressesMade s.dev.lanes[l].active raw (s.dev.dead l), mem_pressesMade hD raw _,
    pressesMade_ordered old _ raw _, ?_⟩
  intro releases sampled translated d hroom hafter
  have hreleases : releases = old.released s.dev.lanes[l].active raw := (released_eq hD raw (s.dev.dead l)).symm
  have hstart : { s.dev with scanner := { s.dev.scanner with lanes := s.dev.scanner.lanes.set l { old with
      keys := (old.passed s.dev.lanes[l].active raw (s.dev.dead l)).keys
      integ := (old.passed s.dev.lanes[l].active raw (s.dev.dead l)).integ } } } =
      s.dev.updScan l fun _ => old.passed s.dev.lanes[l].active raw (s.dev.dead l) := by
    rw [updScan_passed, ← passed_eq]
  have hpass : s.dev.completePass l raw (KeyLock.ofLines a b) = d :=
    completePass_steps (sampled := sampled) (translated := translated) hstart.symm rfl hreleases rfl rfl hroom hafter
  have hdue := completePass_due s.dev l raw (KeyLock.ofLines a b)
  rw [hpass] at heq hdue
  generalize d = e at heq hdue
  have hdev : t.dev = passEnd raw (KeyLock.ofLines a b) wake s.dev := by rw [ht]
  rw [heq] at hdev
  have hview := takeDueReadings_view wake { e with scanner := m } l
  have hreadings := takeDueReadings_touches { e with scanner := m } wake
  rw [← hdev] at hview hreadings
  refine ⟨hreadings .trans (by decide), hreadings .keymaps (by decide), hreadings .drawers (by decide), fun hoff => ?_,
    fun hoff => ?_⟩
  · have hoff' : ¬ e.lanes[l].wakeDue = true := by
      rw [hdue.due l, hoff]
      decide
    dsimp only at hview
    rw [if_neg hoff'] at hview
    exact ⟨(Prod.mk.inj hview).1, (Prod.mk.inj (Prod.mk.inj hview).2).1⟩
  · have hoff' (k : Fin 16) : e.lanes[k].wakeDue = false := (hdue.due k).trans (hoff k)
    rw [hdev, takeDueReadings_none (d := { e with scanner := m }) hoff']

end Sys2Proof.PassEnds

/-! ## Presses and releases (R62 to R69) -/

namespace Sys2Proof.KeyEvents

open Sys2Proof.Machine Sys2Proof.Claims Sys2Proof.Events Sys2Proof.OpenCounter Sys2Proof.Departures

/-! ### The layer and the entry of a press -/

theorem holds_iff (t : KeyTrans) (role : Role) :
    t.holds role = true ↔ ∃ p : Fin 128, ∃ h, t.held[p] = some h ∧ h.role = role := by
  unfold KeyTrans.holds
  rw [List.any_eq_true]
  refine exists_congr fun p => ⟨fun ⟨_, h⟩ => ?_, fun ⟨h, hp, hr⟩ => ⟨List.mem_finRange p, ?_⟩⟩
  · cases hp : t.held[p] with
    | none =>
      rw [hp] at h
      cases h
    | some k =>
      rw [hp] at h
      exact ⟨k, rfl, beq_iff_eq.mp h⟩
  · rw [hp]
    exact beq_iff_eq.mpr hr

theorem layer_val (t : KeyTrans) : t.layer.val = layerOf t := by
  have hrole (r : Role) (n : Nat) : (if t.holds r = true then n else 0) =
      if ∃ p : Fin 128, ∃ h, t.held[p] = some h ∧ h.role = r then n else 0 := if_congr (holds_iff t r) rfl rfl
  unfold layerOf
  rw [← hrole .modA 1, ← hrole .modB 2]
  unfold KeyTrans.layer
  cases t.holds .modA <;> cases t.holds .modB <;> rfl

theorem keyEntry_of_active {d : Device} {l : Fin 16} {i : Fin 8} (hi : d.keymaps.lanes[l].active = some i) {layer : Fin 4}
    {p : Fin 128} {ix : Fin 512} (hix : ix.val = layer.val * 128 + p.val) :
    d.keyEntry l layer p = d.keymaps.images[i].entries[ix] := by
  obtain rfl : entryIndex layer p = ix := Fin.ext hix.symm
  unfold Device.keyEntry
  rw [hi]

/-! ### The fate of a press -/

theorem pressFate_spec (s : LaneState) (lock : KeyLock) (e : KeyEntry) :
    (s = .opened → lock = .locked → pressFate s lock e = .suppressed) ∧
    (s = .suspended → e.wake = false → pressFate s lock e = .suppressed) ∧
    ((s = .opened ∧ lock ≠ .locked) ∨ (s = .suspended ∧ e.wake = true) →
      (e.silent = true ∨ e.code = 0 → pressFate s lock e = .muted) ∧
      (e.silent = false → e.code ≠ 0 → e.supervisor = true → lock = .locked ∨ lock = .reg →
        pressFate s lock e = .refused) ∧
      (e.silent = false → e.code ≠ 0 → (e.supervisor = false ∨ lock = .supv ∨ lock = .mgr) →
        pressFate s lock e = .reported)) := by
  refine ⟨fun hs hlock => if_pos ⟨hs, hlock⟩, fun hs hwake => ?_, fun htested => ?_⟩
  · have hno : ¬ (s = .opened ∧ lock = .locked) := fun h => by cases hs.symm.trans h.1
    have hyes : s = .suspended ∧ ¬ e.wake = true := ⟨hs, Bool.eq_false_iff.mp hwake⟩
    rw [pressFate, if_neg hno, if_pos hyes]
  · have hno1 : ¬ (s = .opened ∧ lock = .locked) := by
      rcases htested with h | h
      · exact fun hc => h.2 hc.2
      · exact fun hc => by cases h.1.symm.trans hc.1
    have hno2 : ¬ (s = .suspended ∧ ¬ e.wake = true) := by
      rcases htested with h | h
      · exact fun hc => by cases h.1.symm.trans hc.1
      · exact fun hc => hc.2 h.2
    rw [pressFate, if_neg hno1, if_neg hno2]
    refine ⟨fun hmute => if_pos hmute, fun hsilent hcode hsup hlow => ?_, fun hsilent hcode hhigh => ?_⟩
    · have hno3 : ¬ (e.silent = true ∨ e.code = 0) := not_or.mpr ⟨Bool.eq_false_iff.mp hsilent, hcode⟩
      have hyes : e.supervisor = true ∧ ¬ lock.atLeastSupv = true := ⟨hsup, by rcases hlow with rfl | rfl <;> decide⟩
      rw [if_neg hno3, if_pos hyes]
    · have hno3 : ¬ (e.silent = true ∨ e.code = 0) := not_or.mpr ⟨Bool.eq_false_iff.mp hsilent, hcode⟩
      have hno4 : ¬ (e.supervisor = true ∧ ¬ lock.atLeastSupv = true) := by
        rintro ⟨hsup, hlow⟩
        rcases hhigh with h | rfl | rfl
        · cases h.symm.trans hsup
        · exact hlow rfl
        · exact hlow rfl
      rw [if_neg hno3, if_neg hno4]

/-! ### A press, told and acted on -/

/-- The part once a press has its held record and its event has been offered. -/
def pressTold (d : Device) (l : Fin 16) (p : Fin 128) (late : Bool) (k : Kind) : Device :=
  (d.updTrans l fun t => { t with held := t.held.set p (some (d.pressRecord l p)) }).offer (laneQueue l)
    (keyNotice k p (d.pressRecord l p) d.lanes[l].keyLock late)

theorem translatePress_silent {d : Device} {l : Fin 16} {p : Fin 128}
    (h : (d.pressRecord l p).fate = .suppressed ∨ (d.pressRecord l p).fate = .muted) (late : Bool) :
    d.translatePress l p late = d.updTrans l fun t => { t with held := t.held.set p (some (d.pressRecord l p)) } := by
  rw [translatePress_eq]
  dsimp only
  rcases h with h | h
  · rw [h]
  · rw [h]

theorem translatePress_refused {d : Device} {l : Fin 16} {p : Fin 128} (h : (d.pressRecord l p).fate = .refused)
    (late : Bool) : d.translatePress l p late = pressTold d l p late .keyRefused := by
  rw [translatePress_eq]
  dsimp only
  rw [h]
  rfl

/-- Besides the held records, a REPORTED press is its event and, for a TENDER key in OPEN, the tender window's part. -/
theorem translatePress_reported {d : Device} {l : Fin 16} {p : Fin 128} (h : (d.pressRecord l p).fate = .reported)
    (late : Bool) :
    let told := pressTold d l p late .keyPress
    let done := if d.lanes[l].state = .opened ∧ (d.keyEntry l d.trans[l].layer p).tender = true then told.tenderPress l
      else told
    (d.translatePress l p late).pool = done.pool ∧ (d.translatePress l p late).lanes = done.lanes ∧
      (d.translatePress l p late).drawers = done.drawers := by
  intro told done
  have heq : d.translatePress l p late =
      if (d.pressRecord l p).repeats = true then done.updTrans l fun t => t.takeOwner p else done := by
    rw [translatePress_eq]
    dsimp only
    rw [h]
    rfl
  rw [heq]
  split
  · exact ⟨Device.updTrans_pool _ _ _, Device.updTrans_lanes _ _ _, Device.updTrans_drawers _ _ _⟩
  · exact ⟨rfl, rfl, rfl⟩

theorem pressTold_eq {d : Device} {l : Fin 16} (p : Fin 128) (late : Bool) (k : Kind) (h : room d (laneQueue l) 1) :
    (pressTold d l p late k).pool = appended d.pool (laneQueue l)
        { ev := d.eventOf (laneQueue l) (keyNotice k p (d.pressRecord l p) d.lanes[l].keyLock late), body := .absent } ∧
      (pressTold d l p late k).lanes = d.lanes ∧ (pressTold d l p late k).drawers = d.drawers := by
  have hoffer := offer_eq_appended (d := d.updTrans l fun t => { t with held := t.held.set p (some (d.pressRecord l p)) })
    (keyNotice k p (d.pressRecord l p) d.lanes[l].keyLock late) h
  refine ⟨congrArg Device.pool hoffer, ?_, ?_⟩
  · exact (Device.offer_lanes _ _ _).trans (Device.updTrans_lanes _ _ _)
  · exact (Device.offer_drawers _ _ _).trans (Device.updTrans_drawers _ _ _)

/-! ### The tender window and the auto-kick -/

/-- A kick that no test before the interlock turns away. -/
theorem requestKick_tested {d : Device} {n : Fin 32} (o : Origin) (hp : d.drawers.drawers[n].present = true)
    (hs : d.drawers.drawers[n].settled = true) (hk : d.drawers.drawers[n].kick = .idle)
    (hc : d.drawers.drawers[n].position = .closed) (hi : d.drawers.inhibit = false) :
    d.requestKick n o = if (d.interlock (laneOf n)).2 = true then ((d.interlock (laneOf n)).1.acceptKick n, .accepted)
      else ((d.interlock (laneOf n)).1.refuseKick n o .interlock, .refused .interlock) := by
  have h1 : ¬ ((!d.drawers.drawers[n].present || !d.drawers.drawers[n].settled) = true) := by
    rw [hp, hs]
    decide
  have h2 : ¬ d.drawers.drawers[n].kick ≠ .idle := not_not_intro hk
  have h3 : ¬ d.drawers.drawers[n].position = .opened := by
    rw [hc]
    decide
  have h4 : ¬ d.drawers.inhibit = true := Bool.eq_false_iff.mp hi
  unfold Device.requestKick
  dsimp only
  rw [if_neg h1, if_neg h2, if_neg h3, if_neg h4]

/-- In OPEN with the window open the interlock admits a kick at REG, SUPV and MGR, and at REG consumes the window. -/
theorem interlock_window {d : Device} {l : Fin 16} (hs : d.lanes[l].state = .opened) (hw : d.lanes[l].windowOpen = true)
    (hlock : d.lanes[l].keyLock ≠ .locked) :
    d.interlock l = (if d.lanes[l].keyLock = .reg then d.updLane l LaneRec.closeWindow else d, true) := by
  unfold Device.interlock
  rw [hs]
  dsimp only
  cases hk : d.lanes[l].keyLock with
  | locked => exact absurd hk hlock
  | reg => exact if_pos hw
  | supv => rfl
  | mgr => rfl

theorem acceptKick_drawers (d : Device) (n : Fin 32) : (d.acceptKick n).drawers =
    { d.drawers with drawers := upd d.drawers.drawers n fun w => { w with kick := .waiting }
                     waitList := d.drawers.waitList ++ [n] } := rfl

theorem acceptKick_lanes (d : Device) (n : Fin 32) : (d.acceptKick n).lanes = d.lanes := rfl

theorem tenderPress_plain {d : Device} {l : Fin 16} (h : d.lanes[l].active.autoKick = none) :
    d.tenderPress l = d.updLane l LaneRec.openWindow := by
  unfold Device.tenderPress
  rw [h]

theorem tenderPress_kicks {d : Device} {l : Fin 16} {side : Fin 2} {n : Fin 32}
    (h : d.lanes[l].active.autoKick = some side) (hn : n = ofLane l side) (hstate : d.lanes[l].state = .opened)
    (hlock : d.lanes[l].keyLock ≠ .locked) (hp : d.drawers.drawers[n].present = true)
    (hs : d.drawers.drawers[n].settled = true) (hk : d.drawers.drawers[n].kick = .idle)
    (hc : d.drawers.drawers[n].position = .closed) (hi : d.drawers.inhibit = false) :
    d.tenderPress l = (d.updLane l fun r =>
      if d.lanes[l].keyLock = .reg then r.openWindow.closeWindow else r.openWindow).acceptKick n := by
  have hlane : (d.updLane l LaneRec.openWindow).lanes[l] = d.lanes[l].openWindow := by
    rw [Device.updLane_lanes, upd_getElem_self]
  have hinter : (d.updLane l LaneRec.openWindow).interlock (laneOf n) =
      (d.updLane l fun r => if d.lanes[l].keyLock = .reg then r.openWindow.closeWindow else r.openWindow, true) := by
    have hwindow := interlock_window (d := d.updLane l LaneRec.openWindow) (l := l) (by rw [hlane]; exact hstate)
      (by rw [hlane]; rfl) (by rw [hlane]; exact hlock)
    rw [hn, laneOf_ofLane, hwindow, hlane]
    have hsame : d.lanes[l].openWindow.keyLock = d.lanes[l].keyLock := rfl
    rw [hsame, updLane_updLane]
    by_cases hreg : d.lanes[l].keyLock = .reg
    · simp only [if_pos hreg]
      rfl
    · simp only [if_neg hreg]
  unfold Device.tenderPress
  dsimp only
  rw [h]
  dsimp only
  rw [← hn, requestKick_tested (d := d.updLane l LaneRec.openWindow) .auto hp hs hk hc hi, hinter, if_pos rfl]

/-- Settles O16: the fate by the tests in their order, then what each fate leads to. -/
theorem pressAndRelease : Obligations.PressAndRelease := by
  refine ⟨fun d l p late i layer ix ix0 hi hlayer hix hix0 hroom hscan => ?_, fun d l p h hp hroom => ?_⟩
  · intro e lock d'
    have hlayer' : d.trans[l].layer = layer := Fin.ext ((layer_val _).trans hlayer.symm)
    have he : d.keyEntry l d.trans[l].layer p = e := by
      rw [hlayer']
      exact keyEntry_of_active hi hix
    have he0 : d.keyEntry l 0 p = d.keymaps.images[i].entries[ix0] := keyEntry_of_active hi (by simpa using hix0)
    have hfate : (d.pressRecord l p).fate = pressFate d.lanes[l].state lock e := by rw [← he]; rfl
    have htrans : d'.trans[l] = d.trans[l].press p (d.pressRecord l p) (d.pressOwns l p) := by
      rw [translatePress_trans]
      exact upd_getElem_self _ _ _
    have hcode : (d.pressRecord l p).code = e.code := congrArg KeyEntry.code he
    have hentry (k : Kind) : ({ ev := d.eventOf (laneQueue l) (keyNotice k p (d.pressRecord l p) d.lanes[l].keyLock late)
                                body := .absent } : Entry) =
        { ev := { lane := laneQueue l, seq := d.pool.lanes[laneQueue l].seq, kind := k, afterLoss := false
                  overrun := false, late := late, forced := false, time := d.trunk.clock, source := some (num p.val)
                  detail1 := num (e.code.toNat % 256)
                  detail2 := num (e.code.toNat / 256 + 16 * layer.val + 64 * lock.code) }
          body := .absent } := by
      rw [← hcode, ← hlayer']
      rfl
    obtain ⟨hlocked, hnowake, htested⟩ := pressFate_spec d.lanes[l].state lock e
    rw [← hfate] at hlocked hnowake htested
    have htold (k : Kind) := pressTold_eq p late k hroom
    simp only [hentry] at htold
    have howns : d.pressOwns l p = (decide ((d.pressRecord l p).fate = .reported) && e.repeats) := by
      rw [← he]
      rfl
    refine ⟨d.pressRecord l p, ?_, hlayer', hcode, congrArg KeyEntry.role he0, congrArg KeyEntry.repeats he,
      congrArg KeyEntry.wake he, hlocked, hnowake, htested, fun hsilent => ?_, ?_, fun hrep he2 => ?_, fun hno => ?_,
      fun q hq => ?_⟩
    · rw [htrans, press_held, if_pos rfl]
    · exact (congrArg Device.pool (translatePress_silent hsilent late)).trans (Device.updTrans_pool _ _ _)
    · intro pool tender
      have htender : tender ↔ (d.pressRecord l p).fate = .reported ∧
          (d.lanes[l].state = .opened ∧ (d.keyEntry l d.trans[l].layer p).tender = true) := by
        rw [he]
        exact ⟨fun ⟨hf, ht, hs⟩ => ⟨hf, hs, ht⟩, fun ⟨hf, hs, ht⟩ => ⟨hf, ht, hs⟩⟩
      have hpool (hf : (d.pressRecord l p).fate = .reported) : (pressTold d l p late .keyPress).pool = pool :=
        (htold .keyPress).1.trans (by simp only [pool]; rw [hf]; rfl)
      have hpress (hf : (d.pressRecord l p).fate = .reported) := translatePress_reported hf late
      refine ⟨fun hf hno => ?_, fun ht hauto => ?_, fun side n ht hauto hn hpres hset hidle hclosed hinh => ?_⟩
      · rcases hf with hf | hf
        · have hrefused : d' = pressTold d l p late .keyRefused := translatePress_refused hf late
          obtain ⟨hp, hl, -⟩ := htold .keyRefused
          rw [hrefused]
          exact ⟨hp.trans (by simp only [pool]; rw [hf]; rfl), hl⟩
        · obtain ⟨hp, hl, -⟩ := hpress hf
          rw [if_neg fun h => hno (htender.mpr ⟨hf, h⟩)] at hp hl
          exact ⟨hp.trans (hpool hf), hl.trans (htold .keyPress).2.1⟩
      · obtain ⟨hf, hwhen⟩ := htender.mp ht
        obtain ⟨hp, hl, hd⟩ := hpress hf
        obtain ⟨-, htl, htd⟩ := htold .keyPress
        rw [if_pos hwhen, tenderPress_plain (by rw [htl]; exact hauto)] at hp hl hd
        refine ⟨hp.trans ((Device.updLane_pool _ _ _).trans (hpool hf)), hd.trans ((Device.updLane_drawers _ _ _).trans htd),
          hl.trans ?_⟩
        rw [Device.updLane_lanes, htl]
        rfl
      · obtain ⟨hf, hwhen⟩ := htender.mp ht
        obtain ⟨hp, hl, hd⟩ := hpress hf
        obtain ⟨-, htl, htd⟩ := htold .keyPress
        have hnl : n = ofLane l side := Fin.ext hn
        have hlock : lock ≠ .locked := fun h => by cases (hlocked hwhen.1 h).symm.trans hf
        have hkick : (pressTold d l p late .keyPress).tenderPress l = _ :=
          tenderPress_kicks (by rw [htl]; exact hauto) hnl (by rw [htl]; exact hwhen.1) (by rw [htl]; exact hlock)
            (by rw [htd]; exact hpres) (by rw [htd]; exact hset) (by rw [htd]; exact hidle) (by rw [htd]; exact hclosed)
            (by rw [htd]; exact hinh)
        rw [if_pos hwhen, hkick] at hp hl hd
        refine ⟨hp.trans (hpool hf), ?_, ?_, ?_⟩
        · rw [hd, acceptKick_drawers, Device.updLane_drawers, htd, upd_getElem_self]
        · rw [hd, acceptKick_drawers, Device.updLane_drawers, htd]
        · rw [hl, acceptKick_lanes, Device.updLane_lanes, upd_getElem_self, htl]
          by_cases hreg : d.lanes[l].keyLock = .reg
          · rw [if_pos hreg, show lock = .reg from hreg]
            rfl
          · rw [if_neg hreg, bne_iff_ne.mpr hreg]
            rfl
    · rw [htrans, howns, hrep, he2]
      exact ⟨rfl, rfl⟩
    · have hoff : d.pressOwns l p = false := by
        rw [howns]
        rcases hno with hno | hno
        · rw [decide_eq_false hno]
          rfl
        · rw [hno, Bool.and_false]
      rw [htrans, hoff]
      exact ⟨rfl, rfl⟩
    · rw [htrans, press_held, if_neg hq]
  · intro d'
    have htrans : d'.trans[l] = d.trans[l].release p := by
      rw [translateRelease_trans]
      exact upd_getElem_self _ _ _
    have hpool : d'.pool = (tells d (laneQueue l) (releasesOf d l [p])).pool := translateRelease_pool d l p
    have hrelease : d.trans[l].release p = d.trans[l].letGo p := by
      unfold KeyTrans.release
      rw [hp]
    have htold : releasesOf d l [p] =
        if h.fate = .reported then [keyTold .keyRelease p h d.lanes[l].keyLock] else [] := by
      simp only [releasesOf, List.filterMap_cons, List.filterMap_nil, hp]
      by_cases hf : h.fate = .reported
      · simp only [if_pos hf]
      · simp only [if_neg hf]
    refine ⟨?_, fun q hq => ?_, fun ho => ?_, fun ho => ?_, fun hf => ?_, fun hf => ?_⟩
    · rw [htrans, release_held, if_pos rfl]
    · rw [htrans, release_held, if_neg hq]
    · rw [htrans, hrelease, KeyTrans.letGo, if_pos ho]
      exact ⟨rfl, rfl⟩
    · rw [htrans, hrelease, letGo_owner, if_neg ho]
    · rw [hpool, htold, if_neg hf]
      rfl
    · rw [hpool, htold, if_pos hf, tells_pool_of_room _ hroom]
      rfl

end Sys2Proof.KeyEvents

/-! ## The keymap store's requests and the forced switch (R51 to R60) -/

namespace Sys2Proof.KeymapRequests

open Sys2Proof.Machine Sys2Proof.Claims Sys2Proof.Events Sys2Proof.OpenCounter Sys2Proof.Departures
open Sys2Proof.Passes Sys2Proof.LanesKept

theorem inUse_iff (k : KeymapStore) (i : Fin 8) : k.inUse i = true ↔
    ∃ l : Fin 16, k.lanes[l].active = some i ∨ k.lanes[l].pendingImg = some i := by
  simp only [KeymapStore.inUse, List.any_eq_true, List.mem_finRange, true_and, Bool.or_eq_true, beq_iff_eq]

theorem writeKeymap_num {i : Fin 8} {lo hi n : Byte} {rest : List Byte} {es : List KeyEntry}
    (hes : inKeyEntries rest = some es) (hlen : es.length = n.toNat) (hlow : 1 ≤ n.toNat) (hhigh : n.toNat ≤ 16)
    (hlast : lo.toNat + 256 * hi.toNat + n.toNat ≤ 512) (d : Device) :
    writeKeymap (num i :: lo :: hi :: n :: rest) d =
      if d.keymaps.inUse i = true then refuse d .refusedInUse
      else answer (d.updImage i fun m =>
        { entries := storeEntries m.entries (lo.toNat + 256 * hi.toNat) es, state := .opened }) .done := by
  have hrun : runOk (in2 lo hi) n.toNat = true := by simp [runOk, in2, hlow, hhigh, hlast]
  have hok : ¬ ((¬ runOk (in2 lo hi) n.toNat = true) ∨ es.length ≠ n.toNat) := not_or.mpr ⟨not_not_intro hrun, not_not_intro hlen⟩
  unfold writeKeymap
  simp only [inIndex_num i (by decide), hes]
  rw [if_neg hok]
  rfl

theorem eraseKeymap_num (i : Fin 8) (d : Device) : eraseKeymap [num i] d =
    if d.keymaps.inUse i = true then refuse d .refusedInUse else answer (d.updImage i fun _ => emptyImage) .done := by
  unfold eraseKeymap
  simp only [inIndex_num i (by decide)]

theorem storeEntries_getElem (t : Table KeyEntry 512) (first : Nat) (es : List KeyEntry) (j : Fin 512) :
    some (storeEntries t first es)[j] =
      if first ≤ j.val ∧ j.val < first + es.length then es[j.val - first]? else some t[j] := by
  unfold storeEntries
  rw [tab_getElem]
  by_cases hlow : first ≤ j.val
  · rw [if_pos hlow]
    by_cases hhigh : j.val < first + es.length
    · have hlt : j.val - first < es.length := by omega
      rw [if_pos ⟨hlow, hhigh⟩, List.getElem?_eq_getElem hlt]
      rfl
    · have hge : es.length ≤ j.val - first := by omega
      rw [if_neg fun h => hhigh h.2, List.getElem?_eq_none hge]
      rfl
  · rw [if_neg hlow, if_neg fun h => hlow h.1]

theorem updImage_images (d : Device) (i : Fin 8) (f : Image → Image) :
    (d.updImage i f).keymaps.images = upd d.keymaps.images i f := rfl

/-- Settles O17: by whether the image is in use; the entries are stored by their place in the run. -/
theorem writeAndEraseKeymap : Obligations.WriteAndEraseKeymap := by
  intro s tag lo hi n i rest es used first w e
  have hused : s.dev.keymaps.inUse i = true ↔ used := inUse_iff _ i
  refine ⟨fun hw hes hlen hlow hhigh hlast => ?_, fun hw => ?_⟩
  · have hcarry := writeKeymap_num (i := i) hes hlen hlow hhigh hlast (s.dev.begin w)
    refine ⟨fun hu => ?_, fun hu => ?_⟩
    · exact takeCode_of_answer (d := s.dev.begin w) hw rfl (hcarry.trans (if_pos (hused.mpr hu))) rfl
    · have hstored := hcarry.trans (if_neg (mt hused.mp hu))
      refine ⟨_, takeCode_of_answer hw rfl hstored rfl, rfl, ?_, fun j => ?_, fun k hk => ?_, rfl, rfl⟩
      · dsimp only
        rw [updImage_images, upd_getElem_self]
      · dsimp only
        rw [updImage_images, upd_getElem_self, storeEntries_getElem, hlen]
        rfl
      · dsimp only
        rw [updImage_images, upd_other _ _ hk]
        rfl
  · have hcarry := eraseKeymap_num i (s.dev.begin e)
    refine ⟨fun hu => ?_, fun hu => ?_⟩
    · exact takeCode_of_answer (d := s.dev.begin e) hw rfl (hcarry.trans (if_pos (hused.mpr hu))) rfl
    · exact takeCode_of_answer hw rfl (hcarry.trans (if_neg (mt hused.mp hu))) rfl

/-! ### The checksum walk -/

/-- A request that is taken and stays in progress. -/
theorem takeCode_of_progress {s : State} {r : Request} {code : Nat} {carry : List Byte → Device → Carried} {d : Device}
    (hw : Waits s r) (hr : r.is code = true) (hcarry : carry r.fields (s.dev.begin r) = (d, none)) :
    s.takeCode code carry = .next { s with dev := d } := by
  rw [State.takeCode, s.run_of_running _ hw.1, Device.take_of_takeable _ _ _ r (takeable_of_waits hw) hr, hcarry]
  rfl

theorem verifyKeymap_num (i : Fin 8) (lo hi : Byte) (d : Device) : verifyKeymap [num i, lo, hi] d =
    if d.keymaps.images[i].state = .empty then refuse d .refusedState
    else (d.updKeymaps fun k => { k with verify := some { image := i, checkWord := lo.toNat + 256 * hi.toNat } }, none) := by
  unfold verifyKeymap
  simp only [inIndex_num i (by decide)]
  rfl

theorem ready_of_not_empty {m : ImageState} (h : m ≠ .empty) : (if m = .opened then .ready else m) = ImageState.ready := by
  cases m with
  | empty => exact absurd rfl h
  | opened => rfl
  | ready => rfl

/-- The end of a walk whose request is in progress. -/
theorem verifyWalkEnd_eq {d : Device} {i : Fin 8} {word : Nat} {r : Request}
    (hv : d.keymaps.verify = some { image := i, checkWord := word }) (hr : d.trunk.inProgress = some r)
    (hne : d.keymaps.images[i].state ≠ .empty) :
    let sum := d.keymaps.images[i].sum
    verifyWalkEnd d = { d with
      keymaps := { d.keymaps with
        verify := none
        images := d.keymaps.images.set i
          { d.keymaps.images[i] with state := if sum = word then .ready else d.keymaps.images[i].state } }
      trunk := { d.trunk with
        inProgress := none
        replies := d.trunk.replies ++ [{ tag := r.tag, request := r.replyCode
                                         code := if sum = word then .done else .refusedCheck
                                         fields := out2 sum }] } } := by
  intro sum
  unfold verifyWalkEnd
  rw [hv]
  dsimp only
  by_cases hsum : sum = word
  · rw [if_pos hsum, if_pos hsum, if_pos hsum]
    refine (Device.reply_of_inProgress ((d.updKeymaps _).updImage i _) _ r hr).trans ?_
    have himage : ({ d.keymaps.images[i] with
        state := if d.keymaps.images[i].state = .opened then .ready else d.keymaps.images[i].state } : Image) =
        { d.keymaps.images[i] with state := .ready } := by rw [ready_of_not_empty hne]
    rw [← himage]
    rfl
  · rw [if_neg hsum, if_neg hsum, if_neg hsum]
    refine (Device.reply_of_inProgress (d.updKeymaps _) _ r hr).trans ?_
    have himages : d.keymaps.images.set i d.keymaps.images[i] = d.keymaps.images := upd_id d.keymaps.images i (f := id) rfl
    have hsame : ({ d.keymaps.images[i] with state := d.keymaps.images[i].state } : Image) = d.keymaps.images[i] := rfl
    rw [hsame, himages]
    rfl

/-- Settles O18: the start by the image's state, the end by the sum. -/
theorem verifyKeymap : Obligations.VerifyKeymap := by
  intro s tag lo hi i r image sum
  have hcarry := verifyKeymap_num i lo hi (s.dev.begin r)
  refine ⟨fun hw he => ?_, fun hw he => ?_, fun word hr hv hin he => ?_⟩
  · exact takeCode_of_answer (d := s.dev.begin r) hw rfl (hcarry.trans (if_pos he)) rfl
  · exact takeCode_of_progress hw rfl (hcarry.trans (if_neg he))
  · have hend := verifyWalkEnd_eq hv hin he
    dsimp only at hend
    refine ⟨_, (exec_verifyWalkEnd s).trans (s.run_of_running _ hr), rfl, ?_⟩
    rw [hend]
    exact ⟨rfl, rfl, rfl, rfl, rfl⟩

/-! ### Assignment -/

theorem assignKeymap_num (l : Fin 16) (i : Fin 8) (d : Device) : assignKeymap [num l, num i] d =
    if d.keymaps.images[i].state = .ready then answer (d.assignKeymap l i) .done else refuse d .refusedNotReady := by
  unfold assignKeymap
  simp only [inIndex_num l (by decide), inIndex_num i (by decide)]

theorem switchKeymap_eq {d : Device} {l : Fin 16} (i : Fin 8) (h : room d (laneQueue l) 1) :
    d.switchKeymap l i false = { d with
      keymaps := { d.keymaps with
        lanes := d.keymaps.lanes.set l { active := some i, pendingImg := none, switchTimer := none } }
      pool := queued d (laneQueue l) .keymapSwitched none i 0 } :=
  offer_notice (d := d.updMap l _) (.keymapSwitched, none, i.val, 0) h

theorem switchKeymap_forced {d : Device} {l : Fin 16} (i : Fin 8) (h : room d (laneQueue l) 1) :
    let e := entryOf d (laneQueue l) .keymapSwitched none i 1 .absent
    (d.switchKeymap l i true).pool = appended d.pool (laneQueue l) { e with ev := { e.ev with forced := true } } :=
  congrArg Device.pool (offer_eq_appended (d := d.updMap l _) _ h)

/-! ### The forced switch -/

theorem release_rest (t : KeyTrans) (p : Fin 128) : t.release p = { t with
    held := (t.release p).held
    owner := if t.owner = some p ∧ (t.held[p]).isSome = true then none else t.owner
    countdown := if t.owner = some p ∧ (t.held[p]).isSome = true then 0 else t.countdown } := by
  unfold KeyTrans.release
  cases hp : t.held[p] with
  | none =>
    rw [if_neg (by simp), if_neg (by simp)]
  | some h =>
    unfold KeyTrans.letGo
    by_cases ho : t.owner = some p
    · rw [if_pos ho, if_pos ⟨ho, rfl⟩, if_pos ⟨ho, rfl⟩]
    · rw [if_neg ho, if_neg fun h => ho h.1, if_neg fun h => ho h.1]

/-- The owner is among the positions and has a held record there. -/
abbrev Loses (t : KeyTrans) (ps : List (Fin 128)) : Prop :=
  ∃ p : Fin 128, t.owner = some p ∧ p ∈ ps ∧ (t.held[p]).isSome = true

theorem loses_cons {t : KeyTrans} {x : Fin 128} {ps : List (Fin 128)}
    (h : ¬ (t.owner = some x ∧ (t.held[x]).isSome = true)) : Loses (t.release x) ps ↔ Loses t (x :: ps) := by
  have howner : (t.release x).owner = t.owner := by rw [release_rest, if_neg h]
  refine exists_congr fun p => ?_
  rw [howner, release_held, List.mem_cons]
  by_cases hp : p = x
  · subst hp
    rw [if_pos rfl]
    exact ⟨fun hl => absurd hl.2.2 (by decide), fun hl => absurd ⟨hl.1, hl.2.2⟩ h⟩
  · rw [if_neg hp, or_iff_right hp]

theorem releaseAll_rest (ps : List (Fin 128)) (t : KeyTrans) : t.releaseAll ps = { t with
    held := (t.releaseAll ps).held
    owner := if Loses t ps then none else t.owner
    countdown := if Loses t ps then 0 else t.countdown } := by
  induction ps generalizing t with
  | nil =>
    have hno : ¬ Loses t [] := by simp [Loses]
    rw [if_neg hno, if_neg hno]
    rfl
  | cons x ps ih =>
    have hrest : t.releaseAll (x :: ps) = (t.release x).releaseAll ps := rfl
    rw [hrest, ih (t.release x), release_rest t x]
    dsimp only
    by_cases hx : t.owner = some x ∧ (t.held[x]).isSome = true
    · have hyes : Loses t (x :: ps) := ⟨x, hx.1, List.mem_cons_self, hx.2⟩
      simp only [if_pos hx, if_pos hyes, ite_self]
    · rw [← release_rest t x]
      simp only [if_neg hx, loses_cons hx]

/-- A running switch timer with a pending image. -/
theorem forcedSwitch_eq {d : Device} {l : Fin 16} {i : Fin 8} (ht : d.keymaps.lanes[l].switchTimer.isSome)
    (hi : d.keymaps.lanes[l].pendingImg = some i) : forcedSwitch l d =
      (((d.scanner.lanes[l].positions .pressed).foldl (fun d p => d.latchKey l p) d).updScan l
        LaneScan.latchBlocked).switchKeymap l i true := by
  obtain ⟨x, hx⟩ := Option.isSome_iff_exists.mp ht
  unfold forcedSwitch
  rw [hx, hi]

theorem positions_pressed (d : Device) (l : Fin 16) : d.scanner.lanes[l].positions .pressed = pressedKeys d l := rfl

theorem forcedSwitch_keymaps {d : Device} {l : Fin 16} {i : Fin 8} (ht : d.keymaps.lanes[l].switchTimer.isSome)
    (hi : d.keymaps.lanes[l].pendingImg = some i) : (forcedSwitch l d).keymaps = { d.keymaps with
      lanes := d.keymaps.lanes.set l { active := some i, pendingImg := none, switchTimer := none } } := by
  have hlatch : ((d.scanner.lanes[l].positions .pressed).foldl (fun d p => d.latchKey l p) d).keymaps = d.keymaps :=
    latchKeys_touches d l _ .keymaps (by decide)
  rw [forcedSwitch_eq ht hi, Device.switchKeymap, Device.offer_keymaps, Device.updMap, Device.updKeymaps_keymaps,
    Device.updScan_keymaps, hlatch]
  rfl

theorem forcedSwitch_pool {d : Device} {l : Fin 16} {i : Fin 8} (ht : d.keymaps.lanes[l].switchTimer.isSome)
    (hi : d.keymaps.lanes[l].pendingImg = some i)
    (hroom : room d (laneQueue l) ((releasesOf d l (pressedKeys d l)).length + 1)) :
    let released := { d with pool := queuedAll d (laneQueue l) (releasesOf d l (pressedKeys d l)) }
    let e := entryOf released (laneQueue l) .keymapSwitched none i 1 .absent
    (forcedSwitch l d).pool = appended released.pool (laneQueue l) { e with ev := { e.ev with forced := true } } := by
  intro released e
  have hlatch := latchKeys_touches d l (pressedKeys d l)
  have hpool := latchKeys_pool d l (pressedKeys_nodup d l)
  rw [tells_pool_of_room _ (Nat.le_of_succ_le hroom)] at hpool
  rw [forcedSwitch_eq ht hi, positions_pressed]
  generalize (pressedKeys d l).foldl (fun d p => d.latchKey l p) d = x at hlatch hpool
  have hafter : room (x.updScan l LaneScan.latchBlocked) (laneQueue l) 1 := by
    unfold room
    rw [Device.updScan_pool, hpool, queuedAll_length]
    omega
  rw [switchKeymap_forced i hafter, Device.updScan_pool, hpool]
  have hclock : x.trunk.clock = d.trunk.clock := same_clock hlatch (by decide)
  unfold entryOf
  rw [Device.updScan_trunk, Device.updScan_pool, hpool, hclock]
  rfl

theorem forcedSwitch_within (d : Device) (l : Fin 16) : Within l d (forcedSwitch l d) := by
  unfold forcedSwitch
  split
  · exact ((Within.foldl (fun d p => latchKey_within d l p) _ d).seq (updScan_within _ l _)).seq
      (switchKeymap_within _ l _ true)
  · exact .rfl' l d

/-- Every PRESSED and every BLOCKED key is LATCHED; nothing else of the lane's part of the scanner moves. -/
theorem forced_keys (m : LaneScan) (p : Fin 128) : (m.latchAll (m.positions .pressed)).latchBlocked.keys[p] =
    if m.keys[p] = .pressed ∨ m.keys[p] = .blocked then .latched else m.keys[p] := by
  have hmem : p ∈ m.positions .pressed ↔ m.keys[p] = .pressed := by
    rw [LaneScan.positions, List.mem_filter, beq_iff_eq]
    exact and_iff_right (List.mem_finRange p)
  unfold LaneScan.latchBlocked
  dsimp only
  rw [mapTab_getElem, latchAll_keys]
  by_cases hp : m.keys[p] = .pressed
  · rw [if_pos (hmem.mpr hp), if_pos (Or.inl hp)]
    rfl
  · rw [if_neg (mt hmem.mp hp)]
    by_cases hb : m.keys[p] = .blocked
    · rw [if_pos hb, if_pos (Or.inr hb)]
    · rw [if_neg hb, if_neg (not_or.mpr ⟨hp, hb⟩)]

theorem forced_eq (m : LaneScan) (ps : List (Fin 128)) : (m.latchAll ps).latchBlocked =
    { m with keys := (m.latchAll ps).latchBlocked.keys } := by
  simp only [LaneScan.latchBlocked, LaneScan.latchAll]

/-- Settles O19: assignment by the image and the lane, the forced switch by its steps. -/
theorem keymapSwitches : Obligations.KeymapSwitches := by
  refine ⟨fun s tag l i hw => ?_, fun s l i hr ht hi => ?_⟩
  · intro r m
    have hcarry := assignKeymap_num l i (s.dev.begin r)
    refine ⟨fun hno => ?_, fun hready hsame => ?_, fun hready hother hnow hroom => ?_, fun hready hother hsome hscan => ?_⟩
    · exact takeCode_of_answer (d := s.dev.begin r) hw rfl (hcarry.trans (if_neg hno)) rfl
    · have hassign : (s.dev.begin r).assignKeymap l i = _ := if_pos hsame
      exact takeCode_of_answer hw rfl ((hcarry.trans (if_pos hready)).trans (congrArg (fun x => answer x .done) hassign)) rfl
    · have hassign : (s.dev.begin r).assignKeymap l i = (s.dev.begin r).switchKeymap l i false := by
        refine (if_neg hother).trans (if_pos ?_)
        exact hnow.imp id Bool.eq_false_iff.mp
      rw [switchKeymap_eq (d := s.dev.begin r) i hroom] at hassign
      exact takeCode_of_answer hw rfl ((hcarry.trans (if_pos hready)).trans (congrArg (fun x => answer x .done) hassign)) rfl
    · have hassign : (s.dev.begin r).assignKeymap l i = _ := (if_neg hother).trans (if_neg (by
        rintro (h | h)
        · exact hsome h
        · exact h hscan))
      exact takeCode_of_answer hw rfl ((hcarry.trans (if_pos hready)).trans (congrArg (fun x => answer x .done) hassign)) rfl
  · intro d q x told released loses
    obtain ⟨n, hn⟩ := Option.isSome_iff_exists.mp ht
    have htouch := forcedSwitch_touches l d
    have hscanner := forcedSwitch_scanner d hn hi
    have htrans := forcedSwitch_trans d hn hi
    have hkeymaps := forcedSwitch_keymaps ht hi
    have hpool := forcedSwitch_pool (d := d) ht hi
    have hwithin := forcedSwitch_within d l
    have hrun : exec (.forcedKeymapSwitch l) s = .next { s with dev := forcedSwitch l d } :=
      (exec_forcedKeymapSwitch s l).trans ((s.runAt_of_lt _ _ l.isLt).trans (s.run_of_running _ hr))
    generalize forcedSwitch l d = y at hrun htouch hscanner htrans hkeymaps hpool hwithin
    have hlane : y.scanner.lanes[l] = { d.scanner.lanes[l] with keys := y.scanner.lanes[l].keys } := by
      rw [hscanner]
      dsimp only
      rw [upd_getElem_self]
      exact forced_eq _ _
    have hheld : y.trans[l] = { x with
        held := y.trans[l].held, owner := if loses then none else x.owner
        countdown := if loses then 0 else x.countdown } := by
      rw [htrans, upd_getElem_self]
      exact releaseAll_rest _ _
    refine ⟨_, hrun, rfl, fun p => ?_, fun p => ?_, hpool, hwithin.queues, ?_⟩
    · dsimp only
      rw [hscanner]
      dsimp only
      rw [upd_getElem_self, forced_keys]
    · dsimp only
      rw [htrans, upd_getElem_self]
      exact releaseAll_held _ _ p
    · dsimp only
      refine eq_of_blocks (htouch .lanes (by decide)) ?_ ?_ hkeymaps (htouch .ports (by decide))
        (htouch .rules (by decide)) (pool_eq_of_touches (d := d) htouch (by decide))
        (same_delivery (d := d) htouch (by decide) (by decide)) (htouch .drawers (by decide)) (htouch .tlu (by decide))
        (htouch .trunk (by decide)) (htouch .timeBase (by decide))
      · dsimp only
        rw [← hlane, hscanner]
        dsimp only
        rw [upd_getElem_self]
        rfl
      · dsimp only
        rw [← hheld, htrans, upd_getElem_self]
        rfl

end Sys2Proof.KeymapRequests

/-! ## Scanner ports: SET-PORT and characters (R73 to R83, R88) -/

namespace Sys2Proof.ScannerPorts

open Sys2Proof.Machine Sys2Proof.Claims Sys2Proof.Events Sys2Proof.OpenCounter Sys2Proof.LaneRequests
open Sys2Proof.BuffersKept

/-! ### SET-PORT -/

theorem rate_ofCode (rate : Fin 5) : ∃ x, PortRate.ofCode (num rate).toNat = some x ∧ x.code = rate := by
  fin_cases rate <;> exact ⟨_, rfl, rfl⟩

/-- A number brought into a range whose low end is 1, for one byte. -/
theorem clampTo_one (hi : Nat) (b : Byte) : clampTo 1 hi b.toNat = if b.toNat = 0 then min hi 1 else min hi b.toNat := by
  unfold clampTo
  by_cases h : b.toNat = 0
  · rw [if_pos h, h]
    rfl
  · rw [if_neg h]
    congr 1
    omega

theorem inTerminator_eq (b : Byte) : inTerminator b =
    (if b = 0xFF then none else if b.toNat = 0 then some 1 else if 128 ≤ b.toNat then some 127 else some b,
      decide (b.toNat = 0 ∨ 128 ≤ b.toNat ∧ b.toNat ≤ 254)) := by
  have hlt := b.isLt
  unfold inTerminator
  by_cases hff : b = 0xFF
  · subst hff
    rfl
  · have hne : b.toNat ≠ 255 := fun h => hff (BitVec.eq_of_toNat_eq h)
    rw [if_neg hne, if_neg hff, clampTo_one]
    by_cases h0 : b.toNat = 0
    · simp [h0, byteOf]
    · rw [if_neg h0, if_neg h0]
      by_cases hhigh : 128 ≤ b.toNat
      · have hmin : min 127 b.toNat = 127 := by omega
        have hin : b.toNat = 0 ∨ 128 ≤ b.toNat ∧ b.toNat ≤ 254 := .inr ⟨hhigh, by omega⟩
        have hdiff : 127 ≠ b.toNat := by omega
        rw [if_pos hhigh, hmin, decide_eq_true hdiff, decide_eq_true hin]
        rfl
      · have hmin : min 127 b.toNat = b.toNat := by omega
        have hout : ¬ (b.toNat = 0 ∨ 128 ≤ b.toNat ∧ b.toNat ≤ 254) := by omega
        rw [if_neg hhigh, hmin, decide_eq_false (not_not_intro rfl), decide_eq_false hout]
        exact congrArg (fun x => (some x, false)) (BitVec.ofNat_toNat 8 b)

theorem setPort_num (n : Fin 32) {rate : Fin 5} {x : PortRate} (hx : PortRate.ofCode (num rate).toNat = some x)
    (tb g : Byte) (on : Bool) (d : Device) : setPort [num n, num rate, tb, g, num (if on then 1 else 0)] d =
      answer (d.updPort n fun p =>
          { p with bitRate := x, terminator := (inTerminator tb).1, idleGap := max 1 g.toNat, enable := on }.follow
            (on && d.lanes[laneOf n].state == LaneState.opened))
        (if (tb.toNat = 0 ∨ 128 ≤ tb.toNat ∧ tb.toNat ≤ 254) ∨ g.toNat = 0 then .doneClamped else .done) := by
  have hon : inBool (num (if on then 1 else 0)) = some on := by cases on <;> rfl
  have hgap : clampTo 1 255 g.toNat = max 1 g.toNat := by
    have hlt := g.isLt
    unfold clampTo
    omega
  have hflag : ((inTerminator tb).2 || decide (max 1 g.toNat ≠ g.toNat)) =
      decide ((tb.toNat = 0 ∨ 128 ≤ tb.toNat ∧ tb.toNat ≤ 254) ∨ g.toNat = 0) := by
    rw [inTerminator_eq, Bool.eq_iff_iff]
    simp only [Bool.or_eq_true, decide_eq_true_eq]
    omega
  unfold setPort
  simp only [inIndex_num n (by decide), hx, hon, hgap]
  rw [hflag, doneOr]
  simp only [decide_eq_true_eq]

theorem follow_eq (p : Port) (o : Bool) : p.follow o = { p with state := (p.follow o).state } := by
  unfold Port.follow
  split <;> rfl

theorem follow_false (p : Port) : (p.follow false).state =
    if p.state = .active then
      (if p.current.any fun b => (p.buf b).state == .filling then .stopping else .disabled)
    else p.state := by
  by_cases hs : p.state = .active
  · rw [if_pos hs]
    unfold Port.follow
    rw [hs]
    cases p.current with
    | none => rfl
    | some b => rfl
  · rw [if_neg hs, follow_off hs]

theorem follow_stateOf (p : Port) (o : Bool) : (p.follow o).state = if o = true then .active else
    if p.state = .active then
      (if p.current.any fun b => (p.buf b).state == .filling then .stopping else .disabled)
    else p.state := by
  cases o with
  | true => rw [follow_on, if_pos rfl]
  | false => exact (follow_false p).trans (if_neg Bool.false_ne_true).symm

/-- Settles O20: the settings through the codings, the state through what a port makes of its enable and its lane. -/
theorem setPort : Obligations.SetPort := by
  intro s tag g n rate term tb on r p hw hterm
  obtain ⟨x, hx, hcode⟩ := rate_ofCode rate
  have hcarry := setPort_num n hx tb g on (s.dev.begin r)
  rw [inTerminator_eq, ← hterm] at hcarry
  have hport : (upd s.dev.ports n fun p => { p with
      bitRate := x, terminator := term, idleGap := max 1 g.toNat, enable := on }.follow
        (on && s.dev.lanes[laneOf n].state == LaneState.opened))[n] =
      { p with
        bitRate := x, terminator := term, idleGap := max 1 g.toNat, enable := on
        state := if (on && s.dev.lanes[laneOf n].state == LaneState.opened) = true then .active else
          if p.state = .active then
            (if p.current.any fun b => (p.buf b).state == .filling then .stopping else .disabled)
          else p.state } := by
    rw [upd_getElem_self, follow_eq, follow_stateOf]
    rfl
  have hopened (hon : on = true) (hopen : s.dev.lanes[laneOf n].state = .opened) :
      (on && s.dev.lanes[laneOf n].state == LaneState.opened) = true := by
    rw [hon, hopen]
    rfl
  have hoff (hno : on = false ∨ s.dev.lanes[laneOf n].state ≠ .opened) :
      (on && s.dev.lanes[laneOf n].state == LaneState.opened) = false := by
    rcases hno with hno | hno
    · rw [hno, Bool.false_and]
    · rw [beq_eq_false_iff_ne.mpr hno, Bool.and_false]
  have hother (m : Fin 32) (hm : m ≠ n) := upd_other s.dev.ports (fun p => { p with
      bitRate := x, terminator := term, idleGap := max 1 g.toNat, enable := on }.follow
        (on && s.dev.lanes[laneOf n].state == LaneState.opened)) hm
  refine ⟨_, takeCode_of_answer hw rfl hcarry rfl, rfl, ?_⟩
  generalize hps : (upd s.dev.ports n fun p => { p with
      bitRate := x, terminator := term, idleGap := max 1 g.toNat, enable := on }.follow
        (on && s.dev.lanes[laneOf n].state == LaneState.opened)) = ports at hport hother
  have hports (y : Device) (hy : y.ports = ports) : y.ports[n] = ports[n] := by rw [hy]
  refine ⟨?_, ?_, ?_, ?_, fun hon hopen => ?_, fun hno => ⟨?_, ?_⟩, ?_, ?_, ?_, ?_, ?_, fun m hm => ?_, rfl⟩
  · rw [hports _ hps, hport]
    exact hcode
  · rw [hports _ hps, hport]
  · rw [hports _ hps, hport]
  · rw [hports _ hps, hport]
  · rw [hports _ hps, hport]
    exact if_pos (hopened hon hopen)
  · rw [Device.readyLine, hports _ hps, hport, hoff hno, Port.ready]
    dsimp only
    rw [if_neg Bool.false_ne_true]
    split
    · split <;> rfl
    · next hs => rw [beq_eq_false_iff_ne.mpr hs, Bool.false_and]
  · rw [hports _ hps, hport, hoff hno]
    rfl
  · rw [hports _ hps, hport]
  · rw [hports _ hps, hport]
  · rw [hports _ hps, hport]
  · rw [hports _ hps, hport]
  · rw [hports _ hps, hport]
  · exact (congrArg (fun v : Table Port 32 => v[m]) hps).trans (hother m hm)

/-! ### Characters -/

theorem updPort_updPort (d : Device) (n : Fin 32) (f g : Port → Port) :
    (d.updPort n f).updPort n g = d.updPort n (g ∘ f) := by
  unfold Device.updPort
  rw [upd_upd]

theorem updPort_same (d : Device) (n : Fin 32) (f : Port → Port) : (d.updPort n f).ports[n] = f d.ports[n] :=
  upd_getElem_self _ _ _

theorem updPort_other (d : Device) {n m : Fin 32} (f : Port → Port) (h : m ≠ n) :
    (d.updPort n f).ports[m] = d.ports[m] := upd_other _ f h

/-- The port once the character's last bit has been received. -/
def received (d : Device) (n : Fin 32) : Device := d.updPort n fun p => { p with charRate := none }

theorem received_port (d : Device) (n : Fin 32) : (received d n).ports[n] = { d.ports[n] with charRate := none } :=
  updPort_same _ _ _

theorem character_discarded {d : Device} {n : Fin 32} (c : Byte) (good : Bool)
    (h : d.ports[n].state = .disabled ∨
      (d.ports[n].state = .stopping ∧ ∀ b, d.ports[n].current = some b → (d.ports[n].buf b).state ≠ .filling)) :
    scannerCharacter c good n d = d.updPort n fun p =>
      { p with charRate := none, cDiscarded := min 65535 (p.cDiscarded + 1) } := by
  have htwice : (received d n).updPort n (fun p => { p with cDiscarded := sat16 p.cDiscarded 1 }) =
      d.updPort n fun p => { p with charRate := none, cDiscarded := min 65535 (p.cDiscarded + 1) } := updPort_updPort _ _ _ _
  rw [← htwice]
  have hport := received_port d n
  unfold received at hport
  unfold scannerCharacter
  dsimp only
  rw [hport]
  dsimp only
  rcases h with h | ⟨h, hno⟩
  · rw [h]
    rfl
  · rw [h]
    cases hc : d.ports[n].current with
    | none => rfl
    | some b => exact if_neg (hno b hc)

theorem character_lost {d : Device} {n : Fin 32} (c : Byte) (good : Bool) (h : d.ports[n].state = .active)
    (hc : d.ports[n].current = none) : scannerCharacter c good n d = d.updPort n fun p =>
      { p with charRate := none, cOverrun := min 65535 (p.cOverrun + 1), overrun := true } := by
  have htwice : (received d n).updPort n (fun p => { p with cOverrun := sat16 p.cOverrun 1, overrun := true }) =
      d.updPort n fun p => { p with charRate := none, cOverrun := min 65535 (p.cOverrun + 1), overrun := true } :=
    updPort_updPort _ _ _ _
  rw [← htwice]
  have hport := received_port d n
  unfold received at hport
  unfold scannerCharacter
  dsimp only
  rw [hport]
  dsimp only
  rw [h, hc]
  rfl

theorem character_recorded {d : Device} {n : Fin 32} {b : BufferId} (c : Byte) (good : Bool)
    (hc : d.ports[n].current = some b)
    (h : d.ports[n].state = .active ∨ (d.ports[n].state = .stopping ∧ (d.ports[n].buf b).state = .filling)) :
    scannerCharacter c good n d = (received d n).recordChar n b c good := by
  have hport := received_port d n
  unfold received at hport
  unfold scannerCharacter
  dsimp only
  rw [hport]
  dsimp only
  rcases h with h | ⟨h, hf⟩
  · rw [h, hc]
    rfl
  · rw [h, hc]
    exact if_pos hf

theorem isTerminator_iff (p : Port) (c : Byte) (good : Bool) :
    p.isTerminator c good = true ↔ good = true ∧ p.terminator = some c := by
  rw [Port.isTerminator, Bool.and_eq_true, beq_iff_eq]

theorem recordChar_ends {d : Device} {n : Fin 32} {b : BufferId} {c : Byte} {good : Bool}
    (ht : good = true ∧ d.ports[n].terminator = some c) (hf : (d.ports[n].buf b).state = .filling) :
    d.recordChar n b c good = d.recordEnd n b := by
  unfold Device.recordChar
  dsimp only
  rw [if_pos ((isTerminator_iff _ _ _).mpr ht), if_pos hf]

theorem recordChar_ignored {d : Device} {n : Fin 32} {b : BufferId} {c : Byte} {good : Bool}
    (ht : good = true ∧ d.ports[n].terminator = some c) (hf : (d.ports[n].buf b).state ≠ .filling) :
    d.recordChar n b c good = d := by
  unfold Device.recordChar
  dsimp only
  rw [if_pos ((isTerminator_iff _ _ _).mpr ht), if_neg hf]

theorem recordChar_stored {d : Device} {n : Fin 32} {c : Byte} {good : Bool} (b : BufferId)
    (ht : ¬ (good = true ∧ d.ports[n].terminator = some c)) :
    d.recordChar n b c good = d.updPort n fun p => (p.beginRecord b).storeChar b c good := by
  unfold Device.recordChar
  dsimp only
  rw [if_neg (mt (isTerminator_iff _ _ _).mp ht)]

theorem beginRecord_free {p : Port} {b : BufferId} (h : (p.buf b).state = .free) : p.beginRecord b =
    { p.setBuf b { state := .filling, chars := [], received := 0 } with
      markDamaged := false, markOverlength := false, markOverrun := p.overrun, badCount := 0, overrun := false } := if_pos h

theorem beginRecord_filling {p : Port} {b : BufferId} (h : (p.buf b).state = .filling) : p.beginRecord b = p :=
  if_neg (by rw [h]; decide)

/-- The first character of a record. -/
theorem begun_port {p : Port} {b : BufferId} (h : (p.buf b).state = .free) (c : Byte) (good : Bool) :
    let x := (p.beginRecord b).storeChar b c good
    x.buf b = { state := .filling, chars := [c], received := 1 } ∧ x.markOverrun = p.overrun ∧ x.overrun = false ∧
    x.markDamaged = !good ∧ x.badCount = (if good then 0 else 1) ∧ x.markOverlength = false ∧
    x.idleTimer = some p.idleGap ∧ x.current = p.current := by
  rw [beginRecord_free h]
  cases b <;> cases good <;> exact ⟨rfl, rfl, rfl, rfl, rfl, rfl, rfl, rfl⟩

/-- A further character of a record. -/
theorem stored_port {p : Port} {b : BufferId} (h : (p.buf b).state = .filling) (c : Byte) (good : Bool) :
    let x := (p.beginRecord b).storeChar b c good
    (x.buf b).state = .filling ∧ (x.buf b).received = min 65535 ((p.buf b).received + 1) ∧
    (x.buf b).chars = (if (p.buf b).received < 48 then (p.buf b).chars ++ [c] else (p.buf b).chars) ∧
    x.markOverlength = (p.markOverlength || (p.buf b).received == 48) ∧ x.markDamaged = (p.markDamaged || !good) ∧
    x.idleTimer = some p.idleGap := by
  have hbuf : ((p.beginRecord b).storeChar b c good).buf b = { p.buf b with
      received := sat16 (p.buf b).received 1
      chars := if sat16 (p.buf b).received 1 ≤ 48 then (p.buf b).chars ++ [c] else (p.buf b).chars } := by
    rw [beginRecord_filling h]
    cases b <;> rfl
  have hrest : ((p.beginRecord b).storeChar b c good).markOverlength =
        (p.markOverlength || sat16 (p.buf b).received 1 == 49) ∧
      ((p.beginRecord b).storeChar b c good).markDamaged = (p.markDamaged || !good) ∧
      ((p.beginRecord b).storeChar b c good).idleTimer = some p.idleGap := by
    rw [beginRecord_filling h]
    cases b <;> exact ⟨rfl, rfl, rfl⟩
  obtain ⟨hover, hdamaged, hidle⟩ := hrest
  have hshort : sat16 (p.buf b).received 1 ≤ 48 ↔ (p.buf b).received < 48 := by
    unfold sat16
    omega
  have hlast : (sat16 (p.buf b).received 1 == 49) = ((p.buf b).received == 48) := by
    rw [Bool.eq_iff_iff, beq_iff_eq, beq_iff_eq]
    unfold sat16
    omega
  dsimp only
  rw [hbuf, hover, hlast]
  refine ⟨h, rfl, ?_, rfl, hdamaged, hidle⟩
  dsimp only
  exact if_congr hshort rfl rfl

/-- The end of a record stops the idle timer, so it does not matter where that stood. -/
theorem recordEnd_idle (d : Device) (n : Fin 32) (b : BufferId) (x : Option Nat) :
    (d.updPort n fun p => { p with idleTimer := x }).recordEnd n b = d.recordEnd n b := by
  have hcount : (d.updPort n fun p => { p with idleTimer := x }).updPort n Port.countRecord =
      d.updPort n Port.countRecord := updPort_updPort _ _ _ _
  have hbuf (p : Port) : ({ p with idleTimer := x } : Port).buf b = p.buf b := by cases b <;> rfl
  unfold Device.recordEnd
  dsimp only
  rw [hcount, updPort_same, hbuf]
  rfl

theorem exec_character {s : State} (hr : s.dev.inReset = false) (n : Fin 32) (c : Byte) (good : Bool) :
    exec (.scannerCharacter n c good) s = .next { s with dev := scannerCharacter c good n s.dev } :=
  (exec_scannerCharacter s n c good).trans ((s.runAt_of_lt _ _ n.isLt).trans (s.run_of_running _ hr))

theorem exec_idleGap {s : State} (hr : s.dev.inReset = false) (n : Fin 32) :
    exec (.idleGapExpiry n) s = .next { s with dev := idleExpiry n s.dev } :=
  (exec_idleGapExpiry s n).trans ((s.runAt_of_lt _ _ n.isLt).trans (s.run_of_running _ hr))

theorem idleExpiry_ends {d : Device} {n : Fin 32} {b : BufferId} (ht : d.ports[n].idleTimer.isSome)
    (hc : d.ports[n].current = some b) (hf : (d.ports[n].buf b).state = .filling) :
    idleExpiry n d = d.recordEnd n b := by
  obtain ⟨x, hx⟩ := Option.isSome_iff_exists.mp ht
  unfold idleExpiry
  dsimp only
  rw [hx, hc]
  exact if_pos hf

/-! ### Record ends -/

/-- The port as the classifier finds it: the record counted and its buffer HELD. -/
def holding (b : BufferId) (p : Port) : Port := p.countRecord.setBuf b { p.buf b with state := .held }

theorem recordEnd_faulted {d : Device} {n : Fin 32} (b : BufferId)
    (h : d.ports[n].markDamaged = true ∨ d.ports[n].markOverlength = true) : d.recordEnd n b =
      ((d.updPort n Port.countRecord).offer (laneQueue (laneOf n))
        (faultNotice n d.ports[n] (d.ports[n].buf b).received)).updPort n fun p => ended p b freeBuffer := by
  have hmark : (d.ports[n].markDamaged || d.ports[n].markOverlength) = true := Bool.or_eq_true_iff.mpr h
  unfold Device.recordEnd
  dsimp only
  rw [if_pos hmark, updPort_updPort]
  rfl

theorem recordEnd_sound {d : Device} {n : Fin 32} (b : BufferId) (hd : d.ports[n].markDamaged = false)
    (ho : d.ports[n].markOverlength = false) : d.recordEnd n b =
      ((d.updPort n (holding b)).classify n b).updPort n fun p => (p.nextBuffer b).endStopping := by
  have hmark : ¬ (d.ports[n].markDamaged || d.ports[n].markOverlength) = true := by
    rw [hd, ho]
    decide
  unfold Device.recordEnd
  dsimp only
  rw [if_neg hmark, updPort_updPort]
  rfl

/-- The rule that classifies the record in a buffer, and what becomes of the record. -/
def ruleOf (d : Device) (n : Fin 32) (b : BufferId) : Option (Fin 32) :=
  d.rules.firstMatch (laneOf n) (d.ports[n].buf b).chars

def outcome (d : Device) (n : Fin 32) (b : BufferId) : ScanOutcome :=
  outcomeOf ((ruleOf d n b).map fun i => (i, d.rules.active[i].rule)) d.lanes[laneOf n].active.noMatch
    (d.ports[n].buf b).chars

theorem classify_drop {d : Device} {n : Fin 32} {b : BufferId} (h : outcome d n b = .drop) : d.classify n b =
    (d.countMatch (ruleOf d n b)).updPort n fun p =>
      { p with overrun := p.overrun || d.ports[n].markOverrun }.release b := by
  unfold outcome ruleOf at h
  unfold Device.classify ruleOf
  dsimp only
  rw [h]
  exact updPort_updPort _ _ _ _

/-- The notice of a SCAN event. -/
def scanNotice (d : Device) (n : Fin 32) (b : BufferId) (k : Kind) (x y start len : Nat) : Notice :=
  { kind := k, overrun := d.ports[n].markOverrun, source := some (sideOf n), detail1 := byteOf x, detail2 := byteOf y
    body := .buffer n b start len }

theorem classify_event {d : Device} {n : Fin 32} {b : BufferId} {k : Kind} {x y start len : Nat}
    (h : outcome d n b = .event k x y start len) : d.classify n b =
    ((d.countMatch (ruleOf d n b)).offer (laneQueue (laneOf n)) (scanNotice d n b k x y start len)).requestToneOpt
      (laneOf n) (readTone d.lanes[laneOf n].active k) := by
  unfold outcome ruleOf at h
  unfold Device.classify ruleOf
  dsimp only
  rw [h]
  rfl

theorem countMatch_ports (d : Device) (m : Option (Fin 32)) : (d.countMatch m).ports = d.ports :=
  countMatch_touches d m .ports (by decide)

/-- What an offer of a SCAN event makes of its port: the record is lost with its buffer if the queue is full. -/
theorem scan_offer_ports (d : Device) {n : Fin 32} {b : BufferId} {v : Notice} {i j : Nat} (hv : v.body = .buffer n b i j)
    (q : Fin 17) : (d.offer q v).ports =
      if d.pool.lanes[q].queue.length < 8 then d.ports else upd d.ports n fun p => p.release b := by
  rw [Machine.offer_ports, hv]
  rfl

theorem classify_ports (d : Device) (n : Fin 32) (b : BufferId) :
    (outcome d n b = .drop ∧ (d.classify n b).ports = upd d.ports n fun p =>
      { p with overrun := p.overrun || d.ports[n].markOverrun }.release b) ∨
    (outcome d n b ≠ .drop ∧ (d.classify n b).ports =
      if room d (laneQueue (laneOf n)) 1 then d.ports else upd d.ports n fun p => p.release b) := by
  cases h : outcome d n b with
  | drop =>
    rw [classify_drop h, Device.updPort_ports, countMatch_ports]
    exact .inl ⟨rfl, rfl⟩
  | event k x y start len =>
    have hpool : (d.countMatch (ruleOf d n b)).pool = d.pool := same_pool (countMatch_touches d _) (by decide) (by decide)
    rw [classify_event h, Device.requestToneOpt_ports,
      scan_offer_ports _ (v := scanNotice d n b k x y start len) rfl, countMatch_ports, hpool]
    exact .inr ⟨nofun, if_congr (by unfold room; omega) rfl rfl⟩

theorem recordEnd_others (d : Device) {n m : Fin 32} (b : BufferId) (h : m ≠ n) :
    (d.recordEnd n b).ports[m] = d.ports[m] := by
  by_cases hmark : d.ports[n].markDamaged = true ∨ d.ports[n].markOverlength = true
  · have hoffer : ((d.updPort n Port.countRecord).offer (laneQueue (laneOf n))
        (faultNotice n d.ports[n] (d.ports[n].buf b).received)).ports = (d.updPort n Port.countRecord).ports :=
      tell_touches _ _ _ (faultNotice_bufferless n _ _) .ports (by decide)
    rw [recordEnd_faulted b hmark, updPort_other _ _ h, hoffer, updPort_other _ _ h]
  · obtain ⟨hd, ho⟩ := not_or.mp hmark
    have hhold : (d.updPort n (holding b)).ports[m] = d.ports[m] := updPort_other _ _ h
    rw [recordEnd_sound b (Bool.eq_false_iff.mpr hd) (Bool.eq_false_iff.mpr ho), updPort_other _ _ h]
    rcases classify_ports (d.updPort n (holding b)) n b with ⟨-, hports⟩ | ⟨-, hports⟩
    · rw [hports, upd_other _ _ h, hhold]
    · rw [hports]
      split
      · exact hhold
      · rw [upd_other _ _ h, hhold]

/-- A character changes its port alone, or it ends the record in the current buffer. -/
theorem character_cases (d : Device) (n : Fin 32) (c : Byte) (good : Bool) :
    (∃ f, scannerCharacter c good n d = d.updPort n f) ∨
    ∃ b, d.ports[n].state ≠ .disabled ∧ d.ports[n].current = some b ∧ (d.ports[n].buf b).state = .filling ∧
      (good = true ∧ d.ports[n].terminator = some c) ∧
      scannerCharacter c good n d = (received d n).recordEnd n b := by
  have hreceived := received_port d n
  have hbuf (a : BufferId) : ({ d.ports[n] with charRate := none } : Port).buf a = d.ports[n].buf a := by
    cases a <;> rfl
  have hrecord (b : BufferId) (hc : d.ports[n].current = some b)
      (h : d.ports[n].state = .active ∨ (d.ports[n].state = .stopping ∧ (d.ports[n].buf b).state = .filling)) :
      (∃ f, scannerCharacter c good n d = d.updPort n f) ∨
      ((d.ports[n].buf b).state = .filling ∧ (good = true ∧ d.ports[n].terminator = some c) ∧
        scannerCharacter c good n d = (received d n).recordEnd n b) := by
    rw [character_recorded c good hc h]
    by_cases ht : good = true ∧ d.ports[n].terminator = some c
    · have ht' : good = true ∧ (received d n).ports[n].terminator = some c := by
        rw [hreceived]
        exact ht
      by_cases hf : (d.ports[n].buf b).state = .filling
      · exact .inr ⟨hf, ht, recordChar_ends ht' (by rw [hreceived, hbuf]; exact hf)⟩
      · exact .inl ⟨_, recordChar_ignored ht' (by rw [hreceived, hbuf]; exact hf)⟩
    · have hstored : (received d n).recordChar n b c good = _ :=
        recordChar_stored b (by rw [hreceived]; exact ht)
      exact .inl ⟨_, hstored.trans (updPort_updPort _ _ _ _)⟩
  cases hs : d.ports[n].state with
  | disabled => exact .inl ⟨_, character_discarded c good (.inl hs)⟩
  | active =>
    cases hc : d.ports[n].current with
    | none => exact .inl ⟨_, character_lost c good hs hc⟩
    | some b =>
      rcases hrecord b hc (.inl hs) with h | ⟨hf, ht, h⟩
      · exact .inl h
      · exact .inr ⟨b, by decide, rfl, hf, ht, h⟩
  | stopping =>
    by_cases hno : ∀ b, d.ports[n].current = some b → (d.ports[n].buf b).state ≠ .filling
    · exact .inl ⟨_, character_discarded c good (.inr ⟨hs, hno⟩)⟩
    · simp only [not_forall, not_not] at hno
      obtain ⟨b, hc, hf⟩ := hno
      rcases hrecord b hc (.inr ⟨hs, hf⟩) with h | ⟨-, ht, h⟩
      · exact .inl h
      · exact .inr ⟨b, by decide, hc, hf, ht, h⟩

/-- Settles O21: by the port's state, its current buffer and the terminator. -/
theorem scannerCharacter : Obligations.ScannerCharacter := by
  intro s n b c good hr p
  have hreceived := received_port s.dev n
  have hbuf (a : BufferId) : ({ p with charRate := none } : Port).buf a = p.buf a := by cases a <;> rfl
  have hend (ht : good = true ∧ p.terminator = some c) (hs : p.state = .active ∨ p.state = .stopping)
      (hc : p.current = some b) (hf : (p.buf b).state = .filling) :
      Machine.scannerCharacter c good n s.dev = (received s.dev n).recordEnd n b :=
    (character_recorded c good hc (hs.imp id fun h => ⟨h, hf⟩)).trans
      (recordChar_ends (by rw [hreceived]; exact ht) (by rw [hreceived, hbuf]; exact hf))
  have hstore (ht : ¬ (good = true ∧ p.terminator = some c)) (hc : p.current = some b)
      (hs : p.state = .active ∨ (p.state = .stopping ∧ (p.buf b).state = .filling)) :
      Machine.scannerCharacter c good n s.dev =
        (received s.dev n).updPort n fun p => (p.beginRecord b).storeChar b c good :=
    (character_recorded c good hc hs).trans (recordChar_stored b (by rw [hreceived]; exact ht))
  have hopen {g : Bool} {t : Option Byte} (h : g = false ∨ t ≠ some c) : ¬ (g = true ∧ t = some c) := by
    rintro ⟨hg, ht⟩
    rcases h with h | h
    · cases h.symm.trans hg
    · exact h ht
  refine ⟨_, exec_character hr n c good, rfl, fun hs => ?_, fun hs hc => ?_, fun hs hc hf hg ht => ?_,
    fun hs hc hf ht => ?_, fun hs hc hf ht => ?_, fun hs hc hf => ?_, fun hs hc hf hg ht => ?_, fun m hm => ?_,
    fun hno hc => ?_⟩
  · rw [character_discarded c good (.inl hs)]
    rfl
  · rw [character_lost c good hs hc]
    rfl
  · rw [character_recorded c good hc (.inl hs), recordChar_ignored (by rw [hreceived]; exact ⟨hg, ht⟩)
      (by rw [hreceived, hbuf, hf]; decide)]
    rfl
  · have hport := begun_port (p := { p with charRate := none }) (b := b) (by rw [hbuf]; exact hf) c good
    rw [hstore (hopen ht) hc (.inl hs), updPort_same, hreceived]
    obtain ⟨h1, h2, h3, h4, h5, h6, h7, h8⟩ := hport
    exact ⟨h1, h2, h3, h4, h5, h6, h7, h8.trans hc⟩
  · have hport := stored_port (p := { p with charRate := none }) (b := b) (by rw [hbuf]; exact hf) c good
    rw [hstore (hopen ht) hc (hs.imp id fun h => ⟨h, hf⟩), updPort_same, hreceived]
    rw [hbuf] at hport
    exact hport
  · have hnone : ∀ a, p.current = some a → (p.buf a).state ≠ .filling := fun a ha => by
      cases hc.symm.trans ha
      exact hf
    rw [character_discarded c good (.inr ⟨hs, hnone⟩)]
    rfl
  · rw [hend ⟨hg, ht⟩ hs hc hf]
    refine (exec_idleGap (by exact hr) n).trans ?_
    have hidle : ({ s.dev with ports := s.dev.ports.set n { p with charRate := none, idleTimer := some 0 } } : Device) =
        (received s.dev n).updPort n fun p => { p with idleTimer := some 0 } := by
      rw [received, updPort_updPort]
      rfl
    have hport : ((received s.dev n).updPort n fun p => { p with idleTimer := some 0 }).ports[n] =
        { p with charRate := none, idleTimer := some 0 } := by rw [updPort_same, hreceived]
    have hfill : (({ p with charRate := none, idleTimer := some 0 } : Port).buf b).state = .filling := by
      cases b <;> exact hf
    refine (congrArg (fun x => Host.Outcome.next { s with dev := idleExpiry n x }) hidle).trans ?_
    rw [idleExpiry_ends (b := b) (by rw [hport]; rfl) (by rw [hport]; exact hc) (by rw [hport]; exact hfill),
      recordEnd_idle]
  · rcases character_cases s.dev n c good with ⟨f, hf⟩ | ⟨a, -, -, -, -, hf⟩
    · rw [hf]
      exact updPort_other _ _ hm
    · rw [hf]
      exact (recordEnd_others _ a hm).trans (updPort_other _ _ hm)
  · rcases character_cases s.dev n c good with ⟨f, hf⟩ | ⟨a, hs, ha, hfill, ht, -⟩
    · rw [hf]
      rfl
    · rcases hc with hc | hc
      · cases hc.symm.trans ha
        exact absurd ⟨hs, hc, hfill, ht⟩ hno
      · cases hc.symm.trans ha

end Sys2Proof.ScannerPorts

/-! ## The ends of records (R78, R79, R84, R92 to R99) -/

namespace Sys2Proof.RecordEnds

open Sys2Proof.Machine Sys2Proof.Claims Sys2Proof.Events Sys2Proof.OpenCounter
open Sys2Proof.BuffersKept Sys2Proof.ScannerPorts

/-! ### The port after the end of a record -/

theorem ended_free (p : Port) (b : BufferId) : ended p b freeBuffer = { p.setBuf b freeBuffer with
    state := if p.state = .stopping then .disabled else p.state } := by
  have hnext : (p.setBuf b freeBuffer).nextBuffer b = p.setBuf b freeBuffer := by
    refine if_neg ?_
    rw [setBuf_buf, if_pos rfl]
    decide
  unfold ended
  rw [hnext, endStopping_eq, (setBuf_rest p b freeBuffer).2.1]

/-- A HELD buffer that is released again leaves the port as if its record had been discarded. -/
theorem released_port {p : Port} {b : BufferId} (hc : p.current = some b) (o : Bool) :
    (({ holding b p with overrun := o }.release b).nextBuffer b).endStopping =
      ended { p.countRecord with overrun := o } b freeBuffer := by
  have hrel := release_setBuf (p := { p.countRecord with overrun := o }) (b := b) hc (p.buf b)
  have hset : ({ holding b p with overrun := o } : Port) =
      { p.countRecord with overrun := o }.setBuf b { p.buf b with state := .held } := by cases b <;> rfl
  rw [hset, hrel]
  rfl

theorem held_port (b : BufferId) (p : Port) : ((holding b p).nextBuffer b).endStopping = { holding b p with
    current := if (p.buf b.other).state = .free then some b.other else none
    state := if p.state = .stopping then .disabled else p.state } := by
  have hheld : ((holding b p).buf b).state = .held := by cases b <;> rfl
  have hother : (holding b p).buf b.other = p.buf b.other := by cases b <;> rfl
  have hnext : (holding b p).nextBuffer b = { holding b p with
      current := if (p.buf b.other).state = .free then some b.other else none } := by
    rw [← hother]
    exact if_pos hheld
  rw [hnext, endStopping_eq]
  cases b <;> rfl

/-- What every end of a record makes of its port, whatever becomes of the buffer. -/
structure Counted (p q : Port) (b : BufferId) : Prop where
  records : q.cRecords = min 65535 (p.cRecords + 1)
  idle : q.idleTimer = none
  state : q.state = if p.state = .stopping then .disabled else p.state
  other : q.buf b.other = p.buf b.other

theorem counted_free (p : Port) (b : BufferId) (o : Bool) :
    Counted p (ended { p.countRecord with overrun := o } b freeBuffer) b := by
  rw [ended_free]
  cases b <;> exact ⟨rfl, rfl, rfl, rfl⟩

theorem counted_held (p : Port) (b : BufferId) : Counted p (((holding b p).nextBuffer b).endStopping) b := by
  rw [held_port]
  cases b <;> exact ⟨rfl, rfl, rfl, rfl⟩

/-! ### A faulted record -/

theorem exec_startBit {s : State} (hr : s.dev.inReset = false) (n : Fin 32) :
    exec (.scannerStartBit n) s = .next { s with dev := startBit n s.dev } :=
  (exec_scannerStartBit s n).trans ((s.runAt_of_lt _ _ n.isLt).trans (s.run_of_running _ hr))

theorem faulted_pool {d : Device} {n : Fin 32} (b : BufferId)
    (h : d.ports[n].markDamaged = true ∨ d.ports[n].markOverlength = true)
    (hroom : room d (laneQueue (laneOf n)) 1) :
    let p := d.ports[n]
    let e := entryOf d (laneQueue (laneOf n)) (if p.markDamaged then .scanDamaged else .scanOverlength)
      (drawerSource n) (if p.markDamaged then p.badCount else (p.buf b).received % 256)
      (if p.markDamaged then min 255 (p.buf b).received else (p.buf b).received / 256) .absent
    d.recordEnd n b = { d with
      ports := upd d.ports n fun p => ended p.countRecord b freeBuffer
      pool := appended d.pool (laneQueue (laneOf n)) { ev := { e.ev with overrun := p.markOverrun }, body := .absent } } := by
  intro p e
  have hoffer := offer_eq_appended (d := d.updPort n Port.countRecord) (faultNotice n p (p.buf b).received) hroom
  have hentry : ({ ev := (d.updPort n Port.countRecord).eventOf (laneQueue (laneOf n)) (faultNotice n p (p.buf b).received)
                   body := (faultNotice n p (p.buf b).received).body } : Entry) =
      { ev := { e.ev with overrun := p.markOverrun }, body := .absent } := by
    simp only [e, faultNotice]
    cases p.markDamaged <;> rfl
  rw [recordEnd_faulted b h, hoffer, hentry]
  unfold Device.updPort
  dsimp only
  rw [upd_upd]
  rfl

theorem faulted_port (p : Port) {b : BufferId} (h : p.markDamaged = true ∨ p.markOverlength = true) :
    let q := ended p.countRecord b freeBuffer
    q.buf b = freeBuffer ∧ q.current = p.current ∧ q.idleTimer = none ∧
    q.state = (if p.state = .stopping then .disabled else p.state) ∧ q.cRecords = min 65535 (p.cRecords + 1) ∧
    q.cDamaged = min 65535 (p.cDamaged + if p.markDamaged then 1 else 0) ∧
    q.cOverlength = min 65535 (p.cOverlength + if p.markDamaged then 0 else 1) := by
  have hover : bit (p.markOverlength && !p.markDamaged) = if p.markDamaged then 0 else 1 := by
    cases hd : p.markDamaged with
    | true => simp [bit]
    | false => simp [bit, h.resolve_left (by simp [hd])]
  intro q
  have hq : q = { p.countRecord.setBuf b freeBuffer with
      state := if p.state = .stopping then .disabled else p.state } := ended_free p.countRecord b
  rw [hq, ← hover]
  cases b <;> exact ⟨rfl, rfl, rfl, rfl, rfl, rfl, rfl⟩

/-! ### A sound record -/

theorem mod10_ne_none (data : List Byte) : mod10 data ≠ .none := by
  unfold mod10
  split
  · decide
  · split
    · decide
    · split
      · split <;> decide
      · decide

/-- The outcome of a record, as the statements tell it. -/
theorem outcomeOf_eq (rule : Option (Fin 32 × ScanRule)) (policy : NoMatchPolicy) (chars : List Byte) :
    outcomeOf rule policy chars = match scanEvent rule policy chars with
      | none => .drop
      | some (k, d1, d2, start, len) => .event k d1 d2 start len := by
  unfold outcomeOf scanEvent
  cases rule with
  | none => cases policy <;> rfl
  | some x =>
    obtain ⟨i, r⟩ := x
    cases ha : r.action with
    | rejectSilent => simp [ha]
    | rejectReport => simp [ha]
    | accept =>
      cases hc : r.check with
      | none =>
        simp only [ha, hc, acceptOutcome, List.length_drop]
        rfl
      | mod10 =>
        have hne := mod10_ne_none (chars.drop r.strip)
        simp only [ha, hc, acceptOutcome, List.length_drop]
        cases hm : mod10 (chars.drop r.strip) with
        | none => exact absurd hm hne
        | passed => rfl
        | notNumeric | badLength | mismatch => rfl

/-- The part with a sound record held for its classification. -/
def held (d : Device) (n : Fin 32) (b : BufferId) : Device := d.updPort n (holding b)

theorem held_port_eq (d : Device) (n : Fin 32) (b : BufferId) : (held d n b).ports[n] = holding b d.ports[n] :=
  updPort_same _ _ _

theorem held_chars (d : Device) (n : Fin 32) (b : BufferId) :
    ((held d n b).ports[n].buf b).chars = (d.ports[n].buf b).chars := by
  rw [held_port_eq]
  cases b <;> rfl

theorem held_ruleOf (d : Device) (n : Fin 32) (b : BufferId) : ruleOf (held d n b) n b = ruleOf d n b := by
  unfold ruleOf
  rw [held_chars]
  rfl

theorem held_outcome (d : Device) (n : Fin 32) (b : BufferId) : outcome (held d n b) n b = outcome d n b := by
  unfold outcome
  rw [held_ruleOf, held_chars]
  rfl

theorem held_overrun (d : Device) (n : Fin 32) (b : BufferId) :
    (held d n b).ports[n].markOverrun = d.ports[n].markOverrun := by
  rw [held_port_eq]
  cases b <;> rfl

theorem countMatch_rules (d : Device) (m : Option (Fin 32)) : (d.countMatch m).rules.shadow = d.rules.shadow ∧
    ∀ i : Fin 32, (d.countMatch m).rules.active[i] = if m = some i then
      { d.rules.active[i] with hits := min 65535 (d.rules.active[i].hits + 1) } else d.rules.active[i] := by
  cases m with
  | none => exact ⟨rfl, fun i => (if_neg nofun).symm⟩
  | some j =>
    refine ⟨rfl, fun i => ?_⟩
    refine (upd_getElem d.rules.active j i _).trans ?_
    by_cases hi : i = j
    · subst hi
      rw [if_pos rfl, if_pos rfl]
      rfl
    · rw [if_neg hi, if_neg fun h => hi (Option.some.inj h).symm]

theorem classify_rules (d : Device) (n : Fin 32) (b : BufferId) :
    (d.classify n b).rules = (d.countMatch (ruleOf d n b)).rules := by
  cases h : outcome d n b with
  | drop => rw [classify_drop h, Device.updPort_rules]
  | event k x y start len => rw [classify_event h, Device.requestToneOpt_rules, Device.offer_rules]

theorem sound_rules {d : Device} {n : Fin 32} (b : BufferId) (hd : d.ports[n].markDamaged = false)
    (ho : d.ports[n].markOverlength = false) :
    (d.recordEnd n b).rules = ((held d n b).countMatch (ruleOf d n b)).rules := by
  have hrules : (d.recordEnd n b).rules = ((held d n b).classify n b).rules := by
    rw [recordEnd_sound b hd ho, Device.updPort_rules]
    rfl
  rw [hrules, classify_rules, held_ruleOf]

/-- The port of a sound record that has ended: the buffer HELD, or FREE again. -/
theorem sound_port {d : Device} {n : Fin 32} {b : BufferId} (hc : d.ports[n].current = some b)
    (hd : d.ports[n].markDamaged = false) (ho : d.ports[n].markOverlength = false) :
    (outcome d n b = .drop ∧ (d.recordEnd n b).ports[n] =
      ended { d.ports[n].countRecord with overrun := d.ports[n].overrun || d.ports[n].markOverrun } b freeBuffer) ∨
    (outcome d n b ≠ .drop ∧ (d.recordEnd n b).ports[n] =
      if room d (laneQueue (laneOf n)) 1 then ((holding b d.ports[n]).nextBuffer b).endStopping
      else ended d.ports[n].countRecord b freeBuffer) := by
  have hport : (d.recordEnd n b).ports[n] = (((held d n b).classify n b).ports[n].nextBuffer b).endStopping := by
    rw [recordEnd_sound b hd ho, updPort_same]
    rfl
  have hover : (holding b d.ports[n]).overrun = d.ports[n].overrun := by cases b <;> rfl
  rw [hport]
  rcases classify_ports (held d n b) n b with ⟨hdrop, hports⟩ | ⟨hevent, hports⟩
  · refine .inl ⟨(held_outcome d n b).symm.trans hdrop, ?_⟩
    rw [hports, upd_getElem_self, held_port_eq]
    refine Eq.trans ?_ (released_port hc (d.ports[n].overrun || d.ports[n].markOverrun))
    cases b <;> rfl
  · refine .inr ⟨held_outcome d n b ▸ hevent, ?_⟩
    rw [hports]
    by_cases hroom : room d (laneQueue (laneOf n)) 1
    · have hroom' : room (held d n b) (laneQueue (laneOf n)) 1 := hroom
      rw [if_pos hroom, if_pos hroom', held_port_eq]
    · have hroom' : ¬ room (held d n b) (laneQueue (laneOf n)) 1 := hroom
      rw [if_neg hroom, if_neg hroom', upd_getElem_self, held_port_eq]
      have hsame : ({ holding b d.ports[n] with overrun := d.ports[n].overrun } : Port) = holding b d.ports[n] := by
        rw [← hover]
      have hrel := released_port hc d.ports[n].overrun
      rw [hsame] at hrel
      exact hrel

theorem sound_counted {d : Device} {n : Fin 32} {b : BufferId} (hc : d.ports[n].current = some b)
    (hd : d.ports[n].markDamaged = false) (ho : d.ports[n].markOverlength = false) :
    Counted d.ports[n] (d.recordEnd n b).ports[n] b := by
  rcases sound_port hc hd ho with ⟨-, h⟩ | ⟨-, h⟩
  · rw [h]
    exact counted_free _ b _
  · rw [h]
    split
    · exact counted_held _ b
    · exact counted_free _ b d.ports[n].overrun

theorem sound_drop {d : Device} {n : Fin 32} {b : BufferId} (hd : d.ports[n].markDamaged = false)
    (ho : d.ports[n].markOverlength = false) (h : outcome d n b = .drop) :
    (d.recordEnd n b).pool = d.pool ∧ (d.recordEnd n b).tlu = d.tlu := by
  have ht := countMatch_touches (held d n b) (ruleOf (held d n b) n b)
  rw [recordEnd_sound b hd ho, Device.updPort_pool, Device.updPort_tlu]
  change ((held d n b).classify n b).pool = d.pool ∧ ((held d n b).classify n b).tlu = d.tlu
  rw [classify_drop ((held_outcome d n b).trans h), Device.updPort_pool, Device.updPort_tlu]
  exact ⟨same_pool (d := held d n b) ht (by decide) (by decide), ht .tlu (by decide)⟩

theorem sound_event {d : Device} {n : Fin 32} {b : BufferId} (hd : d.ports[n].markDamaged = false)
    (ho : d.ports[n].markOverlength = false) {k : Kind} {x y start len : Nat}
    (h : outcome d n b = .event k x y start len) :
    let e := entryOf d (laneQueue (laneOf n)) k (drawerSource n) x y (.buffer n b start len)
    (room d (laneQueue (laneOf n)) 1 → (d.recordEnd n b).pool = appended d.pool (laneQueue (laneOf n))
      { e with ev := { e.ev with overrun := d.ports[n].markOverrun } }) ∧
    (d.recordEnd n b).tlu = match readTone d.lanes[laneOf n].active k with
      | some t => d.tlu.request (laneOf n) t
      | none => d.tlu := by
  intro e
  have ht := countMatch_touches (held d n b) (ruleOf (held d n b) n b)
  have hpool : ((held d n b).countMatch (ruleOf (held d n b) n b)).pool = d.pool :=
    same_pool (d := held d n b) ht (by decide) (by decide)
  have hclock : ((held d n b).countMatch (ruleOf (held d n b) n b)).trunk.clock = d.trunk.clock :=
    same_clock (d := held d n b) ht (by decide)
  have htlu : ((held d n b).countMatch (ruleOf (held d n b) n b)).tlu = d.tlu := ht .tlu (by decide)
  have hclassify := classify_event ((held_outcome d n b).trans h)
  rw [recordEnd_sound b hd ho, Device.updPort_pool, Device.updPort_tlu]
  change (_ → ((held d n b).classify n b).pool = _) ∧ ((held d n b).classify n b).tlu = _
  rw [hclassify, Device.requestToneOpt_pool, requestToneOpt_tlu, Device.offer_tlu, htlu]
  refine ⟨fun hroom => ?_, rfl⟩
  have hroom' : room ((held d n b).countMatch (ruleOf (held d n b) n b)) (laneQueue (laneOf n)) 1 := by
    unfold room
    rw [hpool]
    exact hroom
  rw [offer_eq_appended _ hroom']
  dsimp only
  unfold Device.eventOf scanNotice
  rw [hpool, hclock, held_overrun]
  rfl

theorem grants_iff (u : ToneUnit) (l : Fin 16) (e : Fin 8) : u.grants l e = true ↔ levelGrants u l e := by
  unfold ToneUnit.grants levelGrants
  cases u.generators[l].playing with
  | none => exact ⟨fun _ => nofun, fun _ => rfl⟩
  | some c => simp

theorem request_granted {u : ToneUnit} {l : Fin 16} {e : Fin 8} (h : levelGrants u l e) :
    u.request l e = { u with generators := u.generators.set l (sounding e u.tones[e]) } :=
  if_pos ((grants_iff u l e).mpr h)

theorem request_ignored {u : ToneUnit} {l : Fin 16} {e : Fin 8} (h : ¬ levelGrants u l e) : u.request l e = u :=
  if_neg (mt (grants_iff u l e).mp h)

/-- Settles O22: a faulted record by its marks, a sound one by the outcome of its classification. -/
theorem recordEnds : Obligations.RecordEnds := by
  refine ⟨fun s n b hr => ?_, fun s n b hr => ?_⟩
  · intro p e
    refine ⟨fun ht hc hf hmark hroom => ?_, (exec_startBit hr n).trans rfl⟩
    obtain ⟨hbuf, hcur, hidle, hstate, hrecords, hdamaged, hover⟩ := faulted_port p (b := b) hmark
    have hrun := (exec_idleGap hr n).trans
      (congrArg (fun x => Host.Outcome.next { s with dev := x }) (idleExpiry_ends ht hc hf))
    have hothers (m : Fin 32) (hm : m ≠ n) := recordEnd_others s.dev b hm
    have heq := faulted_pool b hmark hroom
    dsimp only at heq
    have hport : (s.dev.recordEnd n b).ports[n] = ended p.countRecord b freeBuffer := by
      rw [heq]
      exact upd_getElem_self _ _ _
    have hframe : s.dev.recordEnd n b =
        { s.dev with ports := (s.dev.recordEnd n b).ports, pool := (s.dev.recordEnd n b).pool } := by rw [heq]
    have hpool := congrArg Device.pool heq
    generalize s.dev.recordEnd n b = x at hrun hothers hport hframe hpool
    refine ⟨_, hrun, rfl, hpool, ?_⟩
    dsimp only
    rw [hport]
    exact ⟨hbuf, hcur.trans hc, hidle, hstate, hrecords, hdamaged, hover, hothers, hframe⟩
  · intro p l g u chars m what ht hc hf hd ho _
    have hrun := (exec_idleGap hr n).trans
      (congrArg (fun x => Host.Outcome.next { s with dev := x }) (idleExpiry_ends ht hc hf))
    obtain ⟨hshadow, hactive⟩ := countMatch_rules (held s.dev n b) (ruleOf s.dev n b)
    have hrules := sound_rules b hd ho
    obtain ⟨hrecords, hidle, hstate, hother⟩ := sound_counted hc hd ho
    have hport := sound_port hc hd ho
    have hothers (m : Fin 32) (hm : m ≠ n) := recordEnd_others s.dev b hm
    have htouch := recordEnd_touches s.dev n b
    have hdrop := sound_drop (d := s.dev) (b := b) hd ho
    have hevent {k x y start len} := sound_event (d := s.dev) (b := b) hd ho (k := k) (x := x) (y := y) (start := start) (len := len)
    have houtcome : outcome s.dev n b = match what with
        | none => .drop
        | some (k, d1, d2, start, len) => .event k d1 d2 start len := outcomeOf_eq _ _ _
    generalize s.dev.recordEnd n b = z at hrun hrules hrecords hidle hstate hother hport hothers htouch hdrop hevent
    refine ⟨_, hrun, rfl, ?_⟩
    dsimp only
    refine ⟨by rw [hrules]; exact hshadow, fun i => by rw [hrules]; exact hactive i, hrecords, hidle, hstate, hother, hothers,
      ?_, fun hnone => ?_, fun k d1 d2 start len hsome => ?_⟩
    · exact eq_of_blocks (htouch .lanes (by decide)) (htouch .scanner (by decide)) (htouch .trans (by decide))
        (htouch .keymaps (by decide)) rfl rfl rfl (same_delivery (d := s.dev) htouch (by decide) (by decide))
        (htouch .drawers (by decide)) rfl (htouch .trunk (by decide)) (htouch .timeBase (by decide))
    · rw [hnone] at houtcome
      obtain ⟨hpool, htlu⟩ := hdrop houtcome
      rcases hport with ⟨-, hport⟩ | ⟨hno, -⟩
      · rw [hport, ended_free]
        refine ⟨hpool, htlu, ?_, ?_, ?_⟩
        · cases b <;> rfl
        · cases b <;> exact hc
        · cases b <;> rfl
      · exact absurd houtcome hno
    · rw [hsome] at houtcome
      obtain ⟨hpool, htlu⟩ := hevent houtcome
      have htone {t : Option (Fin 8)} (hx : (if k = .scanGood then g.goodTone else
          if k = .scanBadCheck then g.badTone else none) = t) : readTone s.dev.lanes[laneOf n].active k = t := hx
      refine ⟨fun hroom => ⟨hpool hroom, ?_⟩, fun x hx hg => ?_, fun x hx hg => ?_, fun hx => ?_⟩
      · rcases hport with ⟨hno, -⟩ | ⟨-, hport⟩
        · cases houtcome.symm.trans hno
        · rw [hport, if_pos hroom, held_port]
          exact ⟨by cases b <;> rfl, rfl⟩
      · rw [htlu, htone hx]
        exact request_granted hg
      · rw [htlu, htone hx]
        exact request_ignored hg
      · rw [htlu, htone hx]

end Sys2Proof.RecordEnds

/-! ## Scan rules, the admitter and the device-wide settings (R93, R101, R103, R109, R113 to R116, R119, R137, R143) -/

namespace Sys2Proof.Admission

open Sys2Proof.Machine Sys2Proof.Claims Sys2Proof.Events Sys2Proof.OpenCounter Sys2Proof.Arbiters Sys2Proof.LaneResets

/-! ### Scan rules -/

/-- The first number in ascending order with a property. -/
theorem finRange_find {n : Nat} (p : Fin n → Bool) (i : Fin n) :
    (List.finRange n).find? p = some i ↔ p i = true ∧ ∀ j : Fin n, j < i → ¬ p j = true := by
  rw [List.find?_eq_some_iff_getElem]
  refine and_congr_right fun _ => ⟨fun ⟨k, hk, hki, hbefore⟩ j hj => ?_, fun hbefore => ⟨i.val, ?_, ?_, fun j hj => ?_⟩⟩
  · have hi : k = i.val := by rw [← hki, List.getElem_finRange]; rfl
    have := hbefore j.val (hi ▸ hj)
    rw [List.getElem_finRange] at this
    simpa using this
  · rw [List.length_finRange]
    exact i.isLt
  · rw [List.getElem_finRange]
    rfl
  · rw [List.getElem_finRange]
    simpa using hbefore ⟨j, hj.trans i.isLt⟩ hj

theorem fits_iff (r : ScanRule) (l : Fin 16) (chars : List Byte) : r.fits l chars = true ↔
    r.valid = true ∧ r.laneMask.getLsbD l.val = true ∧ r.leadLen ≤ chars.length ∧
      chars.take r.leadLen = r.lead.toList.take r.leadLen ∧ r.minLen ≤ chars.length ∧ chars.length ≤ r.maxLen := by
  simp only [ScanRule.fits, ScanRule.leadFits, hasBit, Bool.and_eq_true, decide_eq_true_eq, and_assoc]

theorem clamped_eq (r : ScanRule) : r.clamped = { r with
    minLen := min 48 (max 1 r.minLen), maxLen := min 48 (max 1 r.maxLen), leadLen := min 3 r.leadLen
    strip := min 3 r.strip } := rfl

theorem writeRule_num {i : Fin 32} {fs : List Byte} {r : ScanRule} (hr : rawRule fs = some r) (d : Device) :
    writeRule (num i :: fs) d = if r.clamped.maxLen < r.clamped.minLen then malformed d
      else answer (d.updRules fun k => { k with shadow := k.shadow.set i { rule := r.clamped, hits := 0 } })
        (if r.clamped = r then .done else .doneClamped) := by
  unfold writeRule
  simp only [inIndex_num i (by decide), hr, doneOr, ne_eq, decide_not, Bool.not_eq_true', decide_eq_false_iff_not, ite_not]

/-- Settles O24: the first rule that fits by the search in index order; the requests through their carriers. -/
theorem scanRules : Obligations.ScanRules := by
  refine ⟨fun k l chars => ?_, fun s tag i fs r => ?_⟩
  · intro fits
    have hfits (i : Fin 32) : k.active[i].rule.fits l chars = true ↔ fits i := fits_iff _ l chars
    unfold Classifier.firstMatch
    refine ⟨fun i => ?_, ?_⟩
    · rw [finRange_find]
      simp only [hfits]
    · rw [List.find?_eq_none]
      simp only [List.mem_finRange, hfits, true_implies]
  · intro w c lo hi r'
    have hcarry (hr : rawRule fs = some r) := writeRule_num (i := i) hr (s.dev.begin w)
    refine ⟨fun hw hr hlt => ?_, fun hw hr hle => ?_, fun hw => ?_⟩
    · exact takeCode_of_answer (d := s.dev.begin w) hw rfl ((hcarry hr).trans (if_pos hlt)) rfl
    · exact takeCode_of_answer hw rfl ((hcarry hr).trans (if_neg (Nat.not_lt.mpr hle))) rfl
    · exact takeCode_of_answer (code := rcCommitRules) (carry := commitRules) hw rfl rfl rfl

/-! ### The device-wide settings -/

theorem doneOr_decide (p : Prop) [Decidable p] : doneOr (decide ¬ p) = if p then .done else .doneClamped := by
  by_cases h : p
  · simp [doneOr, h]
  · simp [doneOr, h]

theorem setAdmission_two (x y : Byte) (d : Device) : setAdmission [x, y] d =
    answer (d.updPool fun p => { p with reserve := min 64 x.toNat, limit := max 1 y.toNat })
      (if x.toNat ≤ 64 ∧ 1 ≤ y.toNat then .done else .doneClamped) := by
  have hy := y.isLt
  have hreserve : clampTo 0 64 x.toNat = min 64 x.toNat := by
    unfold clampTo
    omega
  have hlimit : clampTo 1 255 y.toNat = max 1 y.toNat := by
    unfold clampTo
    omega
  have hclamp : (decide (min 64 x.toNat ≠ x.toNat) || decide (max 1 y.toNat ≠ y.toNat)) =
      decide ¬ (x.toNat ≤ 64 ∧ 1 ≤ y.toNat) := by
    rw [← Bool.decide_or]
    exact decide_eq_decide.mpr (by omega)
  unfold setAdmission
  simp only [hreserve, hlimit]
  rw [hclamp, doneOr_decide]

theorem setStall_two (x y : Byte) (d : Device) : setStall [x, y] d =
    answer (d.updDelivery fun u => { u with stallInterval := max 1 x.toNat, stallRobust := min 4 (max 1 y.toNat) })
      (if 1 ≤ x.toNat ∧ 1 ≤ y.toNat ∧ y.toNat ≤ 4 then .done else .doneClamped) := by
  have hx := x.isLt
  have hinterval : clampTo 1 255 x.toNat = max 1 x.toNat := by
    unfold clampTo
    omega
  have hclamp : (decide (max 1 x.toNat ≠ x.toNat) || decide (min 4 (max 1 y.toNat) ≠ y.toNat)) =
      decide ¬ (1 ≤ x.toNat ∧ 1 ≤ y.toNat ∧ y.toNat ≤ 4) := by
    rw [← Bool.decide_or]
    exact decide_eq_decide.mpr (by omega)
  unfold setStall
  simp only [hinterval]
  rw [← doneOr_decide, ← hclamp]
  rfl

theorem setScan_one (w : Byte) (d : Device) : setScan [w] d =
    answer (d.updScanner fun m => { m with dwell := min 63 (max 4 w.toNat) })
      (if 4 ≤ w.toNat ∧ w.toNat ≤ 63 then .done else .doneClamped) := by
  have hclamp : decide (min 63 (max 4 w.toNat) ≠ w.toNat) = decide ¬ (4 ≤ w.toNat ∧ w.toNat ≤ 63) :=
    decide_eq_decide.mpr (by omega)
  rw [← doneOr_decide, ← hclamp]
  rfl

theorem setUnmatched_two {x : Byte} (y : Byte) (d : Device) : setUnmatched [x, y] d =
    match UnmatchedPolicy.ofCode x.toNat with
    | some p => answer (d.updDelivery fun u => { u with policy := p, defaultSet := y }) .done
    | none => malformed d := rfl

theorem policy_none {n : Nat} (h : 3 ≤ n) : UnmatchedPolicy.ofCode n = none := by
  match n, h with
  | n + 3, _ => rfl

/-- Settles O28: each request through what its row writes. -/
theorem deviceWideSettings : Obligations.DeviceWideSettings := by
  refine ⟨fun s tag x y => ⟨fun hw => ?_, fun hw => ?_, fun policy hw hp => ?_, fun hw hx => ?_⟩, fun s tag w hw => ?_⟩
  · exact takeCode_of_answer hw rfl (setAdmission_two x y (s.dev.begin _)) rfl
  · exact takeCode_of_answer hw rfl (setStall_two x y (s.dev.begin _)) rfl
  · have hcarry := setUnmatched_two (x := x) y (s.dev.begin (request tag 0x3D [x, y]))
    rw [hp] at hcarry
    exact takeCode_of_answer hw rfl hcarry rfl
  · have hcarry := setUnmatched_two (x := x) y (s.dev.begin (request tag 0x3D [x, y]))
    rw [policy_none hx] at hcarry
    exact takeCode_of_answer (d := s.dev.begin _) hw rfl hcarry rfl
  · exact takeCode_of_answer hw rfl (setScan_one w (s.dev.begin _)) rfl

/-! ### Entries that are lost -/

theorem releasedBy_eq (d : Device) (b : BodyRef) : releasedBy d.ports b = released d b := by
  cases b with
  | absent | bytes bs => rfl
  | buffer n buf start len =>
    have hset : upd d.ports n (fun p => p.release buf) = d.ports.set n (d.ports[n].release buf) := rfl
    change upd d.ports n (fun p => p.release buf) = if (d.ports[n].buf buf).state = .held then _ else d.ports
    by_cases h : (d.ports[n].buf buf).state = .held
    · have hcurrent : (d.ports[n].setBuf buf freeBuffer).current = d.ports[n].current := by cases buf <;> rfl
      rw [if_pos h, hset, Port.release, if_pos h]
      dsimp only
      rw [hcurrent]
    · rw [if_neg h]
      exact upd_id d.ports n (if_neg h)

theorem exec_limitExpiry {s : State} (hr : s.dev.inReset = false) (q : Fin 17) :
    exec (.admissionLimitExpiry q) s = .next { s with dev := limitExpiry q s.dev } :=
  (exec_admissionLimitExpiry s q).trans ((s.runAt_of_lt _ _ q.isLt).trans (s.run_of_running _ hr))

theorem offer_full {d : Device} {q : Fin 17} (n : Notice) (h : d.pool.lanes[q].queue.length = 8) :
    (d.offer q n).pool = { d.pool with
      lanes := d.pool.lanes.set q { d.pool.lanes[q] with
        seq := d.pool.lanes[q].seq + 1, gap := true, lossCount := min 65535 (d.pool.lanes[q].lossCount + 1) } } := by
  have hfull : ¬ d.pool.lanes[q].queue.length < 8 := by omega
  rw [d.offer_slots, Machine.offer_lanes]
  have htell : d.pool.lanes[q].tell { ev := d.eventOf q n, body := n.body } = { d.pool.lanes[q] with
      seq := d.pool.lanes[q].seq + 1, gap := true, lossCount := min 65535 (d.pool.lanes[q].lossCount + 1) } :=
    if_neg hfull
  exact congrArg (fun x => ({ d.pool with lanes := d.pool.lanes.set q x } : Pool)) htell

theorem releaseBody_eq (d : Device) (b : BodyRef) : d.releaseBody b = { d with ports := released d b } := by
  rw [← releasedBy_eq]
  cases b <;> rfl

theorem lostHead_eq {d : Device} {q : Fin 17} {e : Entry} {rest : List Entry} (hq : d.pool.lanes[q].queue = e :: rest) :
    (d.updPend q PendLane.popHead).loseEntry q e = { d with
      pool := { d.pool with lanes := d.pool.lanes.set q { d.pool.lanes[q] with
        queue := rest, lossCount := min 65535 (d.pool.lanes[q].lossCount + 1), gap := true
        waiting := false, waitTimer := none, lastSet := none } }
      ports := released d e.body } := by
  rw [Device.loseEntry, releaseBody_eq]
  have hrest : d.pool.lanes[q].queue.tail = rest := by
    rw [hq]
    rfl
  have hlanes := upd_upd d.pool.lanes q PendLane.popHead fun p => { p with lossCount := sat16 p.lossCount 1, gap := true }
  rw [← hrest]
  exact congrArg (fun v => ({ d with pool := { d.pool with lanes := v }, ports := released d e.body } : Device)) hlanes

/-- Settles O27: an offer to a full queue, and the expiry's loss with its flags. -/
theorem eventLosses : Obligations.EventLosses := by
  refine ⟨fun d q n hfull => ⟨offer_full n hfull, ?_⟩, fun s q e rest set hr hq hw ht hs => ?_⟩
  · rw [Machine.offer_ports, if_neg (by omega), releasedBy_eq]
  · obtain ⟨x, hx⟩ := Option.isSome_iff_exists.mp ht
    have hlimit : limitExpiry q s.dev = ((s.dev.updPend q PendLane.popHead).loseEntry q e).flagMembers set := by
      unfold limitExpiry
      dsimp only
      rw [hw, hx, hq, hs]
    refine ⟨_, exec_limitExpiry hr q, rfl, ?_⟩
    rw [hlimit, lostHead_eq hq]
    refine ⟨rfl, fun c => ?_, rfl, rfl⟩
    exact (tab_getElem _ c).trans (if_congr Iff.rfl (miss_one _) rfl)

/-! ### An admission attempt -/

theorem exec_attempt {s : State} {q : Fin 17} (hr : s.dev.inReset = false) (hnext : s.dev.pool.nextLane = some q) :
    exec .admissionAttempt s = .next { s with dev := s.dev.attempt q } := by
  have hadmission : admission s.dev = s.dev.attempt q := by
    unfold admission
    rw [hnext]
  rw [← hadmission]
  exact (exec_admissionAttempt s).trans (s.run_of_running _ hr)

/-- A consumer takes a reference only while it is ACTIVE. -/
theorem active_of_taking {u : Delivery} {q : Fin 17} {k : Kind} {c : Fin 8} {p : Priority}
    (h : (u.computeSet q k)[c] = .taking p) : u.consumers[c].state = .active := by
  rw [Delivery.computeSet, tab_getElem] at h
  unfold Consumer.sorted at h
  split at h
  · cases h
  · cases h
  · cases h
  · assumption

/-- R140: with a reference just appended, an ACTIVE consumer's stall timer runs where its credit is 0. -/
theorem syncStall_append {x : Consumer} (hactive : x.state = .active) (r : Fin 512) (n : Nat) :
    let timer := if x.credit = 0 then some (x.stallTimer.getD n) else none
    (x.append r .urgent).syncStall n = { x with urgentQ := x.urgentQ ++ [r], stallTimer := timer } ∧
    (x.append r .routine).syncStall n = { x with routineQ := x.routineQ ++ [r], stallTimer := timer } := by
  have hurgent : (x.append r .urgent).stalling = decide (x.credit = 0) := by
    rw [Bool.eq_iff_iff]
    simp [Consumer.append, Consumer.stalling, Consumer.queued, hactive]
  have hroutine : (x.append r .routine).stalling = decide (x.credit = 0) := by
    rw [Bool.eq_iff_iff]
    simp [Consumer.append, Consumer.stalling, Consumer.queued, hactive]
  simp only [Consumer.syncStall, hurgent, hroutine, decide_eq_true_eq]
  exact ⟨rfl, rfl⟩

section
variable {d : Device} {q : Fin 17} {e : Entry} {rest : List Entry} (hq : d.pool.lanes[q].queue = e :: rest)
include hq

theorem attempt_unwanted (h : (d.delivery.computeSet q e.ev.kind).taken = 0) : d.attempt q =
    (d.updPool fun p => { p with lastServed := q }).discardHead q e (d.delivery.computeSet q e.ev.kind) := by
  unfold Device.attempt
  rw [hq]
  exact if_pos h

theorem attempt_admits {k : Fin 512} {free : List (Fin 512)} (h : 0 < (d.delivery.computeSet q e.ev.kind).taken)
    (hfree : d.pool.freeList = k :: free) (hneed : d.pool.meets e.ev.kind.cls = true) : d.attempt q =
    (d.updPool fun p => { p with lastServed := q }).admitHead q e (d.delivery.computeSet q e.ev.kind) k free := by
  unfold Device.attempt
  rw [hq]
  dsimp only
  rw [if_neg (Nat.pos_iff_ne_zero.mp h), hfree]
  exact if_pos hneed

theorem attempt_waits (h : 0 < (d.delivery.computeSet q e.ev.kind).taken) (hneed : ¬ d.pool.meets e.ev.kind.cls = true) :
    d.attempt q =
      (d.updPool fun p => { p with lastServed := q }).waitHead q (d.delivery.computeSet q e.ev.kind) := by
  unfold Device.attempt
  rw [hq]
  dsimp only
  rw [if_neg (Nat.pos_iff_ne_zero.mp h)]
  split
  · rfl
  · exact if_neg hneed

/-- R113: the head discarded, all but the consumers. -/
theorem discardHead_eq (set : SortedSet) : (d.updPool fun p => { p with lastServed := q }).discardHead q e set = { d with
    pool := { d.pool with
      lastServed := q
      lanes := d.pool.lanes.set q
        { d.pool.lanes[q] with queue := rest, waiting := false, waitTimer := none, lastSet := none }
      unwanted := min 65535 (d.pool.unwanted + 1) }
    delivery := { d.delivery with consumers := tab fun c =>
      if set[c] = .refused then d.delivery.consumers[c].miss 1 else d.delivery.consumers[c] }
    ports := released d e.body } := by
  have hrest : d.pool.lanes[q].queue.tail = rest := by
    rw [hq]
    rfl
  rw [Device.discardHead, releaseBody_eq, ← hrest]
  rfl

/-- R114: the head admitted. -/
theorem admitHead_eq (set : SortedSet) (k : Fin 512) (free : List (Fin 512)) :
    (d.updPool fun p => { p with lastServed := q }).admitHead q e set k free = { d with
      pool := { d.pool with
        lastServed := q
        lanes := d.pool.lanes.set q { d.pool.lanes[q] with
          queue := rest, waiting := false, waitTimer := none, lastSet := none, gap := false }
        freeList := free, lowWater := min d.pool.lowWater free.length
        slots := d.pool.slots.set k (some
          { ev := { e.ev with afterLoss := d.pool.lanes[q].gap }, body := bodyOf d e.body, refs := set.taken }) }
      delivery := d.delivery.deliver set k
      ports := released d e.body } := by
  have hrest : d.pool.lanes[q].queue.tail = rest := by
    rw [hq]
    rfl
  unfold Device.admitHead
  dsimp only
  rw [releaseBody_eq, ← hrest]
  rfl

end

theorem waitHead_eq (d : Device) (q : Fin 17) (set : SortedSet) :
    (d.updPool fun p => { p with lastServed := q }).waitHead q set = { d with pool := { d.pool with
      lastServed := q
      lanes := d.pool.lanes.set q { d.pool.lanes[q] with
        waiting := true, lastSet := some set
        waitTimer := some (d.pool.lanes[q].waitTimer.getD (d.pool.limit * 10)) } } } := rfl

/-- R114, step 4: what delivery does to each member of a set that was just computed. -/
theorem deliver_consumer {u : Delivery} {q : Fin 17} {kind : Kind} (k : Fin 512) (c : Fin 8) :
    let set := u.computeSet q kind
    let x := u.consumers[c]
    let timer := if x.credit = 0 then some (x.stallTimer.getD (u.stallInterval * u.stallRobust * 100)) else none
    (set[c] = .taking .urgent → (u.deliver set k).consumers[c] =
      { x with urgentQ := x.urgentQ ++ [k], stallTimer := timer }) ∧
    (set[c] = .taking .routine → (u.deliver set k).consumers[c] =
      { x with routineQ := x.routineQ ++ [k], stallTimer := timer }) ∧
    (set[c] = .refused → (u.deliver set k).consumers[c] = missedOne x) ∧
    (set[c] = .out → (u.deliver set k).consumers[c] = x) := by
  intro set x timer
  have hmember : (u.deliver set k).consumers[c] = match set[c] with
      | .taking p => (x.append k p).syncStall u.stallTime
      | .refused => x.miss 1
      | .out => x := tab_getElem _ c
  rw [hmember]
  refine ⟨fun h => ?_, fun h => ?_, fun h => ?_, fun h => ?_⟩ <;> rw [h]
  · exact (syncStall_append (active_of_taking h) k _).1
  · exact (syncStall_append (active_of_taking h) k _).2
  · exact miss_one x

/-- Settles O25: the attempt's three outcomes, by the takers and the free count. -/
theorem admissionAttempt : Obligations.AdmissionAttempt := by
  intro s q e rest hr hq hnext
  refine ⟨_, exec_attempt hr hnext, rfl, fun htakers => ?_, fun k free htakers hfree hneed => ?_, fun htakers hneed => ?_⟩
  · dsimp only
    rw [attempt_unwanted hq htakers, discardHead_eq hq]
    refine ⟨fun c => ?_, rfl⟩
    exact (tab_getElem _ c).trans (if_congr Iff.rfl (miss_one _) rfl)
  · have hmeets : s.dev.pool.meets e.ev.kind.cls = true := by
      rw [meets_iff, hfree]
      exact hneed
    dsimp only
    rw [attempt_admits hq htakers hfree hmeets, admitHead_eq hq]
    exact ⟨fun c => deliver_consumer k c, rfl⟩
  · have hmeets : ¬ s.dev.pool.meets e.ev.kind.cls = true := by
      rw [meets_iff]
      exact Nat.not_lt.mpr hneed
    dsimp only
    rw [attempt_waits hq htakers hmeets, waitHead_eq]

end Sys2Proof.Admission

/-! ## The delivery unit: sets, table and walks, consumers (R123 to R138, R141, R142, R188) -/

namespace Sys2Proof.DeliveryUnit

open Sys2Proof.Machine Sys2Proof.Claims Sys2Proof.Events Sys2Proof.OpenCounter Sys2Proof.KeymapRequests Sys2Proof.Admission

/-! ### Delivery sets -/

section
variable (u : Delivery) (q : Fin 17) (k : Kind) (c : Fin 8)

/-- R124: entry `i` matches the event. -/
def Takes (i : Fin 64) : Prop :=
  u.table[i].valid = true ∧ u.table[i].laneMask.getLsbD q.val = true ∧
    u.table[i].classMask.getLsbD (k.cls.code - 1) = true ∧ (u.table[i].kind = none ∨ u.table[i].kind = some k)

theorem takesIn_iff (e : TableEntry) : e.takesIn q k = true ↔ e.valid = true ∧ e.laneMask.getLsbD q.val = true ∧
    e.classMask.getLsbD (k.cls.code - 1) = true ∧ (e.kind = none ∨ e.kind = some k) := by
  unfold TableEntry.takesIn hasBit EventClass.maskBit
  simp only [Bool.and_eq_true, and_assoc]
  cases e.kind <;> simp

/-- A matching entry that satisfies a test. -/
theorem any_matching (p : TableEntry → Bool) :
    (u.matching q k).any p = true ↔ ∃ i, Takes u q k i ∧ p u.table[i] = true := by
  rw [List.any_eq_true]
  constructor
  · rintro ⟨e, he, hp⟩
    obtain ⟨hmem, htakes⟩ := List.mem_filter.mp he
    obtain ⟨i, hi, rfl⟩ := Vector.mem_iff_getElem.mp (Vector.mem_toList_iff.mp hmem)
    exact ⟨⟨i, hi⟩, (takesIn_iff q k _).mp htakes, hp⟩
  · rintro ⟨i, htakes, hp⟩
    refine ⟨u.table[i], List.mem_filter.mpr ⟨?_, (takesIn_iff q k _).mpr htakes⟩, hp⟩
    exact Vector.mem_toList_iff.mpr (Vector.getElem_mem i.isLt)

theorem matching_empty : (u.matching q k).isEmpty = true ↔ ∀ i, ¬ Takes u q k i := by
  have hany := any_matching u q k fun _ => true
  simp only [and_true] at hany
  rw [← not_exists, ← hany, List.isEmpty_iff]
  cases u.matching q k <;> simp

/-- R125, R126: the consumer is in the set. -/
def Member : Prop :=
  ((∃ i, Takes u q k i) ∧ (∃ i, Takes u q k i ∧ u.table[i].consumers.getLsbD c.val = true ∧ u.table[i].blocked = false) ∧
    ¬ ∃ i, Takes u q k i ∧ u.table[i].consumers.getLsbD c.val = true ∧ u.table[i].blocked = true) ∨
  ((∀ i, ¬ Takes u q k i) ∧ ((u.policy = .default ∧ u.defaultSet.getLsbD c.val = true) ∨
    (u.policy = .all ∧ u.consumers[c].state = .active)))

/-- R125: a forwarding entry of the consumer is URGENT. -/
def Urgent : Prop :=
  ∃ i, Takes u q k i ∧ u.table[i].consumers.getLsbD c.val = true ∧ u.table[i].blocked = false ∧ u.table[i].urgent = true

/-- The place of a consumer by membership and urgency. -/
theorem inSet_eq [Decidable (Member u q k c)] [Decidable (Urgent u q k c)] : u.inSet q k c =
    if Member u q k c then some (if Urgent u q k c then .urgent else .routine) else none := by
  have hnone := matching_empty u q k
  have hstopped : ((u.matching q k).any fun e => e.blocked && hasBit e.consumers c.val) = true ↔
      ∃ i, Takes u q k i ∧ u.table[i].consumers.getLsbD c.val = true ∧ u.table[i].blocked = true := by
    rw [any_matching]
    simp only [hasBit, Bool.and_eq_true, and_comm]
  have hforward : ((u.matching q k).filter fun e => !e.blocked && hasBit e.consumers c.val).isEmpty = true ↔
      ¬ ∃ i, Takes u q k i ∧ u.table[i].consumers.getLsbD c.val = true ∧ u.table[i].blocked = false := by
    have hany := any_matching u q k fun e => !e.blocked && hasBit e.consumers c.val
    simp only [hasBit, Bool.and_eq_true, Bool.not_eq_true'] at hany
    simp only [and_comm (b := _ = false)]
    rw [← hany, List.isEmpty_iff, List.filter_eq_nil_iff, List.any_eq_true]
    simp only [hasBit, Bool.and_eq_true, Bool.not_eq_true', not_exists, not_and]
  have hurgent : (((u.matching q k).filter fun e => !e.blocked && hasBit e.consumers c.val).any fun e => e.urgent) = true ↔
      Urgent u q k c := by
    have hany := any_matching u q k fun e => (!e.blocked && hasBit e.consumers c.val) && e.urgent
    rw [List.any_filter, hany]
    unfold Urgent
    simp only [hasBit, Bool.and_eq_true, Bool.not_eq_true', and_assoc]
    exact exists_congr fun i => and_congr_right fun _ => and_left_comm
  unfold Delivery.inSet
  dsimp only
  by_cases hmatch : ∀ i, ¬ Takes u q k i
  · have hurg : ¬ Urgent u q k c := fun ⟨i, hi, _⟩ => hmatch i hi
    have hmember : Member u q k c ↔ (u.policy = .default ∧ u.defaultSet.getLsbD c.val = true) ∨
        (u.policy = .all ∧ u.consumers[c].state = .active) :=
      ⟨fun h => h.elim (fun ⟨⟨i, hi⟩, _⟩ => absurd hi (hmatch i)) And.right, fun h => .inr ⟨hmatch, h⟩⟩
    rw [if_pos (hnone.mpr hmatch), if_neg hurg, if_congr hmember rfl rfl]
    cases hp : u.policy <;> simp [hasBit]
  · have hsome : ∃ i, Takes u q k i := by
      simpa only [not_forall, not_not] using hmatch
    rw [if_neg (fun h => hmatch (hnone.mp h))]
    by_cases hstop : ∃ i, Takes u q k i ∧ u.table[i].consumers.getLsbD c.val = true ∧ u.table[i].blocked = true
    · rw [if_pos (hstopped.mpr hstop), if_neg]
      exact fun h => h.elim (fun ⟨_, _, hnot⟩ => hnot hstop) fun ⟨h, _⟩ => hmatch h
    · rw [if_neg (fun h => hstop (hstopped.mp h))]
      by_cases hfwd : ∃ i, Takes u q k i ∧ u.table[i].consumers.getLsbD c.val = true ∧ u.table[i].blocked = false
      · have hmember : Member u q k c := .inl ⟨hsome, hfwd, hstop⟩
        rw [if_neg (fun h => hforward.mp h hfwd), if_pos hmember, apply_ite some]
        exact if_congr hurgent rfl rfl
      · rw [if_pos (hforward.mpr hfwd), if_neg]
        exact fun h => h.elim (fun ⟨_, hf, _⟩ => hfwd hf) fun ⟨h, _⟩ => hmatch h

end

/-- R127: a member sorted by its state and the depth limit. -/
theorem sorted_iff (x : Consumer) (member urgent : Prop) [Decidable member] [Decidable urgent] :
    let place := x.sorted (if member then some (if urgent then .urgent else .routine) else none)
    (place = .out ↔ ¬ member ∨ x.state = .inactive) ∧
    (place = .refused ↔ member ∧ (x.state = .stalled ∨ (x.state = .active ∧ x.depth ≤ x.queued))) ∧
    (place = .taking .urgent ↔ member ∧ x.state = .active ∧ x.queued < x.depth ∧ urgent) ∧
    (place = .taking .routine ↔ member ∧ x.state = .active ∧ x.queued < x.depth ∧ ¬ urgent) := by
  by_cases hm : member
  · rw [if_pos hm]
    cases hs : x.state with
    | inactive => simp [Consumer.sorted, hm, hs]
    | stalled => simp [Consumer.sorted, hm, hs]
    | active =>
      by_cases hd : x.depth ≤ x.queued
      · simp [Consumer.sorted, hm, hs, hd, Nat.not_lt.mpr hd]
      · by_cases hu : urgent <;> simp [Consumer.sorted, hm, hs, hd, hu, Nat.not_le.mp hd]
  · simp [Consumer.sorted, hm]

/-- R124, R126: with the values of a device reset every event goes to consumer 0, ROUTINE. -/
theorem computeSet_reset (q : Fin 17) (k : Kind) :
    resetDelivery.computeSet q k = Vector.ofFn fun m : Fin 8 => if m = 0 then Member.taking .routine else .out := by
  have hentry (i : Fin 64) : resetDelivery.table[i] = zeroTableEntry := Vector.getElem_replicate _
  have hnone : (resetDelivery.matching q k).isEmpty = true := by
    refine (matching_empty _ q k).mpr fun i hi => ?_
    have hvalid := hi.1
    rw [hentry i] at hvalid
    cases hvalid
  have hbit : ∀ m : Fin 8, hasBit 1#8 m.val = true ↔ m = 0 := by decide
  refine congrArg Vector.ofFn (funext fun m => ?_)
  have hin : resetDelivery.inSet q k m = if m = 0 then some .routine else none := by
    unfold Delivery.inSet
    dsimp only
    rw [if_pos hnone]
    exact if_congr (hbit m) rfl rfl
  have hconsumer : resetDelivery.consumers[m] = resetConsumer (if m = 0 then .active else .inactive) :=
    Vector.getElem_ofFn m.isLt
  rw [hin, hconsumer]
  by_cases hm : m = 0
  · rw [if_pos hm, if_pos hm, if_pos hm]
    rfl
  · rw [if_neg hm, if_neg hm, if_neg hm]
    rfl

/-- Settles O29: the place of each consumer, sorted by its state and its depth. -/
theorem deliverySet : Obligations.DeliverySet := by
  classical
  intro u q k c
  have hset : (u.computeSet q k)[c] = u.consumers[c].sorted
      (if Member u q k c then some (if Urgent u q k c then .urgent else .routine) else none) := by
    rw [Delivery.computeSet, tab_getElem, inSet_eq]
  refine ⟨computeSet_reset q k, ?_⟩
  rw [hset]
  exact sorted_iff u.consumers[c] (Member u q k c) (Urgent u q k c)

/-! ### Writing and deleting entries -/

theorem valid_of_inTableEntry {fs : List Byte} {e : TableEntry} (h : inTableEntry fs = some e) : e.valid = true := by
  unfold inTableEntry at h
  split at h
  · split at h
    · cases h
    · obtain ⟨kind, -, rfl⟩ := Option.map_eq_some_iff.mp h
      rfl
  · cases h

theorem tableWrite_num {i : Fin 64} {fs : List Byte} {e : TableEntry} (h : inTableEntry fs = some e) (d : Device) :
    tableWrite (num i :: fs) d = answer (d.updDelivery fun u => { u with table := u.table.set i e })
      (if d.delivery.table[i].valid then .donePresent else .doneAbsent) := by
  unfold tableWrite
  dsimp only
  rw [inIndex_num i (by decide), h]

theorem tableDelete_num (i : Fin 64) (d : Device) : tableDelete [num i] d =
    if d.delivery.table[i].valid then
      answer (d.updDelivery fun u => { u with table := u.table.set i zeroTableEntry }) .donePresent
    else answer d .doneAbsent := by
  unfold tableDelete
  dsimp only
  rw [inIndex_num i (by decide)]

/-- Settles O30: each request through its row. -/
theorem tableWriteAndDelete : Obligations.TableWriteAndDelete := by
  intro s tag i fs e w x old
  refine ⟨fun hw he => ⟨valid_of_inTableEntry he, ?_⟩, fun hx hold => ?_, fun hx hold => ?_⟩
  · exact takeCode_of_answer hw rfl (tableWrite_num he (s.dev.begin w)) rfl
  · exact takeCode_of_answer hx rfl ((tableDelete_num i (s.dev.begin x)).trans (if_pos hold)) rfl
  · exact takeCode_of_answer (d := s.dev.begin x) hx rfl
      ((tableDelete_num i (s.dev.begin x)).trans (if_neg (Bool.eq_false_iff.mp hold))) rfl

/-! ### Walks -/

theorem classOf_num (c : EventClass) : EventClass.ofCode (num c.code).toNat = some c := by
  cases c <;> rfl

theorem kindOf_num (k : Kind) : Kind.ofCode (num k.code).toNat = some k := by
  cases k <;> rfl

theorem tableSearch_num (q : Fin 17) (k : Kind) (d : Device) : tableSearch [num q, num k.cls.code, num k.code] d =
    (d.updDelivery fun u => { u with walk := some (.search q k 0 none) }, none) := by
  unfold tableSearch
  dsimp only
  rw [inIndex_num q (by decide), classOf_num, kindOf_num]
  exact if_pos rfl

theorem tableClear_consumer (c : Fin 8) (d : Device) : tableClear [0, num c] d =
    (d.updDelivery fun u => { u with walk := some (.clearConsumer c 0 0 0) }, none) := by
  unfold tableClear
  dsimp only
  rw [inIndex_num c (by decide)]
  rfl

theorem tableClear_lane (q : Fin 17) (d : Device) : tableClear [1, num q] d =
    (d.updDelivery fun u => { u with walk := some (.clearLane q 0 0 0) }, none) := by
  unfold tableClear
  dsimp only
  rw [inIndex_num q (by decide)]
  rfl

theorem exec_walkStep {s : State} (hr : s.dev.inReset = false) :
    exec .tableWalkStep s = .next { s with dev := { s.dev with delivery := s.dev.delivery.walkStep } } :=
  (exec_tableWalkStep s).trans (s.run_of_running _ hr)

theorem exec_walkEnd {s : State} {w : TableWalk} {r : Request} (hr : s.dev.inReset = false)
    (hw : s.dev.delivery.walk = some w) (hend : w.ended = true) (hin : s.dev.trunk.inProgress = some r) :
    exec .tableWalkEnd s = .next { s with dev := { s.dev with
      delivery := { s.dev.delivery with walk := none }
      trunk := { s.dev.trunk with
        inProgress := none
        replies := s.dev.trunk.replies ++ [{
          tag := r.tag, request := r.replyCode, code := (s.dev.delivery.walkAnswer w).code
          fields := (s.dev.delivery.walkAnswer w).fields }] } } } := by
  have hwalk : s.dev.walkEnd =
      (s.dev.updDelivery fun u => { u with walk := none }).reply (s.dev.delivery.walkAnswer w) := by
    unfold Device.walkEnd
    rw [hw]
    exact if_pos hend
  rw [exec_tableWalkEnd, s.run_of_running _ hr, hwalk,
    Device.reply_of_inProgress (s.dev.updDelivery fun u => { u with walk := none }) _ r hin]
  rfl

section
variable {u : Delivery} {i : Fin 64}

theorem walkStep_search {q : Fin 17} {k : Kind} (hw : u.walk = some (.search q k i none)) : u.walkStep =
    { u with walk := some (.search q k (i + 1) (if u.table[i].takesIn q k then some i else none)) } := by
  unfold Delivery.walkStep
  rw [hw]
  exact dif_pos i.isLt

theorem walkStep_clearConsumer {c : Fin 8} {ch dl : Nat} (hw : u.walk = some (.clearConsumer c i ch dl)) :
    let e := u.table[i]
    let e' := e.withoutConsumer c
    let gone := e.valid && !e'.valid
    u.walkStep = { u with
      table := u.table.set i e'
      walk := some (.clearConsumer c (i + 1) (ch + bit (decide (e' ≠ e) && !gone)) (dl + bit gone)) } := by
  unfold Delivery.walkStep
  rw [hw]
  exact dif_pos i.isLt

theorem walkStep_clearLane {q : Fin 17} {ch dl : Nat} (hw : u.walk = some (.clearLane q i ch dl)) :
    let e := u.table[i]
    let e' := e.withoutLane q
    let gone := e.valid && !e'.valid
    u.walkStep = { u with
      table := u.table.set i e'
      walk := some (.clearLane q (i + 1) (ch + bit (decide (e' ≠ e) && !gone)) (dl + bit gone)) } := by
  unfold Delivery.walkStep
  rw [hw]
  exact dif_pos i.isLt

end

theorem clearBit_eq {n : Nat} (m : BitVec n) (i : Nat) : clearBit m i = m &&& ~~~(1#n <<< i) := by
  have hbit : BitVec.ofNat n (2 ^ i) = 1#n <<< i := 
    BitVec.eq_of_toNat_eq (by simpa [Nat.shiftLeft_eq] using (Nat.pow_mod 2 i (2 ^ n)).symm)
  rw [clearBit, hbit]

theorem clearBit_ne {n : Nat} {m : BitVec n} {i : Nat} (h : m.getLsbD i = true) : clearBit m i ≠ m := by
  intro heq
  have hbit := congrArg (fun v : BitVec n => v.getLsbD i) heq
  have hi : i < n := BitVec.lt_of_getLsbD h
  rw [clearBit_eq] at hbit
  rw [BitVec.getLsbD_eq_getElem hi] at h
  simp [h, hi] at hbit

/-- R135: what a step of a clear does to the entry, and the two counts, by the entry's naming and what is left. -/
structure Cleared (e e' : TableEntry) (names emptied : Prop) (left : TableEntry) : Prop where
  kept : ¬ names → e' = e ∧ bit (decide (e' ≠ e) && !(e.valid && !e'.valid)) = 0 ∧ bit (e.valid && !e'.valid) = 0
  deleted : names → emptied → e' = zeroTableEntry ∧ bit (decide (e' ≠ e) && !(e.valid && !e'.valid)) = 0 ∧
    bit (e.valid && !e'.valid) = 1
  changed : names → ¬ emptied → e' = left ∧ bit (decide (e' ≠ e) && !(e.valid && !e'.valid)) = 1 ∧
    bit (e.valid && !e'.valid) = 0

/-- The counts follow from what becomes of the entry. -/
theorem cleared_of {e e' left : TableEntry} {names emptied : Prop} (hvalid : names → e.valid = true)
    (hkept : ¬ names → e' = e) (hdeleted : names → emptied → e' = zeroTableEntry)
    (hchanged : names → ¬ emptied → e' = left ∧ left.valid = e.valid ∧ left ≠ e) : Cleared e e' names emptied left where
  kept h := by
    rw [hkept h]
    simp [bit]
  deleted h h0 := by
    rw [hdeleted h h0, hvalid h]
    simp [bit, zeroTableEntry]
  changed h h0 := by
    obtain ⟨rfl, hv, hne⟩ := hchanged h h0
    simp [bit, hv, hne]

theorem cleared_consumer (e : TableEntry) (c : Fin 8) :
    Cleared e (e.withoutConsumer c) (e.valid = true ∧ e.consumers.getLsbD c.val = true)
      (e.consumers &&& ~~~(1#8 <<< c.val) = 0) { e with consumers := e.consumers &&& ~~~(1#8 <<< c.val) } := by
  unfold TableEntry.withoutConsumer hasBit
  rw [← clearBit_eq]
  refine cleared_of And.left (fun h => ?_) (fun h h0 => ?_) fun h h0 => ⟨?_, rfl, fun heq => ?_⟩
  · exact if_neg fun hb => h ((Bool.and_eq_true _ _).mp hb)
  · rw [if_pos ((Bool.and_eq_true _ _).mpr h), if_pos h0]
  · rw [if_pos ((Bool.and_eq_true _ _).mpr h), if_neg h0]
  · exact clearBit_ne h.2 (congrArg TableEntry.consumers heq)

theorem cleared_lane (e : TableEntry) (q : Fin 17) :
    Cleared e (e.withoutLane q) (e.valid = true ∧ e.laneMask.getLsbD q.val = true)
      (e.laneMask &&& ~~~(1#17 <<< q.val) = 0) { e with laneMask := e.laneMask &&& ~~~(1#17 <<< q.val) } := by
  unfold TableEntry.withoutLane hasBit
  rw [← clearBit_eq]
  refine cleared_of And.left (fun h => ?_) (fun h h0 => ?_) fun h h0 => ⟨?_, rfl, fun heq => ?_⟩
  · exact if_neg fun hb => h ((Bool.and_eq_true _ _).mp hb)
  · rw [if_pos ((Bool.and_eq_true _ _).mpr h), if_pos h0]
  · rw [if_pos ((Bool.and_eq_true _ _).mpr h), if_neg h0]
  · exact clearBit_ne h.2 (congrArg TableEntry.laneMask heq)

/-- A step of a clear, from what becomes of the entry. -/
theorem cleared_steps {e e' left : TableEntry} {names emptied : Prop} [Decidable names] [Decidable emptied]
    (h : Cleared e e' names emptied left) {table : Table TableEntry 64} {i : Fin 64} (hi : table[i] = e)
    {P : Nat → Nat → Table TableEntry 64 → Prop} {ch dl : Nat}
    (hstep : P (ch + bit (decide (e' ≠ e) && !(e.valid && !e'.valid))) (dl + bit (e.valid && !e'.valid)) (table.set i e')) :
    if ¬ names then P ch dl table
    else if emptied then P ch (dl + 1) (table.set i zeroTableEntry)
    else P (ch + 1) dl (table.set i left) := by
  by_cases hn : names
  · rw [if_neg (not_not.mpr hn)]
    by_cases h0 : emptied
    · obtain ⟨he', hch, hdl⟩ := h.deleted hn h0
      rw [hch, hdl, he'] at hstep
      rw [if_pos h0]
      exact hstep
    · obtain ⟨he', hch, hdl⟩ := h.changed hn h0
      rw [hch, hdl, he'] at hstep
      rw [if_neg h0]
      exact hstep
  · obtain ⟨he', hch, hdl⟩ := h.kept hn
    have hsame : table.set i table[i] = table := Vector.set_getElem_self i.isLt
    rw [hch, hdl, he', ← hi, hsame] at hstep
    rw [if_pos hn]
    exact hstep

/-- Settles O31: the start of each walk, its steps by the entry at the index, and its end. -/
theorem tableWalks : Obligations.TableWalks := by
  intro s tag q k c i ch dl r
  refine ⟨fun hw => ?_, fun hw => ?_, fun hw => ?_, fun hr => ⟨fun hw => ?_, fun hw => ?_, fun hw => ?_, fun hw hin => ?_,
    fun hw hin => ?_, fun hw hin => ?_, fun hw hin => ?_⟩⟩
  · exact takeCode_of_progress hw rfl (tableSearch_num q k (s.dev.begin _))
  · exact takeCode_of_progress hw rfl (tableClear_consumer c (s.dev.begin _))
  · exact takeCode_of_progress hw rfl (tableClear_lane q (s.dev.begin _))
  · have hstep := exec_walkStep hr
    rw [walkStep_search hw] at hstep
    split
    · next htakes =>
      rw [if_pos ((takesIn_iff q k _).mpr htakes)] at hstep
      exact hstep
    · next htakes =>
      rw [if_neg fun h => htakes ((takesIn_iff q k _).mp h)] at hstep
      exact hstep
  · have hstep := exec_walkStep hr
    rw [walkStep_clearConsumer hw] at hstep
    exact cleared_steps (cleared_consumer s.dev.delivery.table[i] c) (table := s.dev.delivery.table) (i := i) rfl
      (P := fun ch dl table => exec .tableWalkStep s = .next { s with dev := { s.dev with delivery :=
        { s.dev.delivery with walk := some (.clearConsumer c (i + 1) ch dl), table := table } } }) hstep
  · have hstep := exec_walkStep hr
    rw [walkStep_clearLane hw] at hstep
    exact cleared_steps (cleared_lane s.dev.delivery.table[i] q) (table := s.dev.delivery.table) (i := i) rfl
      (P := fun ch dl table => exec .tableWalkStep s = .next { s with dev := { s.dev with delivery :=
        { s.dev.delivery with walk := some (.clearLane q (i + 1) ch dl), table := table } } }) hstep
  · exact exec_walkEnd hr hw rfl hin
  · exact exec_walkEnd hr hw rfl hin
  · exact exec_walkEnd hr hw rfl hin
  · exact exec_walkEnd hr hw rfl hin

/-! ### Flushes -/

/-- A device with the pool after some references were given up and one consumer changed. -/
def flushed (d : Device) (c : Fin 8) (refs : List (Fin 512)) (f : Consumer → Consumer) : Device :=
  { d with pool := refs.foldl Pool.giveUp d.pool
           delivery := { d.delivery with consumers := upd d.delivery.consumers c f } }

section
variable (d : Device) (c : Fin 8) (refs : List (Fin 512)) (f : Consumer → Consumer)

theorem flushed_same : (flushed d c refs f).delivery.consumers[c] = f d.delivery.consumers[c] := upd_getElem_self _ c f

theorem flushed_others {k : Fin 8} (h : k ≠ c) : (flushed d c refs f).delivery.consumers[k] = d.delivery.consumers[k] :=
  upd_getElem_ne _ f h

theorem flushed_queues : (flushed d c refs f).pool.lanes = d.pool.lanes := Pool.foldl_giveUp_lanes refs d.pool

theorem flushed_change (g : Consumer → Consumer) : (flushed d c refs f).changeConsumer c g =
    flushed d c refs fun x => (g (f x)).syncStall d.delivery.stallTime :=
  congrArg (fun v => ({ d with pool := refs.foldl Pool.giveUp d.pool, delivery := { d.delivery with consumers := v } } : Device))
    (upd_upd d.delivery.consumers c f _)

end

theorem flush_eq (d : Device) (c : Fin 8) : d.flush c = flushed d c d.delivery.consumers[c].refs fun x =>
    ({ x with urgentQ := [], routineQ := [] }.miss d.delivery.consumers[c].refs.length).syncStall d.delivery.stallTime := rfl

theorem setDepth_eq (d : Device) (c : Fin 8) (depth : Nat) :
    d.setDepth c depth = flushed d c (d.delivery.consumers[c].excess depth) fun x =>
      { (x.trimmed depth).miss (d.delivery.consumers[c].excess depth).length with depth := depth }.syncStall
        d.delivery.stallTime := rfl

theorem excess_length (x : Consumer) (depth : Nat) :
    (x.excess depth).length = x.urgentQ.length + x.routineQ.length - depth := by
  have hqueued : x.queued = x.urgentQ.length + x.routineQ.length := rfl
  rw [Consumer.excess, List.length_take, List.length_append, List.length_reverse, List.length_reverse, hqueued]
  omega

/-- R140: with nothing queued the stall timer stops. -/
theorem syncStall_of_empty {x : Consumer} (hu : x.urgentQ = []) (hr : x.routineQ = []) (n : Nat) :
    x.syncStall n = { x with stallTimer := none } := by
  have hidle : x.stalling = false := by
    simp [Consumer.stalling, Consumer.queued, hu, hr]
  rw [Consumer.syncStall, hidle]
  rfl

theorem setConsumer_three {c : Fin 8} {dep st : Byte} {on : Bool} (hst : inBool st = some on) (d : Device) :
    setConsumer [num c, dep, st] d =
      answer (if on then (d.setDepth c (max 4 dep.toNat)).activate c else (d.setDepth c (max 4 dep.toNat)).deactivate c)
        (if 4 ≤ dep.toNat then .done else .doneClamped) := by
  have hdep := dep.isLt
  have hdepth : clampTo 4 255 dep.toNat = max 4 dep.toNat := by
    unfold clampTo
    omega
  have hclamp : decide (max 4 dep.toNat ≠ dep.toNat) = decide ¬ 4 ≤ dep.toNat := decide_eq_decide.mpr (by omega)
  unfold setConsumer
  dsimp only
  rw [inIndex_num c (by decide), hst, hdepth, hclamp, doneOr_decide]

theorem flushConsumer_num (c : Fin 8) (d : Device) : flushConsumer [num c] d =
    answer (d.flush c) .done [num (d.delivery.consumers[c].urgentQ.length + d.delivery.consumers[c].routineQ.length)] := by
  unfold flushConsumer
  dsimp only
  rw [inIndex_num c (by decide)]
  rfl

/-- R138: an ACTIVE setting, whole: the trimmed consumer, ACTIVE with credit 0 if it was INACTIVE. -/
def activated (x : Consumer) (depth stallTime : Nat) : Consumer :=
  let y := { (x.trimmed depth).miss (x.excess depth).length with depth := depth }.syncStall stallTime
  (if x.state = .inactive then { y with state := .active, credit := 0 } else y).syncStall stallTime

theorem activate_setDepth (d : Device) (c : Fin 8) (depth : Nat) : (d.setDepth c depth).activate c =
    flushed d c (d.delivery.consumers[c].excess depth) fun _ =>
      activated d.delivery.consumers[c] depth d.delivery.stallTime := by
  rw [setDepth_eq, Device.activate, flushed_change]
  exact congrArg (fun v => ({ d with
    pool := (d.delivery.consumers[c].excess depth).foldl Pool.giveUp d.pool
    delivery := { d.delivery with consumers := v } } : Device)) (upd_congr _ c rfl)

theorem activated_spec (x : Consumer) (depth stallTime : Nat) :
    let y := activated x depth stallTime
    let cut := x.urgentQ.length + x.routineQ.length - depth
    y.depth = depth ∧ y.state = (if x.state = .inactive then .active else x.state) ∧
    y.credit = (if x.state = .inactive then 0 else x.credit) ∧
    y.routineQ = x.routineQ.take (x.routineQ.length - cut) ∧
    y.urgentQ = x.urgentQ.take (x.urgentQ.length - (cut - x.routineQ.length)) ∧
    y.lossFlag = (x.lossFlag || decide (0 < cut)) ∧ y.drops = min 65535 (x.drops + cut) := by
  unfold activated
  rw [excess_length]
  by_cases h : x.state = .inactive
  · simp only [if_pos h]
    exact ⟨rfl, rfl, rfl, rfl, rfl, rfl, rfl⟩
  · simp only [if_neg h]
    exact ⟨rfl, rfl, rfl, rfl, rfl, rfl, rfl⟩

theorem flush_consumer (d : Device) (c : Fin 8) :
    let x := d.delivery.consumers[c]
    let n := x.urgentQ.length + x.routineQ.length
    (d.flush c).delivery.consumers[c] = { x with
      urgentQ := [], routineQ := [], lossFlag := x.lossFlag || decide (0 < n)
      drops := min 65535 (x.drops + n), stallTimer := none } := by
  intro x n
  have hn : x.refs.length = n := List.length_append
  rw [flush_eq, flushed_same, syncStall_of_empty rfl rfl, hn]
  rfl

/-- R138: with INACTIVE, what the new depth limit leaves is flushed too. -/
theorem deactivate_consumer (d : Device) (c : Fin 8) (depth : Nat) :
    let x := d.delivery.consumers[c]
    let n := x.urgentQ.length + x.routineQ.length
    ((d.setDepth c depth).deactivate c).delivery.consumers[c] = { x with
      state := .inactive, credit := 0, depth := depth, urgentQ := [], routineQ := []
      lossFlag := x.lossFlag || decide (0 < n), drops := min 65535 (x.drops + n), stallTimer := none } := by
  intro x n
  have hset : (d.setDepth c depth).delivery.consumers[c] =
      { (x.trimmed depth).miss (n - depth) with depth := depth }.syncStall d.delivery.stallTime := by
    rw [setDepth_eq, flushed_same, excess_length]
  have hflush := flush_consumer (d.setDepth c depth) c
  rw [hset] at hflush
  have hleft : ((x.trimmed depth).urgentQ.length + (x.trimmed depth).routineQ.length) = n - (n - depth) := by
    simp only [Consumer.trimmed, Consumer.queued, List.length_take]
    omega
  have hchange : ((d.setDepth c depth).deactivate c).delivery.consumers[c] =
      { ((d.setDepth c depth).flush c).delivery.consumers[c] with state := .inactive, credit := 0 }.syncStall
        ((d.setDepth c depth).flush c).delivery.stallTime := upd_getElem_self _ c _
  rw [hchange, hflush, syncStall_of_empty rfl rfl]
  have hdrops : min 65535 (min 65535 (x.drops + (n - depth)) + (n - (n - depth))) = min 65535 (x.drops + n) := by omega
  have hloss : ((x.lossFlag || decide (0 < n - depth)) || decide (0 < n - (n - depth))) = (x.lossFlag || decide (0 < n)) := by
    rw [Bool.or_assoc, ← Bool.decide_or]
    exact congrArg (x.lossFlag || ·) (decide_eq_decide.mpr (by omega))
  rw [← hdrops, ← hloss, ← hleft]
  rfl

theorem deactivate_others (d : Device) (c : Fin 8) (depth : Nat) {k : Fin 8} (h : k ≠ c) :
    ((d.setDepth c depth).deactivate c).delivery.consumers[k] = d.delivery.consumers[k] := by
  have hchange : ((d.setDepth c depth).deactivate c).delivery.consumers[k] =
      ((d.setDepth c depth).flush c).delivery.consumers[k] := upd_getElem_ne _ _ h
  rw [hchange, flush_eq, flushed_others _ _ _ _ h, setDepth_eq, flushed_others _ _ _ _ h]

theorem deactivate_queues (d : Device) (c : Fin 8) (depth : Nat) :
    ((d.setDepth c depth).deactivate c).pool.lanes = d.pool.lanes := by
  have hchange : ((d.setDepth c depth).deactivate c).pool.lanes = ((d.setDepth c depth).flush c).pool.lanes := rfl
  rw [hchange, flush_eq, flushed_queues, setDepth_eq, flushed_queues]

theorem deactivate_frame (d : Device) (c : Fin 8) (depth : Nat) : (d.setDepth c depth).deactivate c =
    { d with pool := ((d.setDepth c depth).deactivate c).pool
             delivery := ((d.setDepth c depth).deactivate c).delivery } := rfl

/-- R141: the consumer's flush, then CONSUMER-STALLED on the device queue. -/
theorem stallExpiry_eq {d : Device} {c : Fin 8} (ht : d.delivery.consumers[c].stallTimer.isSome)
    (hroom : room d deviceQueue 1) :
    let x := d.delivery.consumers[c]
    let e := flushed d c x.refs fun x => { x with
      state := .stalled, urgentQ := [], routineQ := [], lossFlag := true
      drops := min 65535 (x.drops + (x.urgentQ.length + x.routineQ.length)), stallTimer := none }
    stallExpiry c d = { e with pool := queued e deviceQueue .consumerStalled none c 0 } := by
  intro x e
  obtain ⟨m, hm⟩ := Option.isSome_iff_exists.mp ht
  have hflush : (d.giveUpAll x.refs).changeConsumer c
      (fun k => { { k with state := .stalled, urgentQ := [], routineQ := [] }.miss x.refs.length with lossFlag := true }) =
      e := by
    refine congrArg (fun v => ({ d with
      pool := x.refs.foldl Pool.giveUp d.pool, delivery := { d.delivery with consumers := v } } : Device)) (upd_congr _ c ?_)
    have hn : x.refs.length = x.urgentQ.length + x.routineQ.length := List.length_append
    dsimp only
    rw [syncStall_of_empty rfl rfl, hn]
    rfl
  have hexpiry : stallExpiry c d = e.offer deviceQueue (notice (.consumerStalled, none, c.val, 0)) := by
    rw [← hflush]
    unfold stallExpiry
    rw [hm]
    rfl
  have hroom' : room e deviceQueue 1 := by
    rw [room, flushed_queues]
    exact hroom
  rw [hexpiry, offer_notice _ hroom']

theorem exec_stallExpiry {s : State} (hr : s.dev.inReset = false) (c : Fin 8) :
    exec (.stallTimerExpiry c) s = .next { s with dev := stallExpiry c s.dev } :=
  (exec_stallTimerExpiry s c).trans ((s.runAt_of_lt _ _ c.isLt).trans (s.run_of_running _ hr))

theorem setConsumer_active (c : Fin 8) (dep : Byte) (d : Device) : setConsumer [num c, dep, 1] d =
    answer (flushed d c (d.delivery.consumers[c].excess (max 4 dep.toNat)) fun _ =>
        activated d.delivery.consumers[c] (max 4 dep.toNat) d.delivery.stallTime)
      (if 4 ≤ dep.toNat then .done else .doneClamped) := by
  rw [setConsumer_three rfl, if_pos rfl, activate_setDepth]

theorem setConsumer_inactive (c : Fin 8) (dep : Byte) (d : Device) : setConsumer [num c, dep, 0] d =
    answer ((d.setDepth c (max 4 dep.toNat)).deactivate c) (if 4 ≤ dep.toNat then .done else .doneClamped) := by
  rw [setConsumer_three rfl, if_neg Bool.false_ne_true]

/-- R138: the part after an ACTIVE setting, item by item. -/
theorem activated_part {d e : Device} {c : Fin 8} {depth : Nat} (hpool : e.pool =
      (d.delivery.consumers[c].excess depth).foldl Pool.giveUp d.pool)
    (hconsumers : e.delivery.consumers = upd d.delivery.consumers c fun _ =>
      activated d.delivery.consumers[c] depth d.delivery.stallTime) :
    let x := d.delivery.consumers[c]
    let cut := x.urgentQ.length + x.routineQ.length - depth
    e.delivery.consumers[c].depth = depth ∧
    e.delivery.consumers[c].state = (if x.state = .inactive then .active else x.state) ∧
    e.delivery.consumers[c].credit = (if x.state = .inactive then 0 else x.credit) ∧
    e.delivery.consumers[c].routineQ = x.routineQ.take (x.routineQ.length - cut) ∧
    e.delivery.consumers[c].urgentQ = x.urgentQ.take (x.urgentQ.length - (cut - x.routineQ.length)) ∧
    e.delivery.consumers[c].lossFlag = (x.lossFlag || decide (0 < cut)) ∧
    e.delivery.consumers[c].drops = min 65535 (x.drops + cut) ∧ e.pool.lanes = d.pool.lanes ∧
    e.pool = ((x.routineQ.reverse ++ x.urgentQ.reverse).take cut).foldl Pool.giveUp d.pool ∧
    (∀ k : Fin 8, k ≠ c → e.delivery.consumers[k] = d.delivery.consumers[k]) := by
  intro x cut
  have hc : e.delivery.consumers[c] = activated x depth d.delivery.stallTime := by
    rw [hconsumers, upd_getElem_self]
  obtain ⟨hdepth, hstate, hcredit, hroutine, hurgent, hloss, hdrops⟩ := activated_spec x depth d.delivery.stallTime
  rw [hc, hpool, hconsumers]
  exact ⟨hdepth, hstate, hcredit, hroutine, hurgent, hloss, hdrops, Pool.foldl_giveUp_lanes _ _, rfl,
    fun k hk => upd_getElem_ne _ _ hk⟩

/-- Settles O32: each request through its flush, and the expiry through its own. -/
theorem consumerFlushes : Obligations.ConsumerFlushes := by
  refine ⟨fun s tag dep c => ⟨fun hw => ?_, fun hw => ?_, fun hw => ?_⟩, fun s c hr ht hroom => ?_⟩
  · generalize he : flushed s.dev c (s.dev.delivery.consumers[c].excess (max 4 dep.toNat)) (fun _ =>
      activated s.dev.delivery.consumers[c] (max 4 dep.toNat) s.dev.delivery.stallTime) = e
    have hrun : exec .setConsumer s = .next { s with dev := { e with
        trunk := answered s.dev.trunk (request tag 0x3E [num c, dep, 1])
          (if 4 ≤ dep.toNat then .done else .doneClamped) [] } } := by
      rw [← he]
      have hset := takeCode_of_answer (code := rcSetConsumer) (carry := setConsumer) hw rfl
        (setConsumer_active c dep (s.dev.begin _)) rfl
      exact hset
    obtain ⟨hdepth, hstate, hcredit, hroutine, hurgent, hloss, hdrops, hqueues, hpool, hothers⟩ :=
      activated_part (congrArg Device.pool he).symm (congrArg (fun e : Device => e.delivery.consumers) he).symm
    refine ⟨_, hrun, rfl, hdepth, hstate, hcredit, hroutine, hurgent, hloss, hdrops, hqueues, hpool, hothers, ?_, ?_⟩
    · rw [← he]
      rfl
    · rw [← he]
      rfl
  · have hconsumer := deactivate_consumer (s.dev.begin (request tag 0x3E [num c, dep, 0])) c (max 4 dep.toNat)
    have hothers (k : Fin 8) (hk : k ≠ c) :=
      deactivate_others (s.dev.begin (request tag 0x3E [num c, dep, 0])) c (max 4 dep.toNat) hk
    have hqueues := deactivate_queues (s.dev.begin (request tag 0x3E [num c, dep, 0])) c (max 4 dep.toNat)
    have hframe := deactivate_frame (s.dev.begin (request tag 0x3E [num c, dep, 0])) c (max 4 dep.toNat)
    have hset := setConsumer_inactive c dep (s.dev.begin (request tag 0x3E [num c, dep, 0]))
    generalize ((s.dev.begin (request tag 0x3E [num c, dep, 0])).setDepth c (max 4 dep.toNat)).deactivate c = e at *
    have htrunk : e.trunk = started s.dev.trunk (request tag 0x3E [num c, dep, 0]) := congrArg Device.trunk hframe
    exact ⟨_, takeCode_of_answer hw rfl hset htrunk, rfl, hconsumer, hothers, hqueues,
      congrArg (fun e : Device => ({ e with trunk := answered s.dev.trunk (request tag 0x3E [num c, dep, 0])
                                              (if 4 ≤ dep.toNat then .done else .doneClamped) [] } : Device)) hframe⟩
  · refine ⟨_, takeCode_of_answer hw rfl (flushConsumer_num c (s.dev.begin _)) rfl, rfl, ?_⟩
    exact ⟨flush_consumer (s.dev.begin _) c, fun k hk => upd_getElem_ne _ _ hk, rfl,
      Pool.foldl_giveUp_lanes _ s.dev.pool, rfl⟩
  · refine ⟨_, exec_stallExpiry hr c, rfl, ?_⟩
    dsimp only
    rw [stallExpiry_eq ht hroom]
    exact ⟨upd_getElem_self _ c _, fun k hk => upd_getElem_ne _ _ hk, rfl, rfl⟩

end Sys2Proof.DeliveryUnit

/-! ## Kicks, the sense filter, pulses and the limit timer (R149, R151 to R161) -/

namespace Sys2Proof.DrawerEvents

open Sys2Proof.Machine Sys2Proof.Claims Sys2Proof.Events Sys2Proof.OpenCounter Sys2Proof.KeyEvents Sys2Proof.RecordEnds
  Sys2Proof.SupplyKept Sys2Proof.Admission

/-! ### One drawer's record, the wait list and the pool -/

/-- The part with one drawer's record, the wait list and the pool replaced. -/
def withRecord (d : Device) (n : Fin 32) (w : Drawer) (list : List (Fin 32)) (p : Pool) : Device :=
  { d with drawers := { d.drawers with drawers := d.drawers.drawers.set n w, waitList := list }, pool := p }

theorem withDrawer_eq (s : State) (n : Fin 32) (w : Drawer) (list : List (Fin 32)) (p : Pool) :
    withDrawer s n w list p = { s with dev := withRecord s.dev n w list p } := rfl

theorem updDrawer_eq (d : Device) (n : Fin 32) (f : Drawer → Drawer) :
    d.updDrawer n f = withRecord d n (f d.drawers.drawers[n]) d.drawers.waitList d.pool := rfl

theorem withRecord_record (d : Device) (n : Fin 32) (w : Drawer) (list : List (Fin 32)) (p : Pool) :
    (withRecord d n w list p).drawers.drawers[n] = w := upd_getElem_self _ n fun _ => w

theorem withRecord_withRecord (d : Device) (n : Fin 32) (v w : Drawer) (xs ys : List (Fin 32)) (p r : Pool) :
    withRecord (withRecord d n v xs p) n w ys r = withRecord d n w ys r :=
  congrArg (fun t => ({ d with drawers := { d.drawers with drawers := t, waitList := ys }, pool := r } : Device))
    (upd_upd d.drawers.drawers n (fun _ => v) fun _ => w)

theorem updDrawer_withRecord (d : Device) (n : Fin 32) (w : Drawer) (list : List (Fin 32)) (p : Pool) (f : Drawer → Drawer) :
    (withRecord d n w list p).updDrawer n f = withRecord d n (f w) list p := by
  rw [updDrawer_eq, withRecord_record, withRecord_withRecord]
  rfl

theorem countNotice_eq (k : Kind) (n : Fin 32) (count : Nat) :
    countNotice k n count = notice (k, drawerSource n, count, count / 256) := by
  unfold countNotice
  rw [detailLow_eq_num]
  rfl

/-- An event of a drawer, with room for it. -/
theorem offerDrawer_withRecord {d : Device} {n : Fin 32} {w : Drawer} {list : List (Fin 32)} {p : Pool} (k : Kind)
    (d1 d2 : Nat) (h : p.lanes[laneQueue (laneOf n)].queue.length + 1 ≤ 8) :
    (withRecord d n w list p).offerDrawer n (notice (k, drawerSource n, d1, d2)) =
      withRecord d n w list (queued { d with pool := p } (laneQueue (laneOf n)) k (drawerSource n) d1 d2) :=
  offer_notice (d := withRecord d n w list p) (k, drawerSource n, d1, d2) h

theorem offerDrawer_unit {d : Device} {n : Fin 32} (u : DrawerUnit) (k : Kind) (d1 d2 : Nat)
    (h : room d (laneQueue (laneOf n)) 1) :
    ({ d with drawers := u } : Device).offerDrawer n (notice (k, drawerSource n, d1, d2)) =
      { d with drawers := u, pool := queued d (laneQueue (laneOf n)) k (drawerSource n) d1 d2 } :=
  offer_notice (d := { d with drawers := u }) (k, drawerSource n, d1, d2) h

theorem exec_drawer {s : State} {c : Nat → Instr} {f : Fin 32 → Device → Device}
    (hexec : ∀ n, exec (c n) s = s.runAt 32 n .noSuchDrawer f) (hr : s.dev.inReset = false) (n : Fin 32) :
    exec (c n) s = .next { s with dev := f n s.dev } :=
  (hexec n).trans ((s.runAt_of_lt _ _ n.isLt).trans (s.run_of_running _ hr))

/-! ### KICK -/

theorem refuseKick_eq {d : Device} {n : Fin 32} (why : KickRefusal) (h : room d (laneQueue (laneOf n)) 1) :
    d.refuseKick n .request why =
      { d with pool := queued d (laneQueue (laneOf n)) .kickRefused (drawerSource n) why.code 0 } :=
  offer_notice (.kickRefused, drawerSource n, why.code, 0) h

theorem kick_num (n : Fin 32) (d : Device) :
    onDrawer kickReq [num n] d = answer (d.requestKick n .request).1 (d.requestKick n .request).2.reply :=
  onDrawer_num kickReq n d

theorem interlock_unlocked {d : Device} {l : Fin 16} (h : (d.lanes[l].state = .opened ∧
      (d.lanes[l].keyLock = .supv ∨ d.lanes[l].keyLock = .mgr)) ∨ (d.lanes[l].state ≠ .opened ∧ d.lanes[l].keyLock = .mgr)) :
    d.interlock l = (d, true) := by
  unfold Device.interlock
  rcases h with ⟨hs, hk | hk⟩ | ⟨hs, hk⟩
  · rw [hs, hk]
  · rw [hs, hk]
  · rw [hk]
    cases h : d.lanes[l].state with
    | opened => exact absurd h hs
    | closed | suspended | faulted => rfl

theorem interlock_consumes {d : Device} {l : Fin 16} (h : d.lanes[l].state = .opened ∧ d.lanes[l].keyLock = .reg ∧
      d.lanes[l].windowOpen = true) : d.interlock l = (d.updLane l LaneRec.closeWindow, true) := by
  obtain ⟨hs, hk, hw⟩ := h
  unfold Device.interlock
  rw [hs, hk]
  exact if_pos hw

theorem interlock_stops {d : Device} {l : Fin 16} (h1 : ¬ ((d.lanes[l].state = .opened ∧
      (d.lanes[l].keyLock = .supv ∨ d.lanes[l].keyLock = .mgr)) ∨ (d.lanes[l].state ≠ .opened ∧ d.lanes[l].keyLock = .mgr)))
    (h2 : ¬ (d.lanes[l].state = .opened ∧ d.lanes[l].keyLock = .reg ∧ d.lanes[l].windowOpen = true)) :
    d.interlock l = (d, false) := by
  unfold Device.interlock
  cases hs : d.lanes[l].state with
  | opened =>
    cases hk : d.lanes[l].keyLock with
    | locked => rfl
    | reg => exact if_neg fun hw => h2 ⟨hs, hk, hw⟩
    | supv => exact absurd (.inl ⟨hs, .inl hk⟩) h1
    | mgr => exact absurd (.inl ⟨hs, .inr hk⟩) h1
  | closed | suspended | faulted =>
    have hk : d.lanes[l].keyLock ≠ .mgr := fun hk => h1 (.inr ⟨by rw [hs]; decide, hk⟩)
    exact congrArg (Prod.mk d) (beq_eq_false_iff_ne.mpr hk)

section
variable {d : Device} {n : Fin 32} (o : Origin)

theorem requestKick_unsettled (h : d.drawers.drawers[n].present = false ∨ d.drawers.drawers[n].settled = false) :
    d.requestKick n o = (d.refuseKick n o .state, .refused .state) := by
  refine if_pos ?_
  rw [Bool.or_eq_true, Bool.not_eq_true', Bool.not_eq_true']
  exact h

variable (h1 : ¬ (d.drawers.drawers[n].present = false ∨ d.drawers.drawers[n].settled = false))
include h1

theorem requestKick_ready : d.requestKick n o =
    if d.drawers.drawers[n].kick ≠ .idle then (d, .merged)
    else if d.drawers.drawers[n].position = .opened then (d.refuseKick n o .state, .refused .state)
    else if d.drawers.inhibit then (d.refuseKick n o .inhibited, .refused .inhibited)
    else if (d.interlock (laneOf n)).2 then ((d.interlock (laneOf n)).1.acceptKick n, .accepted)
    else ((d.interlock (laneOf n)).1.refuseKick n o .interlock, .refused .interlock) := by
  refine if_neg fun h => h1 ?_
  rw [Bool.or_eq_true, Bool.not_eq_true', Bool.not_eq_true'] at h
  exact h

end

/-- Settles O33: the tests of R151 in their order, then the interlock's three cases. -/
theorem kickRequest : Obligations.KickRequest := by
  intro s tag n r w l x refused accepted hw hroom
  have hrow (e : Device) (k : KickResult) (h : (s.dev.begin r).requestKick n .request = (e, k))
      (htrunk : e.trunk = started s.dev.trunk r) :
      exec .kick s = .next { s with dev := { e with trunk := answered s.dev.trunk r k.reply [] } } := by
    refine takeCode_of_answer hw rfl ((kick_num n (s.dev.begin r)).trans ?_) htrunk
    rw [h]
  have hrefused (why : KickRefusal) (h : (s.dev.begin r).requestKick n .request =
      ((s.dev.begin r).refuseKick n .request why, .refused why)) : refused why.code why.reply := by
    rw [refuseKick_eq (d := s.dev.begin r) why hroom] at h
    exact hrow _ _ h rfl
  by_cases h1 : w.present = false ∨ w.settled = false
  · rw [if_pos h1]
    exact hrefused .state (requestKick_unsettled .request h1)
  · have hready := requestKick_ready (d := s.dev.begin r) (n := n) .request h1
    rw [if_neg h1]
    by_cases h2 : w.kick ≠ .idle
    · rw [if_pos h2]
      exact hrow _ _ (hready.trans (if_pos h2)) rfl
    · replace hready := hready.trans (if_neg h2)
      rw [if_neg h2]
      by_cases h3 : w.position = .opened
      · rw [if_pos h3]
        exact hrefused .state (hready.trans (if_pos h3))
      · replace hready := hready.trans (if_neg h3)
        rw [if_neg h3]
        by_cases h4 : s.dev.drawers.inhibit = true
        · rw [if_pos h4]
          exact hrefused .inhibited (hready.trans (if_pos h4))
        · replace hready := hready.trans (if_neg h4)
          rw [if_neg h4]
          by_cases h5 : (x.state = .opened ∧ (x.keyLock = .supv ∨ x.keyLock = .mgr)) ∨
              (x.state ≠ .opened ∧ x.keyLock = .mgr)
          · rw [if_pos h5]
            rw [interlock_unlocked (d := s.dev.begin r) (l := laneOf n) h5] at hready
            exact hrow _ _ hready rfl
          · rw [if_neg h5]
            by_cases h6 : x.state = .opened ∧ x.keyLock = .reg ∧ x.windowOpen = true
            · rw [if_pos h6]
              rw [interlock_consumes (d := s.dev.begin r) (l := laneOf n) h6] at hready
              exact hrow _ _ hready rfl
            · rw [if_neg h6]
              rw [interlock_stops (d := s.dev.begin r) (l := laneOf n) h5 h6] at hready
              exact hrefused .interlock hready

/-! ### The sense filter -/

theorem exec_sense {s : State} (hr : s.dev.inReset = false) (n : Fin 32) (isOpen : Bool) :
    exec (.senseChange n isOpen) s = .next { s with dev := senseChange isOpen n s.dev } :=
  exec_drawer (c := fun n => .senseChange n isOpen) (fun n => exec_senseChange s n isOpen) hr n

theorem exec_stability {s : State} (hr : s.dev.inReset = false) (n : Fin 32) :
    exec (.stabilityTimerExpiry n) s = .next { s with dev := stabilityExpiry n s.dev } :=
  exec_drawer (c := fun n => .stabilityTimerExpiry n) (exec_stabilityTimerExpiry s) hr n

theorem senseChange_eq (isOpen : Bool) (n : Fin 32) (d : Device) :
    let w := d.drawers.drawers[n]
    let v := if isOpen then Position.opened else .closed
    senseChange isOpen n d = withRecord d n
      (if w.senseInput = v then w
       else if w.present then { w with senseInput := v, candidate := v, stability := some 10 }
       else { w with senseInput := v }) d.drawers.waitList d.pool := rfl

/-- R149: the expiry of a settled drawer's stability timer with the position confirmed, or of an unsettled one's. -/
theorem stabilityExpiry_silent {d : Device} {n : Fin 32} (ht : d.drawers.drawers[n].stability.isSome) :
    let w := d.drawers.drawers[n]
    (w.settled = false → stabilityExpiry n d =
      withRecord d n { w with stability := none }.settle d.drawers.waitList d.pool) ∧
    (w.settled = true → w.candidate = w.position → stabilityExpiry n d =
      withRecord d n { w with stability := none } d.drawers.waitList d.pool) := by
  obtain ⟨m, hm⟩ := Option.isSome_iff_exists.mp ht
  unfold stabilityExpiry
  dsimp only
  rw [hm]
  refine ⟨fun hs => ?_, fun hs hc => ?_⟩
  · dsimp only
    rw [if_pos (Bool.eq_false_iff.mp hs), updDrawer_eq d, updDrawer_withRecord]
  · dsimp only
    rw [if_neg (not_not_intro hs), if_pos hc, updDrawer_eq]

theorem settle_eq (w : Drawer) : w.settle = if w.candidate = .closed then { w with position := .closed, settled := true }
    else limitLoaded { w with position := .opened, settled := true, openTime := 0 } := by
  unfold Drawer.settle
  cases h : w.candidate <;> rfl

/-- Settles O36: the change by its tests, the silent expiries by theirs. -/
theorem senseFilter : Obligations.SenseFilter := by
  intro s n isOpen hr w v list
  refine ⟨fun hne hp => ?_, fun hne hp => ?_, fun ht hs => ?_, fun ht hs hc => ?_⟩
  · rw [exec_sense hr n isOpen, senseChange_eq, if_neg hne, if_pos hp]
    rfl
  · rw [exec_sense hr n isOpen, senseChange_eq, if_neg hne, if_neg (Bool.eq_false_iff.mp hp)]
    rfl
  · rw [exec_stability hr n, (stabilityExpiry_silent ht).1 hs, settle_eq]
    rfl
  · rw [exec_stability hr n, (stabilityExpiry_silent ht).2 hs hc]
    rfl

/-! ### Openings and closings -/

theorem abortWaiting_withRecord (d : Device) (n : Fin 32) (w : Drawer) (list : List (Fin 32)) (p : Pool) (cause : Nat) :
    (withRecord d n w list p).abortWaiting n cause =
      (withRecord d n { w with kick := .idle } (list.filter (· ≠ n)) p).offerDrawer n
        (notice (.kickAborted, drawerSource n, cause, 0)) :=
  congrArg (fun e : Device => e.offerDrawer n (notice (.kickAborted, drawerSource n, cause, 0)))
    (congrArg (fun t => ({ d with
      drawers := { d.drawers with drawers := t, waitList := list.filter (· ≠ n) }, pool := p } : Device))
      ((upd_upd d.drawers.drawers n (fun _ => w) fun w => { w with kick := .idle })))

/-- R159: an accepted opening, by the kick state. -/
theorem opening_eq {d : Device} {n : Fin 32} (hroom : room d (laneQueue (laneOf n)) 2) :
    let w := d.drawers.drawers[n]
    let q := laneQueue (laneOf n)
    let from' := drawerSource n
    let count := min 65535 (w.openCount + 1)
    let up := limitLoaded { w with position := .opened, openCount := count, openTime := 0, limitsPassed := 0 }
    let list := d.drawers.waitList
    d.opening n = match w.kick with
      | .energized => withRecord d n { up with openedInPulse := true } list
          (queued d q .drawerOpened from' count (count / 256))
      | .confirming => withRecord d n { up with kick := .idle, kickTimer := none } list
          (queuedAll d q [(.drawerOpened, from', count, count / 256), (.kickDone, from', 1, 0)])
      | .idle => withRecord d n up list (queued d q .forcedOpen from' count (count / 256))
      | .waiting => withRecord d n { up with kick := .idle } (list.filter (· ≠ n))
          (queuedAll d q [(.forcedOpen, from', count, count / 256), (.kickAborted, from', 1, 0)]) := by
  intro w q from' count up list
  have hup : d.updDrawer n Drawer.becomeOpen = withRecord d n up list d.pool := rfl
  have hcount : (d.updDrawer n Drawer.becomeOpen).drawers.drawers[n].openCount = count :=
    updDrawer_becomeOpen_openCount d n
  have hroom1 : d.pool.lanes[q].queue.length + 1 ≤ 8 := Nat.le_of_succ_le hroom
  have hroom2 (k : Kind) : (queued d q k from' count (count / 256)).lanes[q].queue.length + 1 ≤ 8 := by
    have hlen := queuedAll_length d q [(k, from', count, count / 256)]
    have hroom : d.pool.lanes[q].queue.length + 2 ≤ 8 := hroom
    have hlen : (queued d q k from' count (count / 256)).lanes[q].queue.length = d.pool.lanes[q].queue.length + 1 := hlen
    omega
  unfold Device.opening
  dsimp only
  rw [hcount, hup]
  simp only [countNotice_eq]
  cases hk : d.drawers.drawers[n].kick with
  | energized =>
    dsimp only
    rw [updDrawer_withRecord, offerDrawer_withRecord _ _ _ hroom1]
  | confirming =>
    dsimp only
    rw [updDrawer_withRecord, offerDrawer_withRecord _ _ _ hroom1]
    exact offerDrawer_withRecord .kickDone 1 0 (hroom2 .drawerOpened)
  | idle =>
    dsimp only
    rw [offerDrawer_withRecord _ _ _ hroom1]
  | waiting =>
    dsimp only
    rw [offerDrawer_withRecord _ _ _ hroom1, abortWaiting_withRecord]
    exact offerDrawer_withRecord .kickAborted 1 0 (hroom2 .forcedOpen)

/-- R160: an accepted closing. -/
theorem closing_eq {d : Device} {n : Fin 32} (hroom : room d (laneQueue (laneOf n)) 1) :
    let w := d.drawers.drawers[n]
    d.closing n = withRecord d n
      { w with position := .closed, limitTimer := none, limitSubMs := 0, limitsPassed := 0 } d.drawers.waitList
      (appended d.pool (laneQueue (laneOf n)) (entryOf d (laneQueue (laneOf n)) .drawerClosed (drawerSource n) w.openCount
        (w.openCount / 256)
        (.bytes [num w.openTime, num (w.openTime / 256), num (w.openTime / 65536), num (w.openTime / 16777216)]))) := by
  intro w
  have hnotice : countNotice .drawerClosed n w.openCount (.bytes (out4 w.openTime)) =
      { kind := .drawerClosed, source := drawerSource n, detail1 := num w.openCount, detail2 := num (w.openCount / 256)
        body := .bytes [num w.openTime, num (w.openTime / 256), num (w.openTime / 65536), num (w.openTime / 16777216)] } := by
    unfold countNotice
    rw [detailLow_eq_num]
    rfl
  unfold Device.closing
  dsimp only
  rw [hnotice]
  exact offer_eq_appended (d := withRecord d n _ d.drawers.waitList d.pool) _ hroom

/-- Settles O37: the expiry with a new position, through the opening or the closing. -/
theorem openingAndClosing : Obligations.OpeningAndClosing := by
  intro s n hr
  dsimp only
  intro ht hs hroom
  have hrecord := withRecord_record s.dev n { s.dev.drawers.drawers[n] with stability := none }
    s.dev.drawers.waitList s.dev.pool
  refine ⟨fun hc hp => ?_, fun hc hp => ?_⟩
  · have hne : s.dev.drawers.drawers[n].candidate ≠ s.dev.drawers.drawers[n].position := by
      rw [hc, hp]
      decide
    rw [exec_stability hr n, stabilityExpiry_of_change ht hs hne]
    dsimp only
    rw [if_pos hc, updDrawer_eq, opening_eq (d := withRecord s.dev n _ s.dev.drawers.waitList s.dev.pool) hroom, hrecord]
    dsimp only
    cases hk : s.dev.drawers.drawers[n].kick with
    | idle | energized | confirming | waiting =>
      dsimp only
      rw [withRecord_withRecord]
      rfl
  · have hne : s.dev.drawers.drawers[n].candidate ≠ s.dev.drawers.drawers[n].position := by
      rw [hc, hp]
      decide
    have hno : ¬ s.dev.drawers.drawers[n].candidate = .opened := by
      rw [hc]
      decide
    rw [exec_stability hr n, stabilityExpiry_of_change ht hs hne]
    dsimp only
    rw [if_neg hno, updDrawer_eq, closing_eq (d := withRecord s.dev n _ s.dev.drawers.waitList s.dev.pool)
      (Nat.le_of_succ_le hroom), hrecord]
    dsimp only
    rw [withRecord_withRecord]
    rfl

/-! ### Grants, pulses and confirmations -/

theorem freeUnit_iff (u : DrawerUnit) (i : Fin 8) : u.freeUnit = some i ↔
    (i.val < u.supplyLimit ∧ u.units[i].state = .available) ∧
      ∀ j : Fin 8, j < i → ¬ (j.val < u.supplyLimit ∧ u.units[j].state = .available) := by
  unfold DrawerUnit.freeUnit
  rw [finRange_find]
  simp only [Bool.and_eq_true, decide_eq_true_eq, beq_iff_eq]

theorem freeUnit_none (u : DrawerUnit) (h : ∀ i : Fin 8, i.val < u.supplyLimit → u.units[i].state ≠ .available) :
    u.freeUnit = none := by
  refine List.find?_eq_none.mpr fun i _ hi => ?_
  simp only [Bool.and_eq_true, decide_eq_true_eq, beq_iff_eq] at hi
  exact h i hi.1 hi.2

/-- Settles O38: the grant made from its conditions, and each condition's failure. -/
theorem kickGrant : Obligations.KickGrant := by
  intro s hr u
  have hrun : exec .kickGrant s = .next { s with dev := Machine.kickGrant s.dev } :=
    (exec_kickGrant s).trans (s.run_of_running _ hr)
  refine ⟨fun n rest i hi hp hw hlt ha hfirst => ?_, fun h => ?_⟩
  · intro pulse
    have hunit : u.freeUnit = some i :=
      (freeUnit_iff u i).mpr ⟨⟨hlt, ha⟩, fun j hj hboth => hfirst j hj hboth.2⟩
    have hnext : u.nextGrant = some (n, i) := by
      unfold DrawerUnit.nextGrant
      rw [hi, hp, hw, hunit]
      rfl
    have hgrant : Machine.kickGrant s.dev = s.dev.updDrawers fun u => u.grant n i := by
      unfold Machine.kickGrant
      rw [hnext]
    have hrest : rest = u.waitList.tail := by
      rw [hw]
      rfl
    rw [hrun, hgrant, hrest]
    rfl
  · have hnext : u.nextGrant = none := by
      unfold DrawerUnit.nextGrant
      rcases h with h | h | h | h
      · rw [h]
        rfl
      · rw [h, Bool.or_true]
        rfl
      · rw [h]
        split <;> rfl
      · rw [freeUnit_none u h]
        split
        · rfl
        · cases u.waitList.head? <;> rfl
    have hkeep : Machine.kickGrant s.dev = s.dev := by
      unfold Machine.kickGrant
      rw [hnext]
    rw [hrun, hkeep]

theorem freeUp_eq (u : DrawerUnit) (i : Fin 8) : u.freeUp i = freed u i := by
  have hall : ({ u with units := u.units.set i { state := .available, timer := none } } : DrawerUnit).unitsInUse = 0 ↔
      ∀ j : Fin 8, j ≠ i → u.units[j].state = .available := by
    rw [unitsInUse_eq_zero, supply_setUnit]
    refine ⟨fun h j hj => (Function.update_of_ne hj _ _).symm.trans (h j), fun h j => ?_⟩
    rcases eq_or_ne j i with rfl | hj
    · exact Function.update_self _ _ _
    · exact (Function.update_of_ne hj _ _).trans (h j hj)
  unfold DrawerUnit.freeUp freed
  dsimp only
  cases hp : u.pendingLimit with
  | none => simp only [Option.getD_none, ite_self]
  | some k =>
    dsimp only
    rw [hp] at hall
    by_cases h : ∀ j : Fin 8, j ≠ i → u.units[j].state = .available
    · rw [if_pos (hall.mpr h), if_pos h, if_pos h, Option.getD_some]
    · rw [if_neg (mt hall.mp h), if_neg h, if_neg h]

/-- R156: the unit held by a drawer begins to recover, or is AVAILABLE at once. -/
theorem releaseUnit_eq {u : DrawerUnit} {n : Fin 32} {i : Fin 8} (h : u.drawers[n].unitHeld = some i) :
    u.releaseUnit n = { (if u.supplyGap = 0 then freed u i
        else { u with units := u.units.set i { state := .recovering, timer := some u.supplyGap } }) with
      drawers := upd u.drawers n fun w => { w with unitHeld := none } } := by
  unfold DrawerUnit.releaseUnit
  rw [h]
  dsimp only
  rw [recover_drawers_eq]
  unfold DrawerUnit.recover
  rw [freeUp_eq]

/-- The part with its drawers' records and the rest of the drawer unit replaced. -/
theorem updDrawer_updDrawers (d : Device) (u : DrawerUnit) (n : Fin 32) (f g : Drawer → Drawer) :
    ({ d with drawers := { u with drawers := upd d.drawers.drawers n f } } : Device).updDrawer n g =
      { d with drawers := { u with drawers := d.drawers.drawers.set n (g (f d.drawers.drawers[n])) } } :=
  congrArg (fun t => ({ d with drawers := { u with drawers := t } } : Device)) (upd_upd d.drawers.drawers n f g)

theorem exec_pulse {s : State} (hr : s.dev.inReset = false) (n : Fin 32) :
    exec (.pulseEnd n) s = .next { s with dev := pulseEnd n s.dev } :=
  exec_drawer (c := fun n => .pulseEnd n) (exec_pulseEnd s) hr n

theorem exec_confirm {s : State} (hr : s.dev.inReset = false) (n : Fin 32) :
    exec (.confirmTimeout n) s = .next { s with dev := confirmTimeout n s.dev } :=
  exec_drawer (c := fun n => .confirmTimeout n) (exec_confirmTimeout s) hr n

/-- Settles O39: the end of a pulse by its opening mark, the timeout and the recovery each by its row. -/
theorem pulseAndRecovery : Obligations.PulseAndRecovery := by
  intro s n i hr u w q after
  have hend (hk : w.kick = .energized) (hi : w.unitHeld = some i) : pulseEnd n s.dev =
      if w.openedInPulse then
        ({ s.dev with drawers := { after with
          drawers := u.drawers.set n { w with unitHeld := none, kick := .idle, kickTimer := none } } } : Device).offerDrawer n
            (notice (.kickDone, drawerSource n, 0, 0))
      else { s.dev with drawers := { after with
        drawers := u.drawers.set n { w with
          unitHeld := none, kick := .confirming, kickTimer := some (w.confirmTime * 10) } } } := by
    unfold pulseEnd
    dsimp only
    rw [if_pos hk, Device.updDrawers, releaseUnit_eq hi, updDrawer_updDrawers, updDrawer_updDrawers]
    rfl
  refine ⟨fun hk hi ho hroom => ?_, fun hk hi ho => ?_, fun hk hroom => ?_, fun hu => ?_⟩
  · rw [exec_pulse hr n, hend hk hi, if_pos ho, offerDrawer_unit _ _ _ _ hroom]
  · rw [exec_pulse hr n, hend hk hi, if_neg (Bool.eq_false_iff.mp ho)]
  · have hfail : confirmTimeout n s.dev = (s.dev.updDrawer n fun w => { w with kick := .idle, kickTimer := none }).offerDrawer
        n (notice (.kickFailed, drawerSource n, 0, 0)) := if_pos hk
    rw [exec_confirm hr n, hfail, updDrawer_eq, offerDrawer_withRecord _ _ _ hroom]
    rfl
  · have hrun : exec (.unitRecovered i) s = .next { s with dev := unitRecovered i s.dev } :=
      (exec_unitRecovered s i).trans ((s.runAt_of_lt _ _ i.isLt).trans (s.run_of_running _ hr))
    have hfree : unitRecovered i s.dev = s.dev.updDrawers fun u => u.freeUp i := if_pos hu
    rw [hrun, hfree, Device.updDrawers, freeUp_eq]

/-! ### Open too long -/

theorem exec_tooLong {s : State} (hr : s.dev.inReset = false) (n : Fin 32) :
    exec (.openTooLong n) s = .next { s with dev := openTooLong n s.dev } :=
  exec_drawer (c := fun n => .openTooLong n) (exec_openTooLong s) hr n

theorem requestTone_eq (d : Device) (l : Fin 16) (e : Fin 8) : d.requestTone l e = { d with tlu := d.tlu.request l e } := by
  unfold Device.requestTone ToneUnit.request
  split <;> rfl

/-- R161: the expiry of a limit timer. -/
theorem openTooLong_eq {d : Device} {n : Fin 32} (ht : d.drawers.drawers[n].limitTimer.isSome)
    (hroom : room d (laneQueue (laneOf n)) 1) :
    let w := d.drawers.drawers[n]
    let count := min 65535 (w.limitsPassed + 1)
    openTooLong n d = { withRecord d n (limitLoaded { w with limitsPassed := count }) d.drawers.waitList
      (queued d (laneQueue (laneOf n)) .openTooLong (drawerSource n) count (count / 256)) with
        tlu := d.tlu.request (laneOf n) 7 } := by
  intro w count
  obtain ⟨m, hm⟩ := Option.isSome_iff_exists.mp ht
  have hexpiry : openTooLong n d = (((d.updDrawer n fun w => { w with limitsPassed := count }).offerDrawer n
      (countNotice .openTooLong n count)).requestTone (laneOf n) 7).updDrawer n Drawer.loadLimit := by
    unfold openTooLong
    dsimp only
    rw [hm]
    rfl
  rw [hexpiry, countNotice_eq, updDrawer_eq d, offerDrawer_withRecord _ _ _ hroom, requestTone_eq]
  exact updDrawer_withRecord { d with tlu := d.tlu.request (laneOf n) 7 } n _ _ _ Drawer.loadLimit

/-- Settles O40: the expiry, and its tone by the level test. -/
theorem openTooLong : Obligations.OpenTooLong := by
  intro s n hr w q count t ht hroom
  have hrun := exec_tooLong hr n
  rw [openTooLong_eq ht hroom] at hrun
  refine ⟨fun h => ?_, fun h => ?_⟩
  · rw [hrun, request_granted h]
    rfl
  · rw [hrun, request_ignored h]
    rfl

end Sys2Proof.DrawerEvents

/-! ## The supply fault, the inhibit and SET-DRAWER (R158, R161 to R163, R166) -/

namespace Sys2Proof.SupplyFaults

open Sys2Proof.Machine Sys2Proof.Claims Sys2Proof.Events Sys2Proof.OpenCounter Sys2Proof.LaneResets Sys2Proof.DrawerEvents
  Sys2Proof.SupplyKept Sys2Proof.Admission Sys2Proof.Safety

/-! ### Pulses that are cut one after the other -/

/-- Each of the drawers' kicks is IDLE and its unit RECOVERING; nothing else of the drawer unit has moved. -/
structure CutOff (ns : List (Fin 32)) (u v : DrawerUnit) : Prop where
  drawer : ∀ k : Fin 32, v.drawers[k] =
    if k ∈ ns then { u.drawers[k] with kick := .idle, unitHeld := none, kickTimer := none } else u.drawers[k]
  unit : ∀ i : Fin 8, v.units[i] =
    if ∃ k ∈ ns, u.drawers[k].unitHeld = some i then { state := .recovering, timer := some u.supplyGap } else u.units[i]
  rest : v = { u with drawers := v.drawers, units := v.units }

theorem cutPulse_drawers (d : Device) (n : Fin 32) : (d.cutPulse n).drawers = { d.drawers with
    drawers := upd d.drawers.drawers n fun w => { w with kick := .idle, unitHeld := none, kickTimer := none }
    units := match d.drawers.drawers[n].unitHeld with
      | some i => d.drawers.units.set i { state := .recovering, timer := some d.drawers.supplyGap }
      | none => d.drawers.units } := by
  rw [Device.cutPulse, Device.offer_drawers]
  rfl

theorem cutPulse_unit (d : Device) (n : Fin 32) (i : Fin 8) : (d.cutPulse n).drawers.units[i] =
    if d.drawers.drawers[n].unitHeld = some i then { state := .recovering, timer := some d.drawers.supplyGap }
    else d.drawers.units[i] := by
  rw [cutPulse_drawers]
  dsimp only
  cases h : d.drawers.drawers[n].unitHeld with
  | none => exact (if_neg nofun).symm
  | some j =>
    rcases eq_or_ne j i with rfl | hj
    · rw [if_pos rfl]
      exact Vector.getElem_set_self _
    · rw [if_neg fun he => hj (Option.some.inj he)]
      exact Vector.getElem_set_ne _ _ fun he => hj (Fin.ext he)

theorem cutAll_cutOff (ns : List (Fin 32)) (d : Device) : CutOff ns d.drawers (ns.foldl Device.cutPulse d).drawers := by
  induction ns generalizing d with
  | nil => exact ⟨fun k => by simp, fun i => by simp, rfl⟩
  | cons n ns ih =>
    obtain ⟨hdrawer, hunit, hrest⟩ := ih (d.cutPulse n)
    have hgap : (d.cutPulse n).drawers.supplyGap = d.drawers.supplyGap := by rw [cutPulse_drawers]
    have hrecord (k : Fin 32) : (d.cutPulse n).drawers.drawers[k] =
        if k = n then { d.drawers.drawers[k] with kick := .idle, unitHeld := none, kickTimer := none }
        else d.drawers.drawers[k] := by
      rw [cutPulse_drawers, upd_getElem]
    rw [List.foldl_cons]
    refine ⟨fun k => ?_, fun i => ?_, ?_⟩
    · rw [hdrawer k, hrecord k]
      by_cases hk : k = n
      · simp [hk]
      · simp [hk]
    · rw [hunit i, hgap, cutPulse_unit]
      have hheld : (∃ k ∈ ns, (d.cutPulse n).drawers.drawers[k].unitHeld = some i) ↔
          ∃ k ∈ ns, k ≠ n ∧ d.drawers.drawers[k].unitHeld = some i := by
        refine exists_congr fun k => and_congr_right fun _ => ?_
        rw [hrecord k]
        by_cases hk : k = n
        · simp [hk]
        · simp [hk]
      rw [if_congr hheld rfl rfl]
      by_cases hn : d.drawers.drawers[n].unitHeld = some i
      · have hmem : ∃ k ∈ n :: ns, d.drawers.drawers[k].unitHeld = some i := ⟨n, List.mem_cons_self, hn⟩
        rw [if_pos hn, if_pos hmem, ite_self]
      · have hmem : (∃ k ∈ ns, k ≠ n ∧ d.drawers.drawers[k].unitHeld = some i) ↔
            ∃ k ∈ n :: ns, d.drawers.drawers[k].unitHeld = some i := by
          constructor
          · rintro ⟨k, hk, -, h⟩
            exact ⟨k, List.mem_cons_of_mem n hk, h⟩
          · rintro ⟨k, hk, h⟩
            have hkn : k ≠ n := fun he => hn (he ▸ h)
            exact ⟨k, (List.mem_cons.mp hk).resolve_left hkn, hkn, h⟩
        rw [if_neg hn, if_congr hmem rfl rfl]
    · refine hrest.trans ?_
      rw [cutPulse_drawers]

/-! ### What one queue is told while others are told too -/

/-- From the part `d` to the part `e`, queue `q` has been told `ts`, and nothing else has happened to it. -/
structure ToldTo (d e : Device) (q : Fin 17) (ts : List Told) : Prop where
  clock : e.trunk.clock = d.trunk.clock
  queue : e.pool.lanes[q] = (tells d q ts).pool.lanes[q]

theorem offer_lane_congr {d e : Device} {q : Fin 17} (hq : d.pool.lanes[q] = e.pool.lanes[q])
    (hc : d.trunk.clock = e.trunk.clock) (n : Notice) : (d.offer q n).pool.lanes[q] = (e.offer q n).pool.lanes[q] := by
  have hev : d.eventOf q n = e.eventOf q n := by
    unfold Device.eventOf
    rw [hq, hc]
  rw [offer_lanes, offer_lanes, hev, upd_getElem_self, upd_getElem_self, hq]

theorem ToldTo.offer {d e : Device} {q m : Fin 17} {ts : List Told} (h : ToldTo d e q ts) (f : DrawerUnit → DrawerUnit)
    (t : Told) : ToldTo d ((e.updDrawers f).offer m (notice t)) q (if m = q then ts ++ [t] else ts) := by
  refine ⟨(congrArg Trunk.clock (Device.offer_trunk _ _ _)).trans h.clock, ?_⟩
  by_cases hm : m = q
  · subst hm
    rw [if_pos rfl, tells_append]
    refine offer_lane_congr (d := e.updDrawers f) h.queue (h.clock.trans ?_) (notice t)
    exact (same_clock (tells_touches d m ts) (by decide)).symm
  · rw [if_neg hm]
    exact ((e.updDrawers f).offer_other m q (notice t) (Ne.symm hm)).trans h.queue

/-- Events of drawers, each on its drawer's lane. -/
theorem ToldTo.foldl {d : Device} {q : Fin 17} {op : Device → Fin 32 → Device} {told : Fin 32 → Told}
    (hop : ∀ e n, ∃ f, op e n = (e.updDrawers f).offer (laneQueue (laneOf n)) (notice (told n))) (ns : List (Fin 32))
    {e : Device} {ts : List Told} (h : ToldTo d e q ts) :
    ToldTo d (ns.foldl op e) q (ts ++ (ns.filter fun n => laneQueue (laneOf n) = q).map told) := by
  induction ns generalizing e ts with
  | nil =>
    rw [List.filter_nil, List.map_nil, List.append_nil]
    exact h
  | cons n ns ih =>
    obtain ⟨f, hf⟩ := hop e n
    have hnext := h.offer (m := laneQueue (laneOf n)) f (told n)
    rw [← hf] at hnext
    have hall := ih hnext
    rw [List.foldl_cons]
    by_cases hn : laneQueue (laneOf n) = q
    · rw [if_pos hn, List.append_assoc] at hall
      rw [List.filter_cons_of_pos (p := fun n => decide (laneQueue (laneOf n) = q)) (decide_eq_true hn)]
      exact hall
    · rw [if_neg hn] at hall
      rw [List.filter_cons_of_neg (p := fun n => decide (laneQueue (laneOf n) = q)) (by simpa using hn)]
      exact hall

/-- The entries that a queue with room takes for the events it is told. -/
theorem queuedAll_entries (d : Device) (q : Fin 17) (ts : List Told) : ∃ es : List Entry,
    (queuedAll d q ts).lanes[q].queue = d.pool.lanes[q].queue ++ es ∧ es.length = ts.length ∧
    ∀ t ∈ ts, ∃ x ∈ es, x = { entryOf d q t.1 t.2.1 t.2.2.1 t.2.2.2 .absent with ev.seq := x.ev.seq } := by
  induction ts generalizing d with
  | nil => exact ⟨[], (List.append_nil _).symm, rfl, nofun⟩
  | cons t ts ih =>
    obtain ⟨es, hq, hlen, hes⟩ := ih { d with pool := queued d q t.1 t.2.1 t.2.2.1 t.2.2.2 }
    refine ⟨entryOf d q t.1 t.2.1 t.2.2.1 t.2.2.2 .absent :: es, ?_, by rw [List.length_cons, List.length_cons, hlen], ?_⟩
    · rw [queuedAll_cons, hq]
      dsimp only
      rw [queued, appended_same, List.append_assoc]
      rfl
    · intro t' ht'
      rcases List.mem_cons.mp ht' with rfl | ht'
      · exact ⟨_, List.mem_cons_self, rfl⟩
      · obtain ⟨x, hx, he⟩ := hes t' ht'
        exact ⟨x, List.mem_cons_of_mem _ hx, he⟩

/-! ### A supply fault -/

section
variable {d : Device}

theorem mem_energized (u : DrawerUnit) (n : Fin 32) : n ∈ u.energized ↔ u.drawers[n].kick = .energized := by
  unfold DrawerUnit.energized
  rw [List.mem_filter, beq_iff_eq]
  exact ⟨And.right, fun h => ⟨List.mem_finRange n, h⟩⟩

theorem nodup_energized (u : DrawerUnit) : u.energized.Nodup := (List.nodup_finRange 32).filter _

/-- The part after the cuts and the removals, before the inhibit. -/
def cutAndGivenUp (d : Device) : Device :=
  d.drawers.waitList.foldl (fun e n => e.abortWaiting n 2) (d.drawers.energized.foldl Device.cutPulse d)

theorem supplyFaultTaken_eq (d : Device) : d.supplyFaultTaken =
    ((cutAndGivenUp d).updDrawers fun u => { u with inhibit := true }).offer deviceQueue
      (notice (.supplyFault, none, d.drawers.energized.length, d.drawers.waitList.length)) := rfl

theorem supplyFaultTaken_drawers (d : Device) : d.supplyFaultTaken.drawers =
    { (cutAndGivenUp d).drawers with inhibit := true } := by
  rw [supplyFaultTaken_eq, Device.offer_drawers]
  rfl

/-- The events of a supply fault on the drawers' lanes. -/
def faultTold (d : Device) (q : Fin 17) : List Told :=
  ((d.drawers.energized.filter fun n => laneQueue (laneOf n) = q).map fun n => (Kind.kickAborted, drawerSource n, 2, 1)) ++
  ((d.drawers.waitList.filter fun n => laneQueue (laneOf n) = q).map fun n => (Kind.kickAborted, drawerSource n, 2, 0))

theorem cutAndGivenUp_told (d : Device) (q : Fin 17) : ToldTo d (cutAndGivenUp d) q (faultTold d q) := by
  have hcut := ToldTo.foldl (d := d) (q := q) (op := Device.cutPulse)
    (told := fun n => (Kind.kickAborted, drawerSource n, 2, 1)) (fun e n => ⟨_, rfl⟩) d.drawers.energized
    (e := d) (ts := []) ⟨rfl, rfl⟩
  exact ToldTo.foldl (op := fun e n => e.abortWaiting n 2) (told := fun n => (Kind.kickAborted, drawerSource n, 2, 0))
    (fun e n => ⟨_, rfl⟩) d.drawers.waitList hcut

theorem laneQueue_ne_device (l : Fin 16) : laneQueue l ≠ deviceQueue := by
  intro h
  have := congrArg Fin.val h
  have hl := l.isLt
  change l.val = 16 at this
  omega

theorem laneQueue_inj {l m : Fin 16} : laneQueue l = laneQueue m ↔ l = m :=
  ⟨fun h => Fin.ext (show l.val = m.val from congrArg (fun q : Fin 17 => q.val) h), congrArg laneQueue⟩

theorem supplyFaultTaken_lane (d : Device) (l : Fin 16) :
    d.supplyFaultTaken.pool.lanes[laneQueue l] = (tells d (laneQueue l) (faultTold d (laneQueue l))).pool.lanes[laneQueue l] := by
  have htold := (cutAndGivenUp_told d (laneQueue l)).offer (m := deviceQueue) (fun u => { u with inhibit := true })
    (.supplyFault, none, d.drawers.energized.length, d.drawers.waitList.length)
  rw [if_neg (laneQueue_ne_device l).symm] at htold
  exact htold.queue

theorem supplyFaultTaken_device (d : Device) : d.supplyFaultTaken.pool.lanes[deviceQueue] =
    (tells d deviceQueue [(.supplyFault, none, d.drawers.energized.length, d.drawers.waitList.length)]).pool.lanes[deviceQueue] := by
  have hnone : faultTold d deviceQueue = [] := by
    have hno (ns : List (Fin 32)) : (ns.filter fun n => laneQueue (laneOf n) = deviceQueue) = [] :=
      List.filter_eq_nil_iff.mpr fun n _ => by simpa using laneQueue_ne_device (laneOf n)
    rw [faultTold, hno, hno]
    rfl
  have htold := (cutAndGivenUp_told d deviceQueue).offer (m := deviceQueue) (fun u => { u with inhibit := true })
    (.supplyFault, none, d.drawers.energized.length, d.drawers.waitList.length)
  rw [if_pos rfl, hnone] at htold
  exact htold.queue

variable (h : SupplySound d)
include h

theorem energized_iff (n : Fin 32) : d.drawers.drawers[n].unitHeld.isSome ↔ d.drawers.drawers[n].kick = .energized := by
  obtain ⟨-, -, -, hheld, -⟩ := h
  exact hheld n

theorem waiting_iff (n : Fin 32) : n ∈ d.drawers.waitList ↔ d.drawers.drawers[n].kick = .waiting := by
  obtain ⟨-, -, -, -, -, -, -, -, hwait⟩ := h
  exact hwait n

theorem waitList_nodup : d.drawers.waitList.Nodup := by
  obtain ⟨-, -, -, -, -, -, -, hnodup, -⟩ := h
  exact hnodup

/-- The wait list is, in some order, the drawers whose kick is WAITING. -/
theorem waitList_perm :
    d.drawers.waitList.Perm ((List.finRange 32).filter fun n => decide (d.drawers.drawers[n].kick = .waiting)) := by
  refine (List.perm_ext_iff_of_nodup (waitList_nodup h) ((List.nodup_finRange 32).filter _)).mpr fun n => ?_
  rw [waiting_iff h, List.mem_filter, decide_eq_true_eq]
  exact ⟨fun hn => ⟨List.mem_finRange n, hn⟩, And.right⟩

omit h in
/-- Two properties that exclude each other, counted. -/
theorem countP_or_of_disjoint {α : Type} {p r : α → Prop} [DecidablePred p] [DecidablePred r]
    (hpr : ∀ a, p a → ¬ r a) (ns : List α) :
    ns.countP (fun a => decide (p a)) + ns.countP (fun a => decide (r a)) = ns.countP fun a => decide (p a ∨ r a) := by
  induction ns with
  | nil => rfl
  | cons a ns ih =>
    rw [List.countP_cons, List.countP_cons, List.countP_cons, ← ih]
    by_cases hp : p a
    · simp [hp, hpr a hp]
      omega
    · simp [hp]
      omega

/-- The ENERGIZED and the WAITING drawers of a lane: as many as its events. -/
theorem faultTold_length (l : Fin 16) : (faultTold d (laneQueue l)).length =
    (List.finRange 32).countP (fun n => decide (laneOf n = l ∧
      (d.drawers.drawers[n].kick = .energized ∨ d.drawers.drawers[n].kick = .waiting))) := by
  have hhot : (d.drawers.energized.filter fun n => decide (laneQueue (laneOf n) = laneQueue l)).length =
      (List.finRange 32).countP fun n => decide (laneOf n = l ∧ d.drawers.drawers[n].kick = .energized) := by
    rw [DrawerUnit.energized, List.filter_filter, ← List.countP_eq_length_filter]
    refine List.countP_congr fun n _ => ?_
    simp [laneQueue_inj]
  have hcold : (d.drawers.waitList.filter fun n => decide (laneQueue (laneOf n) = laneQueue l)).length =
      (List.finRange 32).countP fun n => decide (laneOf n = l ∧ d.drawers.drawers[n].kick = .waiting) := by
    rw [((waitList_perm h).filter _).length_eq, List.filter_filter, ← List.countP_eq_length_filter]
    refine List.countP_congr fun n _ => ?_
    simp [laneQueue_inj]
  have hsum := countP_or_of_disjoint
    (p := fun n => laneOf n = l ∧ d.drawers.drawers[n].kick = .energized)
    (r := fun n => laneOf n = l ∧ d.drawers.drawers[n].kick = .waiting)
    (fun n hp hr => by
      rw [hp.2] at hr
      exact absurd hr.2 (by decide)) (List.finRange 32)
  rw [faultTold, List.length_append, List.length_map, List.length_map, hhot, hcold, hsum]
  refine List.countP_congr fun n _ => ?_
  simp [and_or_left]

omit h in
theorem lane_has_two : ∀ l : Fin 16, (List.finRange 32).countP (fun n => decide (laneOf n = l)) = 2 := by decide

theorem faultTold_le_two (l : Fin 16) : (faultTold d (laneQueue l)).length ≤ 2 := by
  rw [faultTold_length h, ← lane_has_two l]
  refine List.countP_mono_left fun n _ hn => ?_
  exact decide_eq_true (of_decide_eq_true hn).1

theorem cutAndGivenUp_record (n : Fin 32) : (cutAndGivenUp d).drawers.drawers[n] =
    if d.drawers.drawers[n].kick = .energized then
      { d.drawers.drawers[n] with kick := .idle, unitHeld := none, kickTimer := none }
    else if d.drawers.drawers[n].kick = .waiting then { d.drawers.drawers[n] with kick := .idle }
    else d.drawers.drawers[n] := by
  obtain ⟨hdrawer, -⟩ := abortAll_givenUp d.drawers.waitList 2 (d.drawers.energized.foldl Device.cutPulse d)
  obtain ⟨hcut, -, -⟩ := cutAll_cutOff d.drawers.energized d
  rw [cutAndGivenUp, hdrawer n, hcut n, if_congr (waiting_iff h n) rfl rfl, if_congr (mem_energized _ n) rfl rfl]
  by_cases hk : d.drawers.drawers[n].kick = .energized
  · have hno : ¬ d.drawers.drawers[n].kick = .waiting := by
      rw [hk]
      decide
    rw [if_pos hk, if_pos hk, if_neg hno]
  · rw [if_neg hk, if_neg hk]

theorem cutAndGivenUp_units (i : Fin 8) : (cutAndGivenUp d).drawers.units[i] =
    if ∃ n : Fin 32, d.drawers.drawers[n].unitHeld = some i then
      { state := .recovering, timer := some d.drawers.supplyGap }
    else d.drawers.units[i] := by
  obtain ⟨-, hrest⟩ := abortAll_givenUp d.drawers.waitList 2 (d.drawers.energized.foldl Device.cutPulse d)
  obtain ⟨-, hunit, -⟩ := cutAll_cutOff d.drawers.energized d
  have hsame : (cutAndGivenUp d).drawers.units = (d.drawers.energized.foldl Device.cutPulse d).drawers.units :=
    (congrArg DrawerUnit.units hrest :)
  have hheld : (∃ k ∈ d.drawers.energized, d.drawers.drawers[k].unitHeld = some i) ↔
      ∃ n : Fin 32, d.drawers.drawers[n].unitHeld = some i := by
    constructor
    · rintro ⟨k, -, hk⟩
      exact ⟨k, hk⟩
    · rintro ⟨k, hk⟩
      exact ⟨k, (mem_energized _ k).mpr ((energized_iff h k).mp (Option.isSome_iff_exists.mpr ⟨i, hk⟩)), hk⟩
  rw [hsame, hunit i, if_congr hheld rfl rfl]

omit h in
theorem cutAndGivenUp_rest : (cutAndGivenUp d).drawers = { d.drawers with
    drawers := (cutAndGivenUp d).drawers.drawers, units := (cutAndGivenUp d).drawers.units, waitList := [] } := by
  obtain ⟨-, hrest⟩ := abortAll_givenUp d.drawers.waitList 2 (d.drawers.energized.foldl Device.cutPulse d)
  obtain ⟨-, -, hcut⟩ := cutAll_cutOff d.drawers.energized d
  have hlist : (d.drawers.energized.foldl Device.cutPulse d).drawers.waitList = d.drawers.waitList :=
    (congrArg DrawerUnit.waitList hcut :)
  have hempty : (d.drawers.waitList.filter (· ∉ d.drawers.waitList)) = [] :=
    List.filter_eq_nil_iff.mpr fun n hn => by simpa using hn
  have hunits : (cutAndGivenUp d).drawers.units = (d.drawers.energized.foldl Device.cutPulse d).drawers.units :=
    (congrArg DrawerUnit.units hrest :)
  rw [hlist, hempty, hcut] at hrest
  rw [hunits]
  exact hrest

/-- R162: what a supply fault makes of a part whose supply is sound. -/
theorem supplyFails_taken : supplyFails d d.supplyFaultTaken := by
  have hdrawers := supplyFaultTaken_drawers d
  have htouches := supplyFaultTaken_touches d
  refine ⟨?_, fun n => ?_, fun i => ?_, fun l hroom => ?_, fun hroom => ?_⟩
  · have hrest := cutAndGivenUp_rest (d := d)
    refine eq_of_blocks (htouches .lanes (by decide)) (htouches .scanner (by decide)) (htouches .trans (by decide))
      (htouches .keymaps (by decide)) (htouches .ports (by decide)) (htouches .rules (by decide))
      (pool_eq_of_touches htouches (by decide)) (same_delivery (d := d) htouches (by decide) (by decide)) ?_
      (htouches .tlu (by decide)) (htouches .trunk (by decide)) (htouches .timeBase (by decide))
    rw [hdrawers, hrest]
  · rw [hdrawers]
    exact cutAndGivenUp_record h n
  · rw [hdrawers]
    exact cutAndGivenUp_units h i
  · have hfit : room d (laneQueue l) (faultTold d (laneQueue l)).length :=
      (Nat.add_le_add_left (faultTold_le_two h l) _).trans hroom
    obtain ⟨es, hq, hlen, hes⟩ := queuedAll_entries d (laneQueue l) (faultTold d (laneQueue l))
    refine ⟨es, ?_, hlen.trans (faultTold_length h l), fun n hn hk => ?_⟩
    · rw [supplyFaultTaken_lane, tells_pool_of_room _ hfit]
      exact hq
    · refine hes (.kickAborted, drawerSource n, 2, if d.drawers.drawers[n].kick = .energized then 1 else 0) ?_
      have hlane : laneQueue (laneOf n) = laneQueue l := congrArg laneQueue hn
      by_cases hc : d.drawers.drawers[n].kick = .energized
      · rw [if_pos hc]
        refine List.mem_append_left _ (List.mem_map.mpr ⟨n, List.mem_filter.mpr ⟨?_, decide_eq_true hlane⟩, rfl⟩)
        exact (mem_energized _ n).mpr hc
      · rw [if_neg hc]
        refine List.mem_append_right _ (List.mem_map.mpr ⟨n, List.mem_filter.mpr ⟨?_, decide_eq_true hlane⟩, rfl⟩)
        exact (waiting_iff h n).mpr (hk.resolve_left hc)
  · have hhot : d.drawers.energized.length =
        (List.finRange 32).countP fun n => decide (d.drawers.drawers[n].kick = .energized) := by
      rw [DrawerUnit.energized, ← List.countP_eq_length_filter]
      exact List.countP_congr fun n _ => by simp
    have hcold : d.drawers.waitList.length =
        (List.finRange 32).countP fun n => decide (d.drawers.drawers[n].kick = .waiting) := by
      rw [(waitList_perm h).length_eq, ← List.countP_eq_length_filter]
    rw [supplyFaultTaken_device, tells_pool_of_room _ hroom, hhot, hcold]
    rfl

end

/-! ### The supply line and the inhibit -/

theorem exec_fall {s : State} (hr : s.dev.inReset = false) :
    exec .supplyFault s = .next { s with dev := supplyFall s.dev } :=
  (exec_supplyFault s).trans (s.run_of_running _ hr)

theorem exec_rise {s : State} (hr : s.dev.inReset = false) :
    exec .supplyLineRise s = .next { s with dev := supplyRise s.dev } :=
  (exec_supplyLineRise s).trans (s.run_of_running _ hr)

theorem clearInhibit_nil (d : Device) : clearInhibit [] d =
    if d.drawers.monitor = true ∧ ¬ d.drawers.supplyHigh = true then refuse d .refusedState
    else answer (d.updDrawers fun u => { u with inhibit := false }) .done := rfl

/-- Settles O41: the fall by the monitor, the rise, and CLEAR-INHIBIT by its test. -/
theorem supplyFaultAndInhibit : Obligations.SupplyFaultAndInhibit := by
  refine ⟨fun s hr => ?_, fun s tag => ?_⟩
  · intro u
    refine ⟨fun hhigh hmon => ?_, fun hlow => ?_, exec_rise hr, fun hhigh hmon hsound => ?_⟩
    · have hfall : supplyFall s.dev = s.dev.updDrawers fun u => { u with supplyHigh := false } := by
        unfold supplyFall
        dsimp only
        rw [if_pos hhigh, if_neg (Bool.eq_false_iff.mp hmon)]
      rw [exec_fall hr, hfall]
      rfl
    · have hfall : supplyFall s.dev = s.dev := if_neg (Bool.eq_false_iff.mp hlow)
      rw [exec_fall hr, hfall]
    · have hfall : supplyFall s.dev = (s.dev.updDrawers fun u => { u with supplyHigh := false }).supplyFaultTaken := by
        unfold supplyFall
        dsimp only
        rw [if_pos hhigh, if_pos hmon]
      refine ⟨_, exec_fall hr, rfl, ?_⟩
      rw [hfall]
      exact supplyFails_taken (d := s.dev.updDrawers fun u => { u with supplyHigh := false }) hsound
  · intro u r hw
    refine ⟨fun hmon hlow => ?_, fun h => ?_⟩
    · exact takeCode_of_answer (d := s.dev.begin r) hw rfl
        ((clearInhibit_nil (s.dev.begin r)).trans (if_pos ⟨hmon, Bool.eq_false_iff.mp hlow⟩)) rfl
    · have hno : ¬ (u.monitor = true ∧ ¬ u.supplyHigh = true) := by
        rintro ⟨hmon, hlow⟩
        rcases h with h | h
        · exact absurd hmon (Bool.eq_false_iff.mp h)
        · exact hlow h
      exact takeCode_of_answer hw rfl ((clearInhibit_nil (s.dev.begin r)).trans (if_neg hno)) rfl

/-! ### SET-DRAWER -/

/-- A row's request that is answered with no other change of the trunk, as `takeCode_of_answer` for one code. -/
theorem take_of_answer {s : State} {r : Request} {mine : Request → Bool} {carry : List Byte → Device → Carried} {d : Device}
    {c : ReplyCode} {fs : List Byte} (hw : Waits s r) (hmine : mine r = true)
    (hcarry : carry r.fields (s.dev.begin r) = answer d c fs) (htrunk : d.trunk = started s.dev.trunk r) :
    s.run (Device.take mine carry) = .next { s with dev := { d with trunk := answered s.dev.trunk r c fs } } := by
  have hin : d.trunk.inProgress = some r := by
    rw [htrunk]
    rfl
  rw [s.run_of_running _ hw.1, Device.take_of_takeable _ _ _ r (takeable_of_waits hw) hmine, hcarry,
    Carried.finish_answer, Device.reply_of_inProgress _ _ r hin, htrunk]
  rfl

theorem inBool_flag (b : Bool) : inBool (flag b) = some b := by
  cases b <;> rfl

/-- R161: the limit timer after an open limit is written. -/
theorem setOpenLimit_eq (w : Drawer) (limit : Nat) : w.setOpenLimit limit =
    if w.position = .closed ∨ (limit ≠ 0 ∧ w.limitTimer.isSome) then { w with openLimit := limit }
    else { w with openLimit := limit, limitTimer := if limit = 0 then none else some limit, limitSubMs := 0 } := by
  unfold Drawer.setOpenLimit
  dsimp only
  by_cases hc : w.position = .closed
  · rw [if_pos hc, if_pos (.inl hc)]
  · rw [if_neg hc]
    by_cases hl : limit = 0
    · have hno : ¬ (w.position = .closed ∨ (limit ≠ 0 ∧ w.limitTimer.isSome = true)) :=
        fun h => h.elim hc fun ⟨hne, _⟩ => hne hl
      rw [if_pos hl, if_neg hno, if_pos hl]
    · rw [if_neg hl]
      cases ht : w.limitTimer with
      | none =>
        have hno : ¬ (w.position = .closed ∨ (limit ≠ 0 ∧ (none : Option Nat).isSome = true)) :=
          fun h => h.elim hc fun ⟨_, hs⟩ => nomatch hs
        rw [if_neg hno]
        rfl
      | some m =>
        have hruns : w.position = .closed ∨ (limit ≠ 0 ∧ (some m).isSome = true) := .inr ⟨hl, rfl⟩
        rw [if_pos hruns]
        rfl

theorem setPresence_eq (w : Drawer) (on : Bool) : w.setPresence on =
    if w.present = on then w
    else if on then
      { w with present := true, position := .closed, settled := false, candidate := w.senseInput, stability := some 10 }
    else
      { w with present := false, position := .closed, settled := false, kick := .idle, stability := none
               kickTimer := none, limitTimer := none, limitSubMs := 0 } := by
  unfold Drawer.setPresence
  cases hp : w.present <;> cases on <;> rfl

theorem busy_iff (w : Drawer) : w.busy = true ↔ w.present = true ∧ (w.kick ≠ .idle ∨ w.position = .opened) := by
  simp [Drawer.busy]

theorem clampOpenLimit_eq (b : Byte) : clampOpenLimit b.toNat = if b.toNat = 0 then 0 else max 5 b.toNat := by
  have hb := b.isLt
  unfold clampOpenLimit clampTo
  split
  · rfl
  · omega

theorem setDrawer_drawer (n : Fin 32) (on : Bool) (pw ct ol : Byte) (d : Device) :
    let limit := if ol.toNat = 0 then 0 else max 5 ol.toNat
    setDrawer [0, num n, flag on, pw, ct, ol] d =
      if (!on && d.drawers.drawers[n].busy) = true then refuse d .refusedState
      else answer (d.updDrawer n fun w =>
          ({ w with pulseWidth := max 10 pw.toNat, confirmTime := max 5 ct.toNat }.setOpenLimit limit).setPresence on)
        (if 10 ≤ pw.toNat ∧ 5 ≤ ct.toNat ∧ (ol.toNat = 0 ∨ 5 ≤ ol.toNat) then .done else .doneClamped) := by
  intro limit
  have hpw := pw.isLt
  have hct := ct.isLt
  have hpulse : clampTo 10 255 pw.toNat = max 10 pw.toNat := by
    unfold clampTo
    omega
  have hconfirm : clampTo 5 255 ct.toNat = max 5 ct.toNat := by
    unfold clampTo
    omega
  have hclamp : (decide (max 10 pw.toNat ≠ pw.toNat) || decide (max 5 ct.toNat ≠ ct.toNat) || decide (limit ≠ ol.toNat)) =
      decide ¬ (10 ≤ pw.toNat ∧ 5 ≤ ct.toNat ∧ (ol.toNat = 0 ∨ 5 ≤ ol.toNat)) := by
    have hlimit : limit = ol.toNat ↔ ol.toNat = 0 ∨ 5 ≤ ol.toNat := by
      by_cases h0 : ol.toNat = 0
      · simp [limit, h0]
      · simp only [limit, if_neg h0]
        omega
    rw [← Bool.decide_or, ← Bool.decide_or]
    refine decide_eq_decide.mpr ?_
    rw [← hlimit]
    omega
  have hform : setDrawer [0, num n, flag on, pw, ct, ol] d = setDrawerForm [num n, flag on, pw, ct, ol] d := rfl
  rw [hform]
  unfold setDrawerForm
  dsimp only
  rw [inIndex_num n (by decide), inBool_flag, hpulse, hconfirm, clampOpenLimit_eq]
  dsimp only
  rw [hclamp, doneOr_decide]

theorem setDrawer_supply (k g : Byte) (on : Bool) (d : Device) :
    let limit := min 8 (max 1 k.toNat)
    let d1 := d.updDrawers fun u => { u with supplyGap := min 50 g.toNat, monitor := on }.applyLimit limit
    setDrawer [1, k, g, flag on] d = answer (if on && !d.drawers.supplyHigh then d1.supplyFaultTaken else d1)
      (if 1 ≤ k.toNat ∧ k.toNat ≤ 8 ∧ g.toNat ≤ 50 then .done else .doneClamped) := by
  intro limit d1
  have hgap : clampTo 0 50 g.toNat = min 50 g.toNat := by
    unfold clampTo
    omega
  have hclamp : (decide (limit ≠ k.toNat) || decide (min 50 g.toNat ≠ g.toNat)) =
      decide ¬ (1 ≤ k.toNat ∧ k.toNat ≤ 8 ∧ g.toNat ≤ 50) := by
    rw [← Bool.decide_or]
    exact decide_eq_decide.mpr (by omega)
  have hhigh : d1.drawers.supplyHigh = d.drawers.supplyHigh := by
    change (DrawerUnit.applyLimit _ limit).supplyHigh = _
    unfold DrawerUnit.applyLimit
    split <;> rfl
  have hform : setDrawer [1, k, g, flag on] d = setSupplyForm [k, g, flag on] d := rfl
  have hlimit : clampTo 1 8 k.toNat = limit := rfl
  rw [hform]
  unfold setSupplyForm
  dsimp only
  rw [inBool_flag]
  dsimp only
  rw [hgap, hlimit, hclamp, doneOr_decide, ← hhigh]

theorem applyLimit_eq (u : DrawerUnit) (k : Nat) [Decidable (u.supplyLimit ≤ k ∨ ∀ i : Fin 8, u.units[i].state = .available)] :
    u.applyLimit k = { u with
      supplyLimit := if u.supplyLimit ≤ k ∨ ∀ i : Fin 8, u.units[i].state = .available then k else u.supplyLimit
      pendingLimit := if u.supplyLimit ≤ k ∨ ∀ i : Fin 8, u.units[i].state = .available then none else some k } := by
  have hnow : (u.supplyLimit ≤ k ∨ u.unitsInUse = 0) ↔ (u.supplyLimit ≤ k ∨ ∀ i : Fin 8, u.units[i].state = .available) :=
    or_congr_right (unitsInUse_eq_zero u)
  unfold DrawerUnit.applyLimit
  by_cases h : u.supplyLimit ≤ k ∨ ∀ i : Fin 8, u.units[i].state = .available
  · rw [if_pos (hnow.mpr h), if_pos h, if_pos h]
  · rw [if_neg (mt hnow.mp h), if_neg h, if_neg h]

/-- A supply fault does not depend on the trunk but for its clock. -/
theorem supplyFails_trunk {d e : Device} (h : supplyFails d e) {k : Trunk} (hc : k.clock = d.trunk.clock) :
    supplyFails { d with trunk := k } { e with trunk := k } := by
  obtain ⟨hframe, hrecord, hunit, hlane, hdevice⟩ := h
  refine ⟨congrArg (fun x : Device => ({ x with trunk := k } : Device)) hframe, hrecord, hunit, fun l hroom => ?_,
    fun hroom => ?_⟩
  · obtain ⟨es, hq, hlen, hes⟩ := hlane l hroom
    refine ⟨es, hq, hlen, fun n hn hk => ?_⟩
    have hentry (k' : Kind) (v : Option Byte) (a b : Nat) :
        entryOf { d with trunk := k } (laneQueue l) k' v a b .absent = entryOf d (laneQueue l) k' v a b .absent := by
      unfold entryOf
      rw [hc]
    obtain ⟨x, hx, he⟩ := hes n hn hk
    refine ⟨x, hx, ?_⟩
    rw [hentry]
    exact he
  · refine (hdevice hroom).trans ?_
    rw [queued_congr (d := { d with trunk := k }) (e := d) rfl hc]

/-- Settles O35: the two forms through their rows. -/
theorem setDrawerForms : Obligations.SetDrawerForms := by
  refine ⟨fun s tag pw ct ol n on => ?_, fun s tag k g on => ?_⟩
  · intro r w limit base kept written hw
    have hcarry := setDrawer_drawer n on pw ct ol (s.dev.begin r)
    have hbusy : (!on && w.busy) = true ↔ on = false ∧ w.present = true ∧ (w.kick ≠ .idle ∨ w.position = .opened) := by
      rw [Bool.and_eq_true, Bool.not_eq_true', busy_iff]
    by_cases hb : on = false ∧ w.present = true ∧ (w.kick ≠ .idle ∨ w.position = .opened)
    · rw [if_pos hb]
      exact take_of_answer (d := s.dev.begin r) hw rfl (hcarry.trans (if_pos (hbusy.mpr hb))) rfl
    · have hkept : ({ w with pulseWidth := max 10 pw.toNat, confirmTime := max 5 ct.toNat }.setOpenLimit limit) = kept :=
        setOpenLimit_eq _ _
      have hpresent : kept.present = w.present := (apply_ite Drawer.present _ _ _).trans (ite_self _)
      have hsense : kept.senseInput = w.senseInput := (apply_ite Drawer.senseInput _ _ _).trans (ite_self _)
      have hwritten : ({ w with pulseWidth := max 10 pw.toNat, confirmTime := max 5 ct.toNat }.setOpenLimit limit).setPresence
          on = written := by
        rw [hkept, setPresence_eq, hpresent]
        exact if_congr Iff.rfl rfl (if_congr Iff.rfl (congrArg (fun v => ({ kept with
          present := true, position := .closed, settled := false, candidate := v, stability := some 10 } : Drawer))
          hsense) rfl)
      have hrun := take_of_answer (mine := Request.isSetDrawer) (carry := setDrawer) hw rfl
        (hcarry.trans (if_neg (mt hbusy.mp hb))) rfl
      rw [if_neg hb, exec_setDrawerDrawer, hrun, ← hwritten]
      rfl
  · intro r limit u now code set hw
    have hcarry := setDrawer_supply k g on (s.dev.begin r)
    have hlimit : (s.dev.begin r).updDrawers (fun u => { u with supplyGap := min 50 g.toNat, monitor := on }.applyLimit limit) =
        { s.dev.begin r with drawers := { u with
          supplyGap := min 50 g.toNat, monitor := on, supplyLimit := if now then limit else u.supplyLimit
          pendingLimit := if now then none else some limit } } :=
      congrArg (fun v => ({ s.dev.begin r with drawers := v } : Device))
        (applyLimit_eq { u with supplyGap := min 50 g.toNat, monitor := on } limit)
    refine ⟨fun h => ?_, fun hon hlow hsound => ?_⟩
    · have hno : ¬ (on && !u.supplyHigh) = true := by
        rw [Bool.and_eq_true, Bool.not_eq_true']
        rintro ⟨hon, hlow⟩
        rcases h with h | h
        · exact absurd hon (Bool.eq_false_iff.mp h)
        · exact absurd h (Bool.eq_false_iff.mp hlow)
      dsimp only at hcarry
      rw [hlimit] at hcarry
      replace hcarry := hcarry.trans (congrArg (answer · code) (if_neg hno))
      exact take_of_answer hw rfl hcarry rfl
    · have hfault : (on && !u.supplyHigh) = true := by
        rw [hon, hlow]
        rfl
      have hsound1 : SupplySound ((s.dev.begin r).updDrawers fun u =>
          { u with supplyGap := min 50 g.toNat, monitor := on }.applyLimit limit) := by
        refine (supplySound_iff _).mpr (Sound.applyLimit (u := { u with supplyGap := min 50 g.toNat, monitor := on }) ?_ ?_)
        · exact (supplySound_iff s.dev).mp hsound
        · omega
      have hfails := supplyFails_taken hsound1
      dsimp only at hcarry
      rw [hlimit] at hcarry hfails
      replace hcarry := hcarry.trans (congrArg (answer · code) (if_pos hfault))
      refine ⟨_, take_of_answer (mine := Request.isSetSupply) (carry := setDrawer) hw rfl hcarry ?_, rfl, ?_⟩
      · exact supplyFaultTaken_touches _ .trunk (by decide)
      · exact supplyFails_trunk hfails rfl

end Sys2Proof.SupplyFaults

/-! ## Tones and lane lamps (R170 to R180) -/

namespace Sys2Proof.TonesAndLamps

open Sys2Proof.Machine Sys2Proof.Claims Sys2Proof.Events Sys2Proof.OpenCounter Sys2Proof.RecordEnds Sys2Proof.DrawerEvents
  Sys2Proof.Admission

/-! ### Tones -/

theorem writeTone_eq (e : Fin 8) (lo hi on off rep lev : Byte) (d : Device) :
    let div := lo.toNat + 256 * hi.toNat
    let tone : Tone := { divider := min 5000 (max 125 div), onTime := max 1 on.toNat, offTime := off.toNat
                         repeats := min 15 rep.toNat, level := min 3 lev.toNat }
    writeTone [num e, lo, hi, on, off, rep, lev] d = answer (d.updTlu fun u => { u with tones := u.tones.set e tone })
      (if 125 ≤ div ∧ div ≤ 5000 ∧ 1 ≤ on.toNat ∧ rep.toNat ≤ 15 ∧ lev.toNat ≤ 3 then .done else .doneClamped)
      (two tone.frequency) := by
  intro div tone
  have hon := on.isLt
  have hoff := off.isLt
  have hclamped : Tone.clamped
      { divider := div, onTime := on.toNat, offTime := off.toNat, repeats := rep.toNat, level := lev.toNat } = tone := by
    simp only [Tone.clamped, clampTo, tone, Tone.mk.injEq, true_and]
    omega
  have hsame : tone = ({ divider := div, onTime := on.toNat, offTime := off.toNat, repeats := rep.toNat
                         level := lev.toNat } : Tone) ↔
      125 ≤ div ∧ div ≤ 5000 ∧ 1 ≤ on.toNat ∧ rep.toNat ≤ 15 ∧ lev.toNat ≤ 3 := by
    simp only [tone, Tone.mk.injEq, true_and]
    omega
  have hcode := doneOr_decide
    (tone = ({ divider := div, onTime := on.toNat, offTime := off.toNat, repeats := rep.toNat, level := lev.toNat } : Tone))
  rw [if_congr hsame rfl rfl] at hcode
  rw [← hcode]
  unfold writeTone
  dsimp only
  rw [inIndex_num e (by decide)]
  dsimp only
  rw [show in2 lo hi = div from rfl, hclamped]
  rfl

theorem playTone_eq (l : Fin 16) (e : Fin 8) (d : Device) : playTone [num l, num e] d =
    answer { d with tlu := d.tlu.request l e } (if d.tlu.grants l e then .done else .doneIgnored)
      (playingReport (d.tlu.request l e).generators[l]) := by
  unfold playTone
  dsimp only
  rw [inIndex_num l (by decide), inIndex_num e (by decide)]
  dsimp only
  rw [requestTone_eq]

theorem sounding_report (u : ToneUnit) (l : Fin 16) (e : Fin 8) :
    playingReport ({ u with generators := u.generators.set l (sounding e u.tones[e]) } : ToneUnit).generators[l] =
      [num e, num u.tones[e].level] := by
  have hgen : ({ u with generators := u.generators.set l (sounding e u.tones[e]) } : ToneUnit).generators[l] =
      sounding e u.tones[e] := upd_getElem_self _ l fun _ => sounding e u.tones[e]
  rw [hgen]
  rfl

theorem high_iff (g : Generator) : g.high = true ↔
    ∃ c, g.playing = some c ∧ g.phase = .sounding ∧ g.phaseUs / c.tone.divider % 2 = 0 := by
  unfold Generator.high
  cases g.playing with
  | none => exact ⟨nofun, fun ⟨_, h, _⟩ => nomatch h⟩
  | some c => simp

theorem exec_phase {s : State} (hr : s.dev.inReset = false) {l : Fin 16} {v : Generator}
    (h : s.dev.tlu.generators[l].phaseEnd = v) : exec (.tonePhaseEnd l) s = .next { s with dev := { s.dev with
      tlu := { s.dev.tlu with generators := s.dev.tlu.generators.set l v } } } := by
  rw [← h]
  exact (exec_tonePhaseEnd s l).trans ((s.runAt_of_lt _ _ l.isLt).trans (s.run_of_running _ hr))

/-- R172: the end of each phase of a playing generator. -/
theorem phaseEnd_eq {g : Generator} {c : PlayingCopy} (hc : g.playing = some c) :
    let done := min 15 (g.cycles + 1)
    (g.phase = .silent →
      g.phaseEnd = { g with phase := .sounding, phaseTimer := some (c.tone.onTime * 10), phaseUs := 0 }) ∧
    (g.phase = .sounding → c.tone.repeats ≠ 0 → done = c.tone.repeats →
      g.phaseEnd = { g with cycles := done, playing := none, phaseTimer := none }) ∧
    (g.phase = .sounding → c.tone.repeats = 0 ∨ done ≠ c.tone.repeats → 0 < c.tone.offTime →
      g.phaseEnd = { g with cycles := done, phase := .silent, phaseTimer := some (c.tone.offTime * 10), phaseUs := 0 }) ∧
    (g.phase = .sounding → c.tone.repeats = 0 ∨ done ≠ c.tone.repeats → c.tone.offTime = 0 →
      g.phaseEnd = { g with cycles := done, phaseTimer := some (c.tone.onTime * 10), phaseUs := 0 }) := by
  intro done
  unfold Generator.phaseEnd
  rw [hc]
  dsimp only
  refine ⟨fun hp => ?_, fun hp hrep hdone => ?_, fun hp hmore hoff => ?_, fun hp hmore hoff => ?_⟩ <;> rw [hp]
  · rw [Generator.begin, hc]
  · dsimp only
    rw [if_pos ⟨hrep, hdone⟩]
    rfl
  · have hno : ¬ (c.tone.repeats ≠ 0 ∧ done = c.tone.repeats) := fun ⟨hrep, hdone⟩ =>
      hmore.elim hrep fun hne => hne hdone
    dsimp only
    rw [if_neg hno, if_pos hoff, Generator.begin]
  · have hno : ¬ (c.tone.repeats ≠ 0 ∧ done = c.tone.repeats) := fun ⟨hrep, hdone⟩ =>
      hmore.elim hrep fun hne => hne hdone
    dsimp only
    rw [if_neg hno, if_neg (by omega), Generator.begin]

theorem stop_report (g : Generator) : (match g.playing with | some c => num c.entry | none => 0xFF) =
    num ((g.playing.map fun c => c.entry.val).getD 0xFF) := by
  cases g.playing <;> rfl

/-- Settles O42: the requests by their rows, the buzzer by its phase, the phase ends by the generator. -/
theorem tones : Obligations.Tones := by
  refine ⟨fun s tag lo hi on off rep lev l e => ?_, fun s l c hr => ?_⟩
  · intro u div d g w p z tone
    refine ⟨fun hw => ?_, fun hw hlevel => ?_, fun c hw hc hlow => ?_, high_iff g, fun hw => ?_⟩
    · exact takeCode_of_answer hw rfl (writeTone_eq e lo hi on off rep lev (s.dev.begin w)) rfl
    · have hcarry := playTone_eq l e (s.dev.begin p)
      rw [if_pos ((grants_iff (s.dev.begin p).tlu l e).mpr hlevel), request_granted (u := (s.dev.begin p).tlu) hlevel,
        sounding_report] at hcarry
      exact takeCode_of_answer hw rfl hcarry rfl
    · have hlevel : ¬ levelGrants u l e := fun h => absurd (h c hc) (Nat.not_le.mpr hlow)
      have hcarry := playTone_eq l e (s.dev.begin p)
      rw [if_neg (mt (grants_iff (s.dev.begin p).tlu l e).mp hlevel),
        request_ignored (u := (s.dev.begin p).tlu) hlevel] at hcarry
      have hreport : playingReport u.generators[l] = [num c.entry, num c.tone.level] := by
        unfold playingReport
        rw [hc]
        rfl
      refine takeCode_of_answer (d := s.dev.begin p) hw rfl (hcarry.trans ?_) rfl
      rw [← hreport]
      rfl
    · have hrun := takeCode_of_answer (code := rcStopTone) (carry := onLane stopTone) hw rfl
        (onLane_num stopTone l (s.dev.begin z)) rfl
      exact hrun.trans (congrArg (fun b => Host.Outcome.next { s with dev :=
        { (s.dev.begin z).updGen l Generator.stop with trunk := answered s.dev.trunk z .done [b] } }) (stop_report g).symm)
  · intro g done goes hc
    obtain ⟨hsilent, hstop, hoff, hon⟩ := phaseEnd_eq hc
    exact ⟨fun hp => exec_phase hr (hsilent hp), fun hp hrep hdone => exec_phase hr (hstop hp hrep hdone),
      fun hp hmore ht => exec_phase hr (hoff hp hmore ht), fun hp hmore ht => exec_phase hr (hon hp hmore ht)⟩

/-! ### Lamps -/

theorem setLamp_eq {m : Byte} {mode : Option LampMode} (l : Fin 16) (isSync : Bool) (hm : lampOfCode m.toNat = some mode)
    (d : Device) : Machine.setLamp [num l, m, if isSync then 1 else 0] d =
      answer (d.setLamp l mode isSync) .done (lampReport (d.setLamp l mode isSync) l) := by
  have hsync : inBool (if isSync then 1 else 0) = some isSync := by
    cases isSync <;> rfl
  unfold Machine.setLamp
  dsimp only
  rw [inIndex_num l (by decide), hm, hsync]

theorem exec_boundary {s : State} (hr : s.dev.inReset = false) (l : Fin 16) :
    exec (.lampBoundary l) s = .next { s with dev := lampBoundary l s.dev } :=
  (exec_lampBoundary s l).trans ((s.runAt_of_lt _ _ l.isLt).trans (s.run_of_running _ hr))

theorem flashing_modeIn (d : Device) (l : Fin 16) : (d.lampMode l).flashing = true ↔ flashes (modeInEffect d l) := by
  rw [lampMode_eq]
  exact flashing_iff _

theorem lamp_iff (d : Device) (l : Fin 16) : d.lamp l = true ↔ modeInEffect d l = .on ∨
    (modeInEffect d l = .flashSlow ∧ d.tlu.flash < 500) ∨ (modeInEffect d l = .flashFast ∧ d.tlu.flash % 250 < 125) := by
  rw [Device.lamp, lampMode_eq]
  change (modeInEffect d l).lit _ = true ↔ _
  cases modeInEffect d l <;> simp [LampMode.lit]

/-- The part with one lamp replaced. -/
def withLamp (d : Device) (l : Fin 16) (v : Lamp) : Device :=
  { d with tlu := { d.tlu with lamps := d.tlu.lamps.set l v } }

theorem withLamp_lamp (d : Device) (l : Fin 16) (v : Lamp) : (withLamp d l v).tlu.lamps[l] = v :=
  upd_getElem_self _ l fun _ => v

theorem lampMode_withLamp (d : Device) (l : Fin 16) (v : Lamp) :
    (withLamp d l v).lampMode l = modeIn v d.lanes[l].state := by
  rw [lampMode_eq, withLamp_lamp]
  rfl

theorem modeInEffect_withLamp (d : Device) (l : Fin 16) (v : Lamp) :
    modeInEffect (withLamp d l v) l = modeIn v d.lanes[l].state := by
  rw [modeInEffect, withLamp_lamp]
  rfl

theorem lampReport_withLamp (d : Device) (l : Fin 16) (v : Lamp) : lampReport (withLamp d l v) l =
    [num (lampCode v.overrideMode), num (modeIn v d.lanes[l].state).code, flag v.staged.isSome] := by
  unfold lampReport
  rw [withLamp_lamp, lampMode_withLamp]
  cases v.staged <;> rfl

/-- A lamp request takes effect at once, or is staged. -/
theorem setLamp_cases (d : Device) (l : Fin 16) (mode : Option LampMode) (isSync : Bool) :
    (isSync = false ∨ ¬ flashes (modeInEffect d l) →
      d.setLamp l mode isSync = withLamp d l { overrideMode := mode, staged := none }) ∧
    (isSync = true → flashes (modeInEffect d l) →
      d.setLamp l mode isSync = withLamp d l { d.tlu.lamps[l] with staged := some mode }) := by
  refine ⟨fun h => if_neg fun hb => ?_, fun hsync hflash => if_pos ?_⟩
  · obtain ⟨hsync, hflash⟩ := (Bool.and_eq_true _ _).mp hb
    rcases h with h | h
    · exact absurd hsync (Bool.eq_false_iff.mp h)
    · exact h ((flashing_modeIn d l).mp hflash)
  · exact (Bool.and_eq_true _ _).mpr ⟨hsync, (flashing_modeIn d l).mpr hflash⟩

theorem lampBoundary_eq {d : Device} {l : Fin 16} (h : flashes (modeInEffect d l)) :
    lampBoundary l d = withLamp d l d.tlu.lamps[l].applyStaged := if_pos ((flashing_modeIn d l).mpr h)

/-- Settles O43: the request by sync and mode, the lamp by its mode, the boundary by the staged request. -/
theorem lamps : Obligations.Lamps := by
  intro s tag m l mode isSync r p set applied
  refine ⟨fun hw hm => ⟨fun h => ?_, fun hsync hflash => ?_⟩, lamp_iff s.dev l, fun hr hflash => ⟨fun hs => ?_, fun hs => ?_⟩⟩
  · have hcarry := setLamp_eq l isSync hm (s.dev.begin r)
    rw [(setLamp_cases (s.dev.begin r) l mode isSync).1 h, lampReport_withLamp] at hcarry
    have hmode : modeInEffect applied l = modeIn { overrideMode := mode, staged := none } s.dev.lanes[l].state :=
      modeInEffect_withLamp s.dev l _
    have hrun := takeCode_of_answer (code := rcSetLamp) (carry := Machine.setLamp) hw rfl hcarry rfl
    rw [hmode]
    exact hrun
  · have hcarry := setLamp_eq l isSync hm (s.dev.begin r)
    rw [(setLamp_cases (s.dev.begin r) l mode isSync).2 hsync hflash, lampReport_withLamp] at hcarry
    have hrun := takeCode_of_answer (code := rcSetLamp) (carry := Machine.setLamp) hw rfl hcarry rfl
    exact hrun
  · have hstaged : p.applyStaged = { overrideMode := mode, staged := none } := by
      unfold Lamp.applyStaged
      rw [hs]
    rw [exec_boundary hr, lampBoundary_eq hflash, hstaged]
    rfl
  · have hstaged : p.applyStaged = p := by
      unfold Lamp.applyStaged
      rw [hs]
    have hsame : withLamp s.dev l p.applyStaged = s.dev := by
      rw [hstaged]
      exact congrArg (fun v => ({ s.dev with tlu := { s.dev.tlu with lamps := v } } : Device))
        (upd_id s.dev.tlu.lamps l (f := fun _ => p) rfl)
    rw [exec_boundary hr, lampBoundary_eq hflash, hsame]

end Sys2Proof.TonesAndLamps

/-! ## The trunk port (R139, R140, R144, R145, R184 to R188, R190, R192 to R194) -/

namespace Sys2Proof.TrunkPort

open Sys2Proof.Machine Sys2Proof.Claims Sys2Proof.Events Sys2Proof.OpenCounter Sys2Proof.SupplyFaults Sys2Proof.DeliveryUnit
  Sys2Proof.Safety

/-! ### Requests of the trunk port -/

theorem outFlag_eq (b : Bool) : outFlag b = [flag b] := by
  cases b <;> rfl

theorem lineCode_eq (high : Bool) : out1 (lineCode high) = [if high then 0 else 1] := by
  cases high <;> rfl

/-- A request that moves the trunk too, answered. -/
theorem takeCode_of_reply {s : State} {r : Request} {code : Nat} {carry : List Byte → Device → Carried} {d : Device}
    {c : ReplyCode} {fs : List Byte} (hw : Waits s r) (hr : r.is code = true)
    (hcarry : carry r.fields (s.dev.begin r) = answer d c fs) (hin : d.trunk.inProgress = some r) :
    s.takeCode code carry = .next { s with dev := { d with trunk := { d.trunk with
      replies := d.trunk.replies ++ [{ tag := r.tag, request := r.replyCode, code := c, fields := fs }]
      inProgress := none } } } := by
  rw [State.takeCode, s.run_of_running _ hw.1, Device.take_of_takeable _ _ _ r (takeable_of_waits hw) hr, hcarry,
    Carried.finish_answer, Device.reply_of_inProgress _ _ r hin]

theorem status_flag (clear : Bool) (d : Device) : status [flag clear] d =
    answer (if clear then d.updTrunk Trunk.zeroCounters else d) .done (statusReport d) := by
  unfold status
  dsimp only
  rw [inBool_flag]

theorem known_listed : ∀ n ∈ knownCodes, n ∈ fixedLength.map Prod.fst ∨ n = 0x18 ∨ n = 0x4A := by decide

theorem isUnknown_request {n : Nat} (tag : Byte) (fs : List Byte) (hn : n < 256) (hf : n ∉ fixedLength.map Prod.fst)
    (hk : n ≠ 0x18) (hd : n ≠ 0x4A) : (request tag n fs).isUnknown = true := by
  have hcode : (request tag n fs).code? = some n := congrArg some (num_toNat hn)
  unfold Request.isUnknown
  rw [hcode]
  dsimp only
  rw [Bool.not_eq_true', Bool.eq_false_iff, ne_eq, List.contains_iff_mem]
  intro hmem
  rcases known_listed n hmem with h | h | h
  · exact hf h
  · exact hk h
  · exact hd h

/-- Settles O44: each request through its row. -/
theorem trunkRequests : Obligations.TrunkRequests := by
  intro s tag a b c e n fs clear k x y z kept
  refine ⟨fun hw => ?_, fun hw => ?_, fun hw => ?_, fun hn hf hk hd hw => ?_, fun hw => ?_⟩
  · have hfields : statusReport (s.dev.begin x) = [num k.cause.code] ++ four k.clock.toNat ++ [num k.bitRate.code] ++
        two k.checkErrors ++ two k.malformed ++ two k.wrongDirection ++ two k.busyRefusals ++ two k.dropped ++
        two k.ignoredCredits ++ [num (k.requests.length - 1), num k.replies.length] ++ two s.dev.pool.freeList.length ++
        [flag s.dev.drawers.inhibit, if s.dev.drawers.supplyHigh then 0 else 1] := by
      rw [← List.length_tail]
      unfold statusReport
      rw [outFlag_eq, lineCode_eq]
      rfl
    have hcarry := status_flag clear (s.dev.begin x)
    rw [hfields] at hcarry
    cases clear with
    | true => exact takeCode_of_reply (code := rcStatus) (carry := status) hw rfl hcarry rfl
    | false => exact takeCode_of_reply (code := rcStatus) (carry := status) hw rfl hcarry rfl
  · exact takeCode_of_reply (code := rcSetTime) (carry := setTime) hw rfl rfl rfl
  · exact takeCode_of_reply (code := rcDeviceReset) (carry := deviceReset) hw rfl rfl rfl
  · exact take_of_answer (d := s.dev.begin _) hw (isUnknown_request tag fs hn hf hk hd) rfl rfl
  · exact take_of_answer (d := s.dev.begin _) hw rfl rfl rfl

/-! ### Received frames -/

/-- R183, R184: the frame whose last byte comes is complete. -/
theorem frameComplete_frame (kind addr check last : Byte) {payload : List Byte} (h : payload.length ≤ 64) :
    frameComplete (([kind, addr, num payload.length] ++ payload ++ [check]) ++ [last]) = true := by
  have hnum : (num payload.length).toNat = payload.length := num_toNat (by omega)
  simp [frameComplete, frameLength, hnum]

/-- R186: the verdict on a complete frame, from its parts. -/
theorem judge_frame (kind addr check last : Byte) (payload : List Byte) :
    let body := [kind, addr, num payload.length] ++ payload
    judge ((body ++ [check]) ++ [last]) =
      if [check, last] ≠ checkBytes body then .rejected .checkError
      else match FrameKind.ofCode kind.toNat with
        | none => .rejected .unknownKind
        | some .event | some .reply => .rejected .wrongDirection
        | some .request => .request { tag := addr, payload := payload }
        | some .credit =>
          match payload with
          | [n] => .credit addr.toNat n.toNat
          | _ => .rejected .creditLength := by
  intro body
  have hframe : (body ++ [check]) ++ [last] = body ++ [check, last] := by rw [List.append_assoc]; rfl
  have hlen : (body ++ [check, last]).length - 2 = body.length := by
    rw [List.length_append]
    rfl
  unfold judge
  rw [hframe, hlen, List.take_left, List.drop_left]
  rfl

theorem completes_frame {k : Trunk} {kind addr check last : Byte} {payload : List Byte} (hrec : k.receiver = .receiving)
    (hlen : payload.length ≤ 64) (hframe : k.frame = [kind, addr, num payload.length] ++ payload ++ [check]) :
    k.completes last = some (([kind, addr, num payload.length] ++ payload ++ [check]) ++ [last]) := by
  unfold Trunk.completes
  rw [hframe, if_pos ⟨hrec, frameComplete_frame kind addr check last hlen⟩]

theorem arrive_eq (k : Trunk) (tag : Byte) (payload : List Byte) :
    let r : Request := { tag := tag, payload := payload }
    k.arrive r = if k.requests.length < 4 then { k with requests := k.requests ++ [r] }
      else if k.replies.length + (if k.inProgress.isSome then 1 else 0) < 4 then
        { k with
          replies := k.replies ++ [{ tag := tag, request := r.replyCode, code := .refusedBusy, fields := [] }]
          busyRefusals := min 65535 (k.busyRefusals + 1) }
      else { k with dropped := min 65535 (k.dropped + 1) } := by
  intro r
  have hroom : k.replyRoom = true ↔ k.replies.length + (if k.inProgress.isSome then 1 else 0) < 4 := by
    unfold Trunk.replyRoom
    rw [decide_eq_true_eq]
    rfl
  unfold Trunk.arrive
  exact if_congr Iff.rfl rfl (if_congr hroom rfl rfl)

/-- Settles O45: the frame is judged a request, which arrives. -/
theorem requestFrame : Obligations.RequestFrame := by
  intro s tag last payload check k body r k' busy hr hrec hlen hframe hcheck
  have hjudge := (judge_frame 0xA1 tag check last payload).trans (if_neg (not_not_intro hcheck))
  have hverdict : (k.completes last).map judge = some (.request r) := by
    rw [completes_frame hrec hlen hframe]
    exact congrArg some hjudge
  have harrive : Machine.requestFrame last s.dev = s.dev.updTrunk fun t => (t.waitIdle true).arrive r := by
    unfold Machine.requestFrame
    rw [hverdict]
  rw [exec_requestFrame, s.run_of_running _ hr, harrive, Device.updTrunk, arrive_eq]
  rfl

/-- What soundness says of one consumer (R127, R139, R140). -/
abbrev ConsumerFits (x : Consumer) : Prop :=
  x.queued ≤ x.depth ∧ (x.state ≠ .active → x.queued = 0) ∧
    (x.stallTimer.isSome ↔ x.state = .active ∧ x.credit = 0 ∧ 0 < x.queued) ∧ x.credit ≤ 255

/-- R139, R140: credit gained by an ACTIVE consumer. -/
theorem gained_stall {x : Consumer} (hx : x.state = .active) (h : ConsumerFits x) (n stallTime : Nat) :
    ({ x with credit := sat8 x.credit n } : Consumer).syncStall stallTime =
      { x with credit := min 255 (x.credit + n)
               stallTimer := if x.credit + n = 0 then x.stallTimer else none } := by
  obtain ⟨-, -, htimer, -⟩ := h
  have hstalling : ({ x with credit := sat8 x.credit n } : Consumer).stalling = true ↔ x.credit + n = 0 ∧ 0 < x.queued := by
    simp [Consumer.stalling, Consumer.queued, sat8, hx]
  unfold Consumer.syncStall
  by_cases h0 : x.credit + n = 0
  · rw [if_pos h0]
    by_cases hq : 0 < x.queued
    · obtain ⟨m, hm⟩ := Option.isSome_iff_exists.mp (htimer.mpr ⟨hx, by omega, hq⟩)
      rw [if_pos (hstalling.mpr ⟨h0, hq⟩), hm]
      rfl
    · have hnone : x.stallTimer = none := Option.not_isSome_iff_eq_none.mp fun hs => hq (htimer.mp hs).2.2
      rw [if_neg fun hs => hq (hstalling.mp hs).2, hnone]
      rfl
  · rw [if_neg h0, if_neg fun hs => h0 (hstalling.mp hs).1]
    rfl

/-- R139, R140: a STALLED consumer that becomes ACTIVE has nothing queued. -/
theorem revived_stall {x : Consumer} (hx : x.state = .stalled) (h : ConsumerFits x) (n stallTime : Nat) :
    ({ x with state := .active, credit := n } : Consumer).syncStall stallTime = { x with state := .active, credit := n } := by
  obtain ⟨-, hempty, htimer, -⟩ := h
  have hstate : x.state ≠ .active := by
    rw [hx]
    decide
  have hnone : x.stallTimer = none := Option.not_isSome_iff_eq_none.mp fun hs => hstate (htimer.mp hs).1
  have hidle : ({ x with state := .active, credit := n } : Consumer).stalling = false := by
    have hqueued : ({ x with state := .active, credit := n } : Consumer).queued = 0 := hempty hstate
    simp [Consumer.stalling, hqueued]
  rw [Consumer.syncStall, hidle, hnone]
  rfl

/-- Settles O46: the frame is judged a credit, and acts by the consumer's state. -/
theorem creditFrame : Obligations.CreditFrame := by
  intro s addr last count check k body k' hr hrec hframe hcheck ignored goes
  have hjudge := (judge_frame 0xC1 addr check last [count]).trans (if_neg (not_not_intro hcheck))
  have hverdict : (k.completes last).map judge = some (.credit addr.toNat count.toNat) := by
    rw [completes_frame (payload := [count]) hrec (Nat.le_of_ble_eq_true rfl) hframe]
    exact congrArg some hjudge
  have hcredit : Machine.creditFrame last s.dev =
      (s.dev.updTrunk fun t => t.waitIdle true).creditTo addr.toNat count.toNat := by
    unfold Machine.creditFrame
    rw [hverdict]
  have hrun : exec (.creditFrame last) s =
      .next { s with dev := ({ s.dev with trunk := k' } : Device).creditTo addr.toNat count.toNat } := by
    rw [exec_creditFrame, s.run_of_running _ hr, hcredit]
    rfl
  refine ⟨fun h7 => ?_, fun c hc => ?_⟩
  · have hno : ¬ addr.toNat < 8 := by omega
    refine hrun.trans ?_
    unfold Device.creditTo
    rw [dif_neg hno]
    rfl
  · intro x
    have hto : ({ s.dev with trunk := k' } : Device).creditTo addr.toNat count.toNat =
        ({ s.dev with trunk := k' } : Device).credit c count.toNat := by
      have hnum : addr.toNat = c.val := by
        rw [hc]
        exact num_toNat (by omega)
      unfold Device.creditTo
      rw [dif_pos (hnum.trans_lt c.isLt)]
      exact congrArg (fun i => Device.credit _ i count.toNat) (Fin.ext hnum)
    rw [hto] at hrun
    refine ⟨fun hx => ?_, fun hx hsound => ?_, fun hx hsound hroom => ?_⟩
    · have hignored : ({ s.dev with trunk := k' } : Device).credit c count.toNat =
          { s.dev with trunk := { k' with ignoredCredits := min 65535 (k.ignoredCredits + 1) } } := by
        unfold Device.credit
        dsimp only
        rw [hx]
        rfl
      rw [hignored] at hrun
      exact hrun
    · have hgain : ({ s.dev with trunk := k' } : Device).credit c count.toNat =
          ({ s.dev with trunk := k' } : Device).changeConsumer c fun y => { y with credit := sat8 y.credit count.toNat } := by
        unfold Device.credit
        dsimp only
        rw [hx]
      have hconsumer := gained_stall hx (hsound c) count.toNat s.dev.delivery.stallTime
      rw [hgain] at hrun
      refine hrun.trans ?_
      rw [← hconsumer]
      rfl
    · have hrevive : ({ s.dev with trunk := k' } : Device).credit c count.toNat =
          (({ s.dev with trunk := k' } : Device).changeConsumer c fun y => { y with state := .active, credit := count.toNat }).offer
            deviceQueue (notice (.consumerRevived, none, c.val, count.toNat)) := by
        unfold Device.credit
        dsimp only
        rw [hx]
        rfl
      have hconsumer := revived_stall hx (hsound c) count.toNat s.dev.delivery.stallTime
      have hoffer := offer_notice (d := ({ s.dev with trunk := k' } : Device).changeConsumer c fun y =>
        { y with state := .active, credit := count.toNat }) (.consumerRevived, none, c.val, count.toNat) hroom
      rw [hrevive, hoffer] at hrun
      refine hrun.trans ?_
      rw [← hconsumer]
      rfl

/-! ### The receiver -/

/-- R186: a frame that fails a test is discarded and counted. -/
theorem exec_rejected {s : State} {last : Byte} {why : Rejection} (hr : s.dev.inReset = false)
    (h : (s.dev.trunk.completes last).map judge = some (.rejected why)) :
    exec (.frameRejected last) s = .next (withTrunk s ((s.dev.trunk.waitIdle true).discard why)) := by
  have hreject : frameRejected last s.dev = s.dev.updTrunk fun t => (t.waitIdle true).discard why := by
    unfold frameRejected
    rw [h]
  rw [exec_frameRejected, s.run_of_running _ hr, hreject]
  rfl

theorem exec_abandoned {s : State} {cause : AbandonCause} (hr : s.dev.inReset = false)
    (h : s.dev.trunk.mayAbandon cause = true) :
    exec (.frameAbandoned cause) s = .next (withTrunk s s.dev.trunk.abandon) := by
  have habandon : frameAbandoned cause s.dev = s.dev.updTrunk Trunk.abandon := if_pos h
  rw [exec_frameAbandoned, s.run_of_running _ hr, habandon]
  rfl

theorem exec_stored {s : State} {b : Byte} (hr : s.dev.inReset = false) (h : s.dev.trunk.mayStore b = true) :
    exec (.trunkCharacterStored b) s = .next (withTrunk s (s.dev.trunk.store b)) := by
  have hstore : (s.dev.updTrunk fun t => t.storeCharacter b) = s.dev.updTrunk fun t => t.store b :=
    congrArg (fun k => ({ s.dev with trunk := k } : Device)) (if_pos h)
  rw [exec_trunkCharacterStored, s.run_of_running _ hr, hstore]
  rfl

theorem ofCode_of_byte (kind : Byte) :
    (kind = 0xA2 ∨ kind = 0xE1 → FrameKind.ofCode kind.toNat = some .reply ∨ FrameKind.ofCode kind.toNat = some .event) ∧
    (kind = 0xC1 → FrameKind.ofCode kind.toNat = some .credit) ∧
    (kind ≠ 0xA1 ∧ kind ≠ 0xA2 ∧ kind ≠ 0xC1 ∧ kind ≠ 0xE1 → FrameKind.ofCode kind.toNat = none) := by
  refine ⟨?_, ?_, ?_⟩
  · rintro (rfl | rfl)
    · exact .inl rfl
    · exact .inr rfl
  · rintro rfl
    rfl
  · rintro ⟨h1, h2, h3, h4⟩
    have hne (n : Nat) (hn : n < 256) (h : kind ≠ num n) : ¬ kind.toNat = n :=
      fun he => h (BitVec.eq_of_toNat_eq (he.trans (num_toNat hn).symm))
    unfold FrameKind.ofCode
    rw [if_neg (hne 0xA1 (by decide) h1), if_neg (hne 0xA2 (by decide) h2), if_neg (hne 0xC1 (by decide) h3),
      if_neg (hne 0xE1 (by decide) h4)]

/-- R184: a character that neither completes the frame nor is a length above 64. -/
theorem mayStore_receiving {k : Trunk} {b : Byte} (hrec : k.receiver = .receiving)
    (hlen : k.frame.length = 2 → b.toNat ≤ 64) (hmore : ∀ n, k.frame[2]? = some n → k.frame.length + 1 < 5 + n.toNat) :
    k.mayStore b = true := by
  have hcomplete : ¬ frameComplete (k.frame ++ [b]) = true := by
    intro h
    simp only [frameComplete, frameLength, Bool.and_eq_true, beq_iff_eq, decide_eq_true_eq, List.length_append,
      List.length_cons, List.length_nil] at h
    obtain ⟨hcode, h5⟩ := h
    rw [List.getElem?_append_left (by omega), Option.map_eq_some_iff] at hcode
    obtain ⟨n, hn, hlength⟩ := hcode
    have hn5 := hmore n hn
    omega
  have hlong : ¬ lengthTooLong (k.frame ++ [b]) = true := by
    intro h
    unfold lengthTooLong frameLength at h
    obtain ⟨h3, h64⟩ := (Bool.and_eq_true _ _).mp h
    have h2 : k.frame.length = 2 := by simpa using h3
    rw [List.getElem?_append_right (by omega), h2] at h64
    have : 64 < b.toNat := of_decide_eq_true h64
    exact absurd (hlen h2) (Nat.not_le.mpr this)
  unfold Trunk.mayStore
  rw [hrec]
  dsimp only
  rw [Bool.and_eq_true, Bool.not_eq_true', Bool.not_eq_true']
  exact ⟨Bool.eq_false_iff.mpr hcomplete, Bool.eq_false_iff.mpr hlong⟩

/-- Settles O47: the receiver by its states, and a frame rejected by the first test that fails. -/
theorem receiverAndRejects : Obligations.ReceiverAndRejects := by
  refine ⟨fun s b hr => ?_, fun s kind addr check last payload => ?_⟩
  · intro k goes abandoned
    refine ⟨fun hw => ⟨?_, ?_⟩, fun hi hf => ?_, fun hrec => ⟨fun hlen hmore => ?_, fun hlen hb => ?_, ?_⟩, fun hw => ?_⟩
    · have hidle : (s.dev.updTrunk Trunk.idleSeen) = { s.dev with trunk := { k with receiver := .idle, waitFresh := false } } :=
        congrArg (fun k => ({ s.dev with trunk := k } : Device)) (if_pos hw)
      rw [exec_receiverIdle, s.run_of_running _ hr, hidle]
      rfl
    · by_cases hfresh : k.waitFresh = true
      · have hcount : s.dev.updTrunk Trunk.waitCharacter = { s.dev with trunk := { k with
            waitFresh := false, malformed := min 65535 (k.malformed + 1) } } :=
          congrArg (fun k => ({ s.dev with trunk := k } : Device)) (if_pos ⟨hw, hfresh⟩)
        rw [if_pos hfresh, exec_waitIdleCharacter, s.run_of_running _ hr, hcount]
        rfl
      · have hkeep : s.dev.updTrunk Trunk.waitCharacter = s.dev :=
          congrArg (fun k => ({ s.dev with trunk := k } : Device)) (if_neg fun h => hfresh h.2)
        rw [if_neg hfresh, exec_waitIdleCharacter, s.run_of_running _ hr, hkeep]
    · have hmay : k.mayStore b = true := by
        unfold Trunk.mayStore
        rw [hi]
      have hstored : k.store b = { k with receiver := .receiving, frame := [b] } := by
        unfold Trunk.store
        rw [hf]
        rfl
      rw [exec_stored hr hmay, hstored]
    · have hstored : k.store b = { k with frame := k.frame ++ [b] } := by
        unfold Trunk.store
        rw [← hrec]
      rw [exec_stored hr (mayStore_receiving hrec hlen hmore), hstored]
    · refine exec_abandoned hr ((Bool.and_eq_true _ _).mpr ⟨beq_iff_eq.mpr hrec, ?_⟩)
      have hthird : (k.frame ++ [b])[2]? = some b := by
        rw [List.getElem?_append_right (by omega), hlen]
        rfl
      unfold lengthTooLong frameLength
      rw [hthird, List.length_append, hlen]
      exact decide_eq_true hb
    · exact exec_abandoned hr (beq_iff_eq.mpr hrec)
    · exact exec_abandoned hr (bne_iff_ne.mpr hw)
  · intro k body k' goes hr hrec hlen hframe
    have hverdict (v : Verdict) (h : judge ((body ++ [check]) ++ [last]) = v) : (k.completes last).map judge = some v := by
      rw [completes_frame hrec hlen hframe]
      exact congrArg some h
    have hjudge := judge_frame kind addr check last payload
    obtain ⟨hup, hcredit, hunknown⟩ := ofCode_of_byte kind
    by_cases h1 : [check, last] ≠ checkBytes body
    · rw [if_pos h1]
      exact exec_rejected hr (hverdict _ (hjudge.trans (if_pos h1)))
    · replace hjudge := hjudge.trans (if_neg h1)
      rw [if_neg h1]
      by_cases h2 : kind ≠ 0xA1 ∧ kind ≠ 0xA2 ∧ kind ≠ 0xC1 ∧ kind ≠ 0xE1
      · rw [if_pos h2]
        rw [hunknown h2] at hjudge
        exact exec_rejected hr (hverdict _ hjudge)
      · rw [if_neg h2]
        by_cases h3 : kind = 0xA2 ∨ kind = 0xE1
        · rw [if_pos h3]
          rcases hup h3 with h | h
          · rw [h] at hjudge
            exact exec_rejected hr (hverdict _ hjudge)
          · rw [h] at hjudge
            exact exec_rejected hr (hverdict _ hjudge)
        · rw [if_neg h3]
          by_cases h4 : kind = 0xC1 ∧ payload.length ≠ 1
          · rw [if_pos h4]
            rw [hcredit h4.1] at hjudge
            refine exec_rejected hr (hverdict (.rejected .creditLength) (hjudge.trans ?_))
            match payload, h4.2 with
            | [], _ => rfl
            | [n], hne => exact absurd rfl hne
            | m :: n :: rest, _ => rfl
          · rw [if_neg h4]
            trivial

/-! ### The transmitter -/

theorem exec_choice {s : State} (hr : s.dev.inReset = false) :
    exec .transmitChoice s = .next { s with dev := transmitChoice s.dev } :=
  (exec_transmitChoice s).trans (s.run_of_running _ hr)

theorem exec_frameEnd {s : State} (hr : s.dev.inReset = false) (i : Inputs) :
    exec (.transmitFrameEnd i) s = .next { s with dev := transmitFrameEnd i s.dev } :=
  (exec_transmitFrameEnd s i).trans (s.run_of_running _ hr)

theorem exec_gapEnd {s : State} (hr : s.dev.inReset = false) :
    exec .transmitGapEnd s = .next { s with dev := s.dev.updTrunk Trunk.gapEnd } :=
  (exec_transmitGapEnd s).trans (s.run_of_running _ hr)

section
variable {d : Device} (hfree : d.trunk.transmitter = .free)
include hfree

theorem choice_reply {r : Reply} {rest : List Reply} (h : d.trunk.replies = r :: rest) : transmitChoice d =
    { d with trunk := { d.trunk with replies := rest, transmitter := .sending (.reply r) } } := by
  unfold transmitChoice
  rw [hfree, h]
  rfl

theorem choice_none (h : d.trunk.replies = []) (hno : d.delivery.chooseFrame = none) : transmitChoice d = d := by
  unfold transmitChoice
  rw [hfree, h, hno]

/-- R144, R145: the chosen consumer's reference leaves its queue, and its slot makes the frame. -/
theorem choice_event {c : Fin 8} {ref : Fin 512} {urgent : Bool} {slot : Slot} (h : d.trunk.replies = [])
    (hchoose : d.delivery.chooseFrame = some (c, ref, urgent)) (hslot : d.pool.slots[ref] = some slot) :
    transmitChoice d = { d with
      delivery := { d.delivery with
        lastServed := c
        consumers := upd d.delivery.consumers c fun x => (x.takeHead urgent).syncStall d.delivery.stallTime }
      pool := d.pool.giveUp ref
      trunk := { d.trunk with transmitter := .sending (.event c
        { slot.ev with afterLoss := slot.ev.afterLoss || d.delivery.consumers[c].lossFlag } slot.body urgent) } } := by
  unfold transmitChoice Device.eventFrame
  rw [hfree, h, hchoose]
  dsimp only
  rw [hslot]
  rfl

end

/-- R145: what a reference taken leaves of its consumer. -/
theorem takeHead_spec (x : Consumer) (urgent : Bool) (stallTime : Nat) :
    let y := (x.takeHead urgent).syncStall stallTime
    y.credit = x.credit - 1 ∧ y.lossFlag = false ∧ y.state = x.state ∧ y.drops = x.drops ∧ y.depth = x.depth ∧
    y.urgentQ = (if urgent then x.urgentQ.tail else x.urgentQ) ∧
    y.routineQ = (if urgent then x.routineQ else x.routineQ.tail) := by
  cases urgent with
  | true => exact ⟨rfl, rfl, rfl, rfl, rfl, rfl, rfl⟩
  | false => exact ⟨rfl, rfl, rfl, rfl, rfl, rfl, rfl⟩

theorem isResetDone_iff (f : OutFrame) : f.isResetDone = true ↔ ∃ r, f = .reply r ∧ r.request = 0x62 ∧ r.code = .done := by
  cases f with
  | event c ev body urgent => exact ⟨nofun, fun ⟨_, h, _⟩ => nomatch h⟩
  | reply r =>
    have hcode : r.request.toNat = rcDeviceReset ↔ r.request = 0x62 :=
      ⟨fun h => BitVec.eq_of_toNat_eq h, fun h => congrArg BitVec.toNat h⟩
    simp only [OutFrame.isResetDone, Bool.and_eq_true, beq_iff_eq, hcode, OutFrame.reply.injEq, exists_eq_left']

/-- Settles O48: the choice by what waits, the end of a frame by what it was, the end of a gap. -/
theorem transmitter : Obligations.Transmitter := by
  refine ⟨fun s hr hfree => ?_, fun s i f tag fields hr => ?_⟩
  · intro k
    refine ⟨fun r rest h => ?_, fun h hno => ?_, fun c ref urgent slot h hchoose hslot => ?_⟩
    · rw [exec_choice hr, choice_reply hfree h]
    · rw [exec_choice hr, choice_none hfree h hno]
    · intro x
      have hrun := exec_choice hr
      rw [choice_event hfree h hchoose hslot] at hrun
      refine ⟨_, hrun, rfl, rfl, ?_, fun m hm => upd_getElem_ne _ _ hm, rfl, fun hone => ?_, fun hmore => ?_, rfl⟩
      · dsimp only
        rw [upd_getElem_self]
        exact takeHead_spec x urgent _
      · exact s.dev.pool.giveUp_last ref slot hslot hone
      · exact s.dev.pool.giveUp_more ref slot hslot hmore
  · intro k
    refine ⟨fun hsend hother => ?_, fun hsend hhigh => ?_, fun hgap => ?_⟩
    · have hno : ¬ f.isResetDone = true := fun h => by
        obtain ⟨r, hf, hreq, hcode⟩ := (isResetDone_iff f).mp h
        exact (hother r hf).elim (fun h => h hreq) fun h => h hcode
      have hend : transmitFrameEnd i s.dev = s.dev.updTrunk fun t => { t with transmitter := .gap } := by
        unfold transmitFrameEnd
        rw [hsend]
        exact if_neg hno
      rw [exec_frameEnd hr, hend]
      rfl
    · have hend : transmitFrameEnd i s.dev = startUp .trunk i := by
        unfold transmitFrameEnd
        rw [hsend]
        rfl
      rw [exec_frameEnd hr, hend, StartUp.startUp_of_high .trunk hhigh]
    · have hend : s.dev.updTrunk Trunk.gapEnd = { s.dev with trunk := { k with transmitter := .free } } :=
        congrArg (fun k => ({ s.dev with trunk := k } : Device)) (if_pos hgap)
      rw [exec_gapEnd hr, hend]

end Sys2Proof.TrunkPort

/-! ## Entries, rules, settings and frames read back (11.2, 11.4, R185, R186, R196, R198) -/

namespace Sys2Proof.RoundTrips

open Sys2Proof.Machine Sys2Proof.Claims Sys2Proof.Events Sys2Proof.TrunkPort

/-! ### Numbers and flags in bytes -/

theorem num_mod (n : Nat) : (num n).toNat = n % 256 := BitVec.toNat_ofNat n 8

/-- Up to five flags in one byte. -/
theorem five_flags : ∀ a b c d e : Bool,
    let v := BitVec.ofNat 8 (bit a + 2 * bit b + 4 * bit c + 8 * bit d + 16 * bit e)
    hasBit v 0 = a ∧ hasBit v 1 = b ∧ hasBit v 2 = c ∧ hasBit v 3 = d ∧ hasBit v 4 = e ∧ v.toNat < 32 := by decide

theorem two_flags : ∀ a b : Bool, let v := BitVec.ofNat 8 (bit a + 2 * bit b)
    hasBit v 0 = a ∧ hasBit v 1 = b ∧ v.toNat < 4 := by decide

theorem inBool_bit (b : Bool) : inBool (BitVec.ofNat 8 (bit b)) = some b := by
  cases b <;> rfl

theorem inRole_code (r : Role) : inRole r.code = some r := by
  cases r <;> rfl

/-! ### The keymap entry -/

theorem inKeyEntry_out (e : KeyEntry) : inKeyEntry (num (e.code.toNat % 256)) (num (e.code.toNat / 256 + 16 * e.role.code))
    (BitVec.ofNat 8 (bit e.repeats + 2 * bit e.tender + 4 * bit e.supervisor + 8 * bit e.silent + 16 * bit e.wake)) =
      some e := by
  obtain ⟨hrep, hten, hsup, hsil, hwake, hlt⟩ := five_flags e.repeats e.tender e.supervisor e.silent e.wake
  have hcode : e.code.toNat < 4096 := e.code.isLt
  have hrole : e.role.code ≤ 2 := by cases e.role <;> decide
  have h0 : (num (e.code.toNat % 256)).toNat = e.code.toNat % 256 := num_toNat (by omega)
  have h1 : (num (e.code.toNat / 256 + 16 * e.role.code)).toNat = e.code.toNat / 256 + 16 * e.role.code :=
    num_toNat (by omega)
  have hfit : ¬ (64 ≤ (num (e.code.toNat / 256 + 16 * e.role.code)).toNat ∨ 32 ≤ (BitVec.ofNat 8 (bit e.repeats +
      2 * bit e.tender + 4 * bit e.supervisor + 8 * bit e.silent + 16 * bit e.wake)).toNat) := by omega
  have hdiv : (e.code.toNat / 256 + 16 * e.role.code) / 16 = e.role.code := by omega
  have hback : BitVec.ofNat 12 (e.code.toNat % 256 + 256 * ((e.code.toNat / 256 + 16 * e.role.code) % 16)) = e.code := by
    refine BitVec.eq_of_toNat_eq ?_
    rw [BitVec.toNat_ofNat]
    omega
  unfold inKeyEntry
  rw [if_neg hfit, h0, h1, hdiv, inRole_code, hback, hrep, hten, hsup, hsil, hwake]
  rfl

/-! ### The delivery table entry -/

theorem inKindFilter_out (k : Option Kind) : inKindFilter (BitVec.ofNat 8 ((k.map Kind.code).getD 0)) = some k := by
  cases k with
  | none => rfl
  | some k => cases k <;> rfl

theorem inTableEntry_out {e : TableEntry} (h : e.valid = true) : inTableEntry (outTableEntry e) = some e := by
  obtain ⟨hurgent, hblocked, hlt⟩ := two_flags e.urgent e.blocked
  have hlane : e.laneMask.toNat < 131072 := e.laneMask.isLt
  have hclass : e.classMask.toNat < 32 := e.classMask.isLt
  have h0 := num_mod e.laneMask.toNat
  have h1 := num_mod (e.laneMask.toNat / 256)
  have h2 : (num (e.laneMask.toNat / 65536)).toNat = e.laneMask.toNat / 65536 := num_toNat (by omega)
  have hc : (num e.classMask.toNat).toNat = e.classMask.toNat := num_toNat (by omega)
  have hfit : ¬ (2 ≤ (num (e.laneMask.toNat / 65536)).toNat ∨ 32 ≤ (num e.classMask.toNat).toNat ∨
      4 ≤ (BitVec.ofNat 8 (bit e.urgent + 2 * bit e.blocked)).toNat) := by omega
  have hmask : BitVec.ofNat 17 (in2 (num e.laneMask.toNat) (num (e.laneMask.toNat / 256)) +
      65536 * (num (e.laneMask.toNat / 65536)).toNat) = e.laneMask := by
    refine BitVec.eq_of_toNat_eq ?_
    rw [BitVec.toNat_ofNat, in2, h0, h1, h2]
    omega
  have hclassMask : BitVec.ofNat 5 (num e.classMask.toNat).toNat = e.classMask := by
    refine BitVec.eq_of_toNat_eq ?_
    rw [BitVec.toNat_ofNat, hc]
    omega
  have hlist : outTableEntry e = [num e.laneMask.toNat, num (e.laneMask.toNat / 256), num (e.laneMask.toNat / 65536),
      num e.classMask.toNat, BitVec.ofNat 8 ((e.kind.map Kind.code).getD 0), e.consumers,
      BitVec.ofNat 8 (bit e.urgent + 2 * bit e.blocked)] := rfl
  rw [hlist]
  unfold inTableEntry
  dsimp only
  rw [if_neg hfit, inKindFilter_out, hmask, hclassMask, hurgent, hblocked]
  cases e
  cases h
  rfl

/-! ### The scan rule -/

theorem rule_byte : ∀ (v : Bool) (a : RuleAction) (c : RuleCheck),
    let b := BitVec.ofNat 8 (bit v + 2 * a.code + 8 * c.code)
    b.toNat < 32 ∧ hasBit b 0 = v ∧ inAction (b.toNat / 2 % 4) = some a ∧ inCheck (b.toNat / 8) = some c := by
  intro v a c
  cases v <;> cases a <;> cases c <;> decide

theorem rawRule_out {r : ScanRule} (h : r.clamped = r) : rawRule (outRule r) = some r := by
  obtain ⟨hlt, hvalid, haction, hcheck⟩ := rule_byte r.valid r.action r.check
  have hmin : clampTo 1 48 r.minLen = r.minLen := congrArg ScanRule.minLen h
  have hmax : clampTo 1 48 r.maxLen = r.maxLen := congrArg ScanRule.maxLen h
  have hlead : min 3 r.leadLen = r.leadLen := congrArg ScanRule.leadLen h
  have hstrip : min 3 r.strip = r.strip := congrArg ScanRule.strip h
  unfold clampTo at hmin hmax
  have hmask : r.laneMask.toNat < 65536 := r.laneMask.isLt
  have hback : BitVec.ofNat 16 (in2 (num r.laneMask.toNat) (num (r.laneMask.toNat / 256))) = r.laneMask := by
    refine BitVec.eq_of_toNat_eq ?_
    rw [BitVec.toNat_ofNat, in2, num_mod, num_mod]
    omega
  obtain ⟨a, b, c, hv⟩ : ∃ a b c, r.lead = #v[a, b, c] :=
    ⟨r.lead[0], r.lead[1], r.lead[2], Vector.ext fun i hi => by interval_cases i <;> rfl⟩
  have hlist : outRule r = [BitVec.ofNat 8 (bit r.valid + 2 * r.action.code + 8 * r.check.code), num r.laneMask.toNat,
      num (r.laneMask.toNat / 256), num r.leadLen, a, b, c, num r.minLen, num r.maxLen, num r.strip, r.typeCode] := by
    unfold outRule
    rw [hv]
    rfl
  rw [hlist]
  unfold rawRule
  dsimp only
  rw [if_neg (Nat.not_le.mpr hlt), haction, hcheck, hvalid, hback, num_toNat (n := r.leadLen) (by omega),
    num_toNat (n := r.minLen) (by omega), num_toNat (n := r.maxLen) (by omega), num_toNat (n := r.strip) (by omega), ← hv]
  rfl

/-! ### The setting set -/

theorem inAutoKick_out : ∀ o : Option (Fin 2), inAutoKick (BitVec.ofNat 8 ((o.map Fin.val).getD 0xFF)) = some o := by
  decide

theorem inToneSel_out : ∀ o : Option (Fin 8), inToneSel (BitVec.ofNat 8 ((o.map Fin.val).getD 0xFF)) = some o := by
  decide

theorem rawSettings_out {g : Settings} (h : g.clamped = g) : rawSettings (outSettings g) = some g := by
  have hscan : clampTo 2 40 g.scanPeriod = g.scanPeriod := congrArg Settings.scanPeriod h
  have hrows : clampTo 1 8 g.rows = g.rows := congrArg Settings.rows h
  have hcolumns : clampTo 1 16 g.columns = g.columns := congrArg Settings.columns h
  have hdebounce : clampTo 1 15 g.debounce = g.debounce := congrArg Settings.debounce h
  have hrollover : clampTo 2 8 g.rollover = g.rollover := congrArg Settings.rollover h
  have hdelay : clampTo 10 255 g.typDelay = g.typDelay := congrArg Settings.typDelay h
  have hperiod : clampTo 3 255 g.typPeriod = g.typPeriod := congrArg Settings.typPeriod h
  have hswitch : clampTo 1 25 g.switchTimeout = g.switchTimeout := congrArg Settings.switchTimeout h
  have hwindow : clampTo 1 60 g.tenderWindow = g.tenderWindow := congrArg Settings.tenderWindow h
  unfold clampTo at hscan hrows hcolumns hdebounce hrollover hdelay hperiod hswitch hwindow
  have hmiss : (if decide (g.missPolicy = .fault) = true then MissPolicy.fault else .hold) = g.missPolicy := by
    cases g.missPolicy <;> rfl
  have hnoMatch : (if decide (g.noMatch = .rejectReport) = true then NoMatchPolicy.rejectReport else .acceptRaw) =
      g.noMatch := by
    cases g.noMatch <;> rfl
  have hlist : outSettings g = [num g.scanPeriod, num g.rows, num g.columns, num g.debounce, num g.rollover,
      BitVec.ofNat 8 (bit g.ghostCheck), BitVec.ofNat 8 (bit (decide (g.missPolicy = .fault))), num g.typDelay,
      num g.typPeriod, num g.switchTimeout, num g.tenderWindow,
      BitVec.ofNat 8 ((g.autoKick.map Fin.val).getD 0xFF), BitVec.ofNat 8 ((g.goodTone.map Fin.val).getD 0xFF),
      BitVec.ofNat 8 ((g.badTone.map Fin.val).getD 0xFF), BitVec.ofNat 8 (bit (decide (g.noMatch = .rejectReport))),
      BitVec.ofNat 8 (bit g.wake)] := rfl
  rw [hlist]
  unfold rawSettings
  dsimp only
  simp only [inBool_bit, inAutoKick_out, inToneSel_out, Option.bind_eq_bind, Option.bind_some, hmiss, hnoMatch]
  rw [num_toNat (n := g.scanPeriod) (by omega), num_toNat (n := g.rows) (by omega), num_toNat (n := g.columns) (by omega),
    num_toNat (n := g.debounce) (by omega), num_toNat (n := g.rollover) (by omega), num_toNat (n := g.typDelay) (by omega),
    num_toNat (n := g.typPeriod) (by omega), num_toNat (n := g.switchTimeout) (by omega),
    num_toNat (n := g.tenderWindow) (by omega)]

/-! ### Frames -/

/-- R185, R186: a frame with its own check bytes is complete, and judged by its kind. -/
theorem judge_sent (kind addr : Byte) (payload : List Byte) :
    let body := [kind, addr, num payload.length] ++ payload
    payload.length ≤ 64 → frameComplete (body ++ checkBytes body) = true ∧ judge (body ++ checkBytes body) =
      match FrameKind.ofCode kind.toNat with
        | none => .rejected .unknownKind
        | some .event | some .reply => .rejected .wrongDirection
        | some .request => .request { tag := addr, payload := payload }
        | some .credit =>
          match payload with
          | [n] => .credit addr.toNat n.toNat
          | _ => .rejected .creditLength := by
  intro body h
  obtain ⟨check, last, hcheck⟩ : ∃ check last, checkBytes body = [check, last] := ⟨_, _, rfl⟩
  have hframe : body ++ checkBytes body = (body ++ [check]) ++ [last] := by
    rw [hcheck]
    exact (List.append_assoc body [check] [last]).symm
  rw [hframe]
  exact ⟨frameComplete_frame kind addr check last h,
    (judge_frame kind addr check last payload).trans (if_neg (not_not_intro hcheck.symm))⟩

/-- Settles O52: each encoding by its own lemma. -/
theorem encodingsRoundTrip : Obligations.EncodingsRoundTrip := by
  refine ⟨fun e => ⟨_, _, _, rfl, inKeyEntry_out e⟩, fun e h => inTableEntry_out h, fun r h => rawRule_out h,
    fun g h => rawSettings_out h, fun tag payload h => (judge_sent 0xA1 tag payload h).2, fun f h => ?_⟩
  obtain ⟨hcomplete, hjudge⟩ := judge_sent (num f.kind.code) f.address f.payload h
  refine ⟨hcomplete, hjudge.trans ?_⟩
  cases f <;> rfl

end Sys2Proof.RoundTrips

/-! ## What the requests that report carry (R22, R46, R52, R89, R102, R120, R133, R146, R167, R198) -/

namespace Sys2Proof.Reports

open Sys2Proof.Machine Sys2Proof.Claims Sys2Proof.Events Sys2Proof.OpenCounter Sys2Proof.DeliveryUnit Sys2Proof.SupplyFaults
  Sys2Proof.TrunkPort Sys2Proof.Arbiters

/-! ### Fields -/

theorem bit_flag (b : Bool) : BitVec.ofNat 8 (bit b) = flag b := by
  cases b <;> rfl

theorem firstListed_eq (b : Bool) : out1 (firstListedCode b) = [if b then 0 else 1] := by
  cases b <;> rfl

theorem outSettings_eq (g : Settings) : outSettings g = settingBytes g := by
  unfold outSettings settingBytes
  simp only [outFlag_eq]
  rfl

theorem laneReport_eq (r : LaneRec) (pendingCopy : Bool) : laneReport r pendingCopy =
    [num r.state.code, num r.keyLock.code, flag r.settled, if r.windowOpen then 0 else 1] ++ two r.tenderTimer ++
      two r.wakeHoldOff ++ [flag r.pendingSet.isSome] ++
      settingBytes (if pendingCopy then r.pendingSet.getD r.active else r.active) := by
  unfold laneReport
  rw [outFlag_eq, outFlag_eq, firstListed_eq, outSettings_eq]
  rfl

theorem passStatus_eq (m : Scanner) (l : Fin 16) :
    out1 (m.passStatus l) = [flag m.lanes[l].waiting + 2 * flag (m.laneInPass == some l)] := by
  unfold Scanner.passStatus Scanner.inPass
  cases m.lanes[l].waiting <;> cases m.laneInPass == some l <;> rfl

theorem keysReport_eq (m : Scanner) (l : Fin 16) (row : Fin 8) : keysReport m l row =
    [flag m.lanes[l].waiting + 2 * flag (m.laneInPass == some l)] ++ two m.lanes[l].missCount ++
      [num (m.lanes[l].countKeys .pressed), num (m.lanes[l].countKeys .blocked), num (m.lanes[l].countKeys .latched),
        num m.dwell] ++
      (List.finRange 16).flatMap fun j =>
        let at' : Fin 128 := ⟨row.val * 16 + j.val, by omega⟩
        [num m.lanes[l].keys[at'].code, num m.lanes[l].integ[at']] := by
  unfold keysReport
  dsimp only
  rw [passStatus_eq]
  simp only [List.append_assoc]
  rfl

theorem five_flags_sum : ∀ a b c d e : Bool,
    BitVec.ofNat 8 (bit a + 2 * bit b + 4 * bit c + 8 * bit d + 16 * bit e) =
      flag a + 2 * flag b + 4 * flag c + 8 * flag d + 16 * flag e := by decide

theorem outKeyEntry_eq (e : KeyEntry) : outKeyEntry e = keyBytes e := by
  unfold keyBytes
  rw [← five_flags_sum]
  rfl

theorem two_flags_sum : ∀ a b : Bool, BitVec.ofNat 8 (bit a + 2 * bit b) = flag a + 2 * flag b := by decide

theorem outTableEntry_eq (e : TableEntry) : outTableEntry e = entryBytes e := by
  unfold entryBytes
  rw [← two_flags_sum]
  rfl

theorem rule_byte_sum (v : Bool) (a : RuleAction) (c : RuleCheck) :
    BitVec.ofNat 8 (bit v + 2 * a.code + 8 * c.code) = flag v + 2 * num a.code + 8 * num c.code := by
  cases v <;> cases a <;> cases c <;> rfl

theorem outRule_eq (r : ScanRule) : outRule r = ruleBytes r := by
  unfold outRule ruleBytes
  rw [← rule_byte_sum]
  simp only [List.append_assoc]
  rfl

theorem bufferReport_eq (v : Buffer) :
    bufferReport v = num v.state.code :: four (if v.state = .free then 0xFFFFFFFF else v.received) := by
  unfold bufferReport
  by_cases h : v.state = .free
  · rw [if_pos h, if_pos h]
    rfl
  · rw [if_neg h, if_neg h]
    rfl

theorem terminator_eq (t : Option Byte) : outOpt1 (t.map BitVec.toNat) = [t.getD 0xFF] := by
  cases t with
  | none => rfl
  | some b => exact congrArg (· :: []) (BitVec.eq_of_toNat_eq (by simp))

theorem frameReady_eq (u : Delivery) : u.frameReady = u.chooseFrame.isSome := by
  rw [Bool.eq_iff_iff, ← not_iff_not, Bool.not_eq_true (Option.isSome _), Option.isSome_eq_false_iff,
    Option.isNone_iff_eq_none, chooseFrame_none, firstWith_eq_none, firstWith_eq_none]
  have hready : u.frameReady = true ↔ ∃ c : Fin 8, 0 < u.consumers[c].credit ∧ 0 < u.consumers[c].queued := by
    simp only [Delivery.frameReady, List.any_eq_true, List.mem_finRange, true_and, Bool.and_eq_true, decide_eq_true_eq]
  rw [hready, not_exists]
  have hqueued (x : Consumer) : 0 < x.queued ↔ x.urgentQ ≠ [] ∨ x.routineQ ≠ [] := by
    unfold Consumer.queued
    rw [← List.length_pos_iff, ← List.length_pos_iff]
    omega
  constructor
  · exact fun h => ⟨fun c ⟨hc, hq⟩ => h c ⟨hc, (hqueued _).mpr (.inl hq)⟩,
      fun c ⟨hc, hq⟩ => h c ⟨hc, (hqueued _).mpr (.inr hq)⟩⟩
  · rintro ⟨hu, hr⟩ c ⟨hc, hq⟩
    exact ((hqueued _).mp hq).elim (fun h => hu c ⟨hc, h⟩) fun h => hr c ⟨hc, h⟩

theorem consumerReport_eq (u : Delivery) (c : Fin 8) : consumerReport u c =
    [num u.consumers[c].state.code, num u.consumers[c].credit, num u.consumers[c].depth, num u.consumers[c].urgentQ.length,
      num u.consumers[c].routineQ.length, flag u.consumers[c].lossFlag] ++ two u.consumers[c].drops ++
      four (u.consumers[c].stallTimer.getD 0xFFFFFFFF) ++ [num u.lastServed, flag u.chooseFrame.isSome] := by
  unfold consumerReport
  dsimp only
  rw [outFlag_eq, outFlag_eq, frameReady_eq]
  rfl

theorem ready_eq (p : Port) : out1 (firstListedCode p.ready) = [if p.state = .active ∧ p.current.isSome then 0 else 1] := by
  have hready : p.ready = true ↔ p.state = .active ∧ p.current.isSome = true := by
    simp only [Port.ready, Bool.and_eq_true, beq_iff_eq]
  rw [firstListed_eq]
  exact congrArg (· :: []) (if_congr hready rfl rfl)

theorem current_eq (b : Option BufferId) :
    outOpt1 (b.map BufferId.code) = [match b with | some .x => 0 | some .y => 1 | none => 0xFF] := by
  cases b with
  | none => rfl
  | some b => cases b <;> rfl

theorem portReport_eq (p : Port) : portReport p =
    [num p.state.code, if p.state = .active ∧ p.current.isSome then 0 else 1,
        match p.current with | some .x => 0 | some .y => 1 | none => 0xFF] ++
      (num p.bufX.state.code :: four (if p.bufX.state = .free then 0xFFFFFFFF else p.bufX.received)) ++
      (num p.bufY.state.code :: four (if p.bufY.state = .free then 0xFFFFFFFF else p.bufY.received)) ++
      [flag p.markDamaged, flag p.markOverlength, flag p.markOverrun, flag p.overrun,
        num p.bitRate.code, 0, p.terminator.getD 0xFF, num p.idleGap, flag p.enable] ++
      two p.cRecords ++ two p.cDamaged ++ two p.cOverlength ++ two p.cOverrun ++ two p.cDiscarded := by
  unfold portReport
  rw [ready_eq, current_eq, bufferReport_eq, bufferReport_eq, terminator_eq]
  simp only [outFlag_eq]
  rfl

theorem poolReport_eq (p : Pool) : poolReport p =
    two p.freeList.length ++ two p.lowWater ++ [num p.reserve, num p.limit] ++ two p.unwanted ++
      (List.finRange 17).flatMap fun q =>
        two p.lanes[q].lossCount ++ [num (p.lanes[q].queue.length + if p.lanes[q].waiting then 128 else 0)] := by
  have hlane : (fun q : Fin 17 => out2 p.lanes[q].lossCount ++ out1 (p.lanes[q].queue.length + 128 * bit p.lanes[q].waiting)) =
      fun q => two p.lanes[q].lossCount ++ [num (p.lanes[q].queue.length + if p.lanes[q].waiting then 128 else 0)] := by
    funext q
    cases p.lanes[q].waiting <;> rfl
  unfold poolReport
  rw [hlane]
  rfl

theorem cleared_eq (p : Pool) : p.cleared = { p with
    lanes := p.lanes.map fun q => { q with lossCount := 0 }, unwanted := 0, lowWater := p.freeList.length } := by
  have hlanes : mapTab p.lanes (fun n => { n with lossCount := 0 }) = p.lanes.map fun q => { q with lossCount := 0 } :=
    Vector.ext fun i hi => by simp [mapTab]
  unfold Pool.cleared
  rw [hlanes]
  rfl

theorem units_eq (v : Table SupplyUnit 8) :
    ((List.finRange 8).flatMap fun i => out1 v[i].state.code) = v.toList.map fun u => num u.state.code := by
  have hlist : v.toList = (List.finRange 8).map fun i => v[i] :=
    List.ext_getElem (by simp) fun i hi _ => by simp
  rw [hlist, List.map_map]
  exact List.flatMap_pure_eq_map _ _

theorem sense_eq (p : Position) : out1 p.senseCode = [if p = .opened then 0 else 1] := by
  cases p <;> rfl

theorem drawerReport_eq (u : DrawerUnit) (n : Fin 32) : drawerReport u n =
    [flag u.drawers[n].present, num u.drawers[n].position.code, flag u.drawers[n].settled,
        if u.drawers[n].senseInput = .opened then 0 else 1, num u.drawers[n].kick.code,
        orNone (u.drawers[n].unitHeld.map Fin.val)] ++
      two (u.drawers[n].kickTimer.getD 0xFFFF) ++
      [flag u.drawers[n].openedInPulse, orNone ((u.waitList.idxOf? n).map (· + 1))] ++
      four u.drawers[n].openTime ++ two (u.drawers[n].limitTimer.getD 0xFFFF) ++ two u.drawers[n].limitsPassed ++
      two u.drawers[n].openCount ++
      [num u.drawers[n].pulseWidth, num u.drawers[n].confirmTime, num u.drawers[n].openLimit] ++
      (u.units.toList.map fun v => num v.state.code) ++
      [num u.supplyLimit, orNone u.pendingLimit, num u.supplyGap, num u.waitList.length, flag u.inhibit, flag u.monitor,
        if u.supplyHigh then 0 else 1] := by
  unfold drawerReport supplyReport
  dsimp only
  rw [sense_eq, units_eq, lineCode_eq]
  simp only [outFlag_eq, List.append_assoc]
  rfl

theorem keymapReport_eq (k : KeymapStore) (i : Fin 8) (first count : Nat) :
    out1 k.images[i].state.code ++ out2 (k.activeMask i) ++ out2 (k.pendingMask i) ++
      outEntries k.images[i].entries first count =
    [num k.images[i].state.code] ++
      two ((List.finRange 16).map fun l => if (k.lanes[l].active == some i) = true then 2 ^ l.val else 0).sum ++
      two ((List.finRange 16).map fun l => if (k.lanes[l].pendingImg == some i) = true then 2 ^ l.val else 0).sum ++
      ((k.images[i].entries.toList.drop first).take count).flatMap keyBytes := by
  have hbytes : outKeyEntry = keyBytes := funext outKeyEntry_eq
  unfold outEntries KeymapStore.activeMask KeymapStore.pendingMask
  simp only [beq_iff_eq, hbytes]
  rfl

/-! ### Requests -/

section
variable {s : State} (l : Fin 16) (d : Device)

theorem readLane_num (clear : Bool) : readLane [num l, flag clear] d = answer d .done (laneReport d.lanes[l] clear) := by
  unfold readLane
  dsimp only
  rw [inIndex_num l (by decide), inBool_flag]

theorem readKeys_num (row : Fin 8) (clear : Bool) : readKeys [num l, num row, flag clear] d =
    answer (if clear then d.updScan l fun m => { m with missCount := 0 } else d) .done (keysReport d.scanner l row) := by
  unfold readKeys
  dsimp only
  rw [inIndex_num l (by decide), inIndex_num row (by decide), inBool_flag]

theorem readKeymap_num (i : Fin 8) {lo hi : Byte} {count : Nat} (h1 : 1 ≤ count) (h16 : count ≤ 16)
    (h512 : lo.toNat + 256 * hi.toNat + count ≤ 512) : readKeymap [num i, lo, hi, num count] d =
    answer d .done (out1 d.keymaps.images[i].state.code ++ out2 (d.keymaps.activeMask i) ++
      out2 (d.keymaps.pendingMask i) ++ outEntries d.keymaps.images[i].entries (lo.toNat + 256 * hi.toNat) count) := by
  have hcount : (num count).toNat = count := num_toNat (by omega)
  have hok : runOk (in2 lo hi) count = true := by
    simp only [runOk, Bool.and_eq_true, decide_eq_true_eq]
    exact ⟨⟨h1, h16⟩, h512⟩
  unfold readKeymap
  dsimp only
  rw [inIndex_num i (by decide), hcount]
  exact if_pos hok

theorem readPort_num (p : Fin 32) (clear : Bool) : readPort [num p, flag clear] d =
    answer (if clear then d.updPort p Port.zeroCounters else d) .done (portReport d.ports[p]) := by
  unfold readPort
  dsimp only
  rw [inIndex_num p (by decide), inBool_flag]

theorem readRule_num (bank : Bool) (n : Fin 32) (clear : Bool) : readRule [flag bank, num n, flag clear] d =
    let p := if bank then d.rules.shadow[n] else d.rules.active[n]
    let d1 := if ¬ clear then d
      else if bank then d.updRules fun k => { k with shadow := zeroHits k.shadow n }
      else d.updRules fun k => { k with active := zeroHits k.active n }
    answer d1 .done (outRule p.rule ++ out2 p.hits) := by
  unfold readRule
  dsimp only
  rw [inBool_flag, inIndex_num n (by decide), inBool_flag]

theorem readPool_flag (clear : Bool) : readPool [flag clear] d =
    answer (if clear then d.updPool Pool.cleared else d) .done (poolReport d.pool) := by
  unfold readPool
  dsimp only
  rw [inBool_flag]

theorem tableRead_num (x : Fin 64) : tableRead [num x] d =
    if d.delivery.table[x].valid then answer d .donePresent (outTableEntry d.delivery.table[x]) else answer d .doneAbsent := by
  unfold tableRead
  dsimp only
  rw [inIndex_num x (by decide)]

theorem readConsumer_num (c : Fin 8) (clear : Bool) : readConsumer [num c, flag clear] d =
    answer (if clear then d.updConsumer c fun k => { k with drops := 0 } else d) .done (consumerReport d.delivery c) := by
  unfold readConsumer
  dsimp only
  rw [inIndex_num c (by decide), inBool_flag]

end

/-- A report that clears what its flag names. -/
theorem takeCode_cleared {s : State} {r : Request} {code : Nat} {carry : List Byte → Device → Carried} {e d : Device}
    {c : ReplyCode} {fs : List Byte} {clear : Bool} (hw : Waits s r) (hr : r.is code = true)
    (hcarry : carry r.fields (s.dev.begin r) = answer (if clear then e else s.dev.begin r) c fs)
    (he : e = { d with trunk := started s.dev.trunk r }) : s.takeCode code carry =
      .next { s with dev := { (if clear then d else s.dev) with trunk := answered s.dev.trunk r c fs } } := by
  subst he
  cases clear with
  | true => exact takeCode_of_answer (d := { d with trunk := started s.dev.trunk r }) hw hr hcarry rfl
  | false => exact takeCode_of_answer (d := s.dev.begin r) hw hr hcarry rfl

/-- Settles O49: each report through its row, field by field. -/
theorem reportContents : Obligations.ReportContents := by
  intro s tag lo hi l row i count p n bank x c clear d r m image lanesWith port buffer place k u w reports cleared noRecords
    noHits noLosses
  refine ⟨fun hw => ?_, fun hw => ?_, fun h1 h16 h512 hw => ?_, fun hw => ?_, fun hw => ?_, fun hw => ?_,
    fun hv hw => ?_, fun hv hw => ?_, fun hw => ?_, fun hw => ?_⟩
  · have hcarry := readLane_num l (s.dev.begin (request tag 0x07 [num l, flag clear])) clear
    rw [laneReport_eq] at hcarry
    exact takeCode_of_answer (d := s.dev.begin _) hw rfl hcarry rfl
  · have hcarry := readKeys_num l (s.dev.begin (request tag 0x11 [num l, num row, flag clear])) row clear
    rw [keysReport_eq] at hcarry
    exact takeCode_cleared hw rfl hcarry rfl
  · have hcarry := readKeymap_num (s.dev.begin (request tag 0x19 [num i, lo, hi, num count])) i h1 h16 h512
    rw [keymapReport_eq] at hcarry
    exact takeCode_of_answer (d := s.dev.begin _) hw rfl hcarry rfl
  · have hcarry := readPort_num (s.dev.begin (request tag 0x21 [num p, flag clear])) p clear
    rw [portReport_eq] at hcarry
    exact takeCode_cleared hw rfl hcarry rfl
  · have hcarry := readRule_num (s.dev.begin (request tag 0x29 [flag bank, num n, flag clear])) bank n clear
    dsimp only at hcarry
    rw [outRule_eq, ite_not] at hcarry
    cases bank with
    | true => exact takeCode_cleared hw rfl hcarry rfl
    | false => exact takeCode_cleared hw rfl hcarry rfl
  · have hcarry := readPool_flag (s.dev.begin (request tag 0x31 [flag clear])) clear
    rw [poolReport_eq, Device.updPool, cleared_eq] at hcarry
    exact takeCode_cleared hw rfl hcarry rfl
  · have hcarry := (tableRead_num (s.dev.begin (request tag 0x38 [num x])) x).trans (if_pos hv)
    rw [outTableEntry_eq] at hcarry
    exact takeCode_of_answer (d := s.dev.begin _) hw rfl hcarry rfl
  · have hcarry := (tableRead_num (s.dev.begin (request tag 0x38 [num x])) x).trans (if_neg (Bool.eq_false_iff.mp hv))
    exact takeCode_of_answer (d := s.dev.begin _) hw rfl hcarry rfl
  · have hcarry := readConsumer_num (s.dev.begin (request tag 0x41 [num c, flag clear])) c clear
    rw [consumerReport_eq] at hcarry
    exact takeCode_cleared hw rfl hcarry rfl
  · have hcarry := onDrawer_num readDrawer n (s.dev.begin (request tag 0x4B [num n]))
    unfold readDrawer at hcarry
    rw [drawerReport_eq] at hcarry
    exact takeCode_of_answer (d := s.dev.begin _) hw rfl hcarry rfl

end Sys2Proof.Reports

/-! ## Refused requests (R2, R50, R51, R101, R166, R188, R189, R196, R198) -/

namespace Sys2Proof.Refusals

open Sys2Proof.Machine Sys2Proof.Claims Sys2Proof.Events Sys2Proof.OpenCounter Sys2Proof.SupplyFaults

/-! ### What a row makes of a request -/

/-- A row's answer to a request whose fields are `ok`: it is malformed, or its fields are `ok` and it is answered on an
unchanged part, is not refused, or stays in progress. -/
inductive Handles (ok : Prop) (d : Device) : Carried → Prop
  | malformed : Handles ok d (malformed d)
  | same (hok : ok) (c fs) : Handles ok d (answer d c fs)
  | done (hok : ok) {e c fs} (hc : c.code < 0x80) : Handles ok d (answer e c fs)
  | progress (hok : ok) (e) : Handles ok d (e, none)

variable {ok : Prop} {d : Device}

theorem Handles.ite {p : Prop} [Decidable p] {x y : Carried} (hx : Handles ok d x) (hy : Handles ok d y) :
    Handles ok d (if p then x else y) := by
  split
  · exact hx
  · exact hy

theorem Handles.turns {x : Carried} (h : Handles ok d x) (hno : ¬ ok) : x = Machine.malformed d := by
  cases h with
  | malformed => rfl
  | same hok | done hok | progress hok => exact absurd hok hno

/-- A refusal is answered on an unchanged part. -/
theorem Handles.refused {x : Carried} (h : Handles ok d x) {a : Answer} (hx : x.2 = some a) (ha : 0x80 ≤ a.code.code) :
    x.1 = d := by
  cases h with
  | malformed | same => rfl
  | done hok hc =>
    cases hx
    exact absurd ha (Nat.not_le.mpr hc)
  | progress => cases hx

theorem doneOr_lt (clamped : Bool) : (doneOr clamped).code < 0x80 := by
  cases clamped <;> decide

/-! ### Fields that a request may hold -/

/-- The fields have the row's length, and hold no value that R196 rules out. -/
def Admitted (code len : Nat) (fs : List Byte) : Prop := fs.length + 1 = len ∧ ¬ badFields code fs

/-- A row that stands for the requests of one code whose payload has one length. -/
def Row (code len : Nat) (carry : List Byte → Device → Carried) : Prop :=
  ∀ fs d, Handles (Admitted code len fs) d (carry fs d)

theorem inIndex_lt {n : Nat} {b : Byte} {i : Fin n} (h : inIndex n b = some i) : b.toNat < n := by
  unfold inIndex at h
  split at h
  · assumption
  · cases h

theorem inBool_lt {b : Byte} {v : Bool} (h : inBool b = some v) : b.toNat < 2 := by
  unfold inBool at h
  split at h
  · omega
  · split at h
    · omega
    · cases h

theorem portRate_lt {n : Nat} {r : PortRate} (h : PortRate.ofCode n = some r) : n < 5 := by
  match n with
  | 0 | 1 | 2 | 3 | 4 => decide
  | n + 5 => cases h

theorem unmatchedPolicy_lt {n : Nat} {p : UnmatchedPolicy} (h : UnmatchedPolicy.ofCode n = some p) : n < 3 := by
  match n with
  | 0 | 1 | 2 => decide
  | n + 3 => cases h

theorem lamp_lt {n : Nat} {m : Option LampMode} (h : lampOfCode n = some m) : n < 5 := by
  match n with
  | 0 | 1 | 2 | 3 | 4 => decide
  | n + 5 => cases h

theorem eventClass_code {n : Nat} {c : EventClass} (h : EventClass.ofCode n = some c) : c.code = n := by
  match n with
  | 0 => cases h
  | 1 | 2 | 3 | 4 | 5 =>
    cases h
    rfl
  | n + 6 => cases h

theorem inAutoKick_listed {b : Byte} {o : Option (Fin 2)} (h : inAutoKick b = some o) : b.toNat < 2 ∨ b.toNat = 0xFF := by
  unfold inAutoKick at h
  split at h
  · exact .inr ‹_›
  · obtain ⟨i, hi, -⟩ := Option.map_eq_some_iff.mp h
    exact .inl (inIndex_lt hi)

theorem inToneSel_listed {b : Byte} {o : Option (Fin 8)} (h : inToneSel b = some o) : b.toNat < 8 ∨ b.toNat = 0xFF := by
  unfold inToneSel at h
  split at h
  · exact .inr ‹_›
  · obtain ⟨i, hi, -⟩ := Option.map_eq_some_iff.mp h
    exact .inl (inIndex_lt hi)

theorem inKindFilter_listed {b : Byte} {o : Option Kind} (h : inKindFilter b = some o) :
    b.toNat = 0 ∨ Kind.ofCode b.toNat ≠ none := by
  unfold inKindFilter at h
  split at h
  · exact .inl ‹_›
  · obtain ⟨k, hk, -⟩ := Option.map_eq_some_iff.mp h
    exact .inr (hk ▸ Option.some_ne_none k)

theorem inAction_lt {n : Nat} {a : RuleAction} (h : inAction n = some a) : n < 3 := by
  unfold inAction at h
  split_ifs at h
  all_goals omega

theorem inCheck_lt {n : Nat} {c : RuleCheck} (h : inCheck n = some c) : n < 2 := by
  unfold inCheck at h
  split_ifs at h
  all_goals omega

/-- The fields of a request whose only bounds are those of the list. -/
theorem admitted_of_bounds (code : Nat) {len : Nat} (fs : List Byte) (hlen : fs.length + 1 = len)
    (hextra : code ∉ [0x06, 0x19, 0x28, 0x39, 0x3B, 0x3C])
    (hbounds : (fieldBounds.filter (·.1 = code)).Forall fun x => (fs[x.2.1]?.getD 0).toNat < x.2.2) :
    Admitted code len fs := by
  refine ⟨hlen, ?_⟩
  simp only [List.mem_cons, List.not_mem_nil, or_false, not_or] at hextra
  obtain ⟨h06, h19, h28, h39, h3B, h3C⟩ := hextra
  rintro (⟨x, hx, hcode, hle⟩ | ⟨h, -⟩ | ⟨h, -⟩ | ⟨h, -⟩ | ⟨h, -⟩ | ⟨h, -⟩ | ⟨h, -⟩)
  · have hlt := List.forall_iff_forall_mem.mp hbounds x (List.mem_filter.mpr ⟨hx, decide_eq_true hcode⟩)
    exact absurd hle (Nat.not_le.mpr hlt)
  · exact h06 h
  · exact h19 h
  · exact h28 h
  · exact h39 h
  · exact h3B h
  · exact h3C h


/-! ### Requests of lanes and scanner -/

theorem onLane_row {code : Nat} {carry : Fin 16 → Device → Carried}
    (hok : ∀ b : Byte, b.toNat < 16 → Admitted code 2 [b]) (h : ∀ ok l d, ok → Handles ok d (carry l d)) :
    Row code 2 (onLane carry) := by
  intro fs d
  unfold onLane
  split
  · split
    · next hl => exact h _ _ _ (hok _ (inIndex_lt hl))
    · exact .malformed
  · exact .malformed

theorem openLaneReq_handles (ok : Prop) (l : Fin 16) (d : Device) (hok : ok) : Handles ok d (openLaneReq l d) := by
  unfold openLaneReq
  split
  · exact .same hok _ _
  · exact .ite (.same hok _ _) (.done hok (by decide))
  · exact .same hok _ _
  · exact .same hok _ _

theorem openLane_row : Row 0x01 2 (onLane openLaneReq) :=
  onLane_row (fun _ h => admitted_of_bounds 0x01 [_] rfl (by decide) h) openLaneReq_handles

theorem suspendLane_row : Row 0x03 2 (onLane suspendLaneReq) :=
  onLane_row (fun _ h => admitted_of_bounds 0x03 [_] rfl (by decide) h) fun _ _ _ hok =>
    .ite (.done hok (by decide)) (.same hok _ _)

theorem resumeLane_row : Row 0x04 2 (onLane resumeLaneReq) :=
  onLane_row (fun _ h => admitted_of_bounds 0x04 [_] rfl (by decide) h) fun _ _ _ hok =>
    .ite (.done hok (by decide)) (.same hok _ _)

theorem resetLane_row : Row 0x05 2 (onLane fun l d => answer (d.resetLane l) .done) :=
  onLane_row (fun _ h => admitted_of_bounds 0x05 [_] rfl (by decide) h) fun _ _ _ hok => .done hok (by decide)

theorem stopTone_row : Row 0x52 2 (onLane stopTone) :=
  onLane_row (fun _ h => admitted_of_bounds 0x52 [_] rfl (by decide) h) fun _ _ _ hok => .done hok (by decide)

theorem closeLane_row : Row 0x02 3 closeLane := by
  intro fs d
  unfold closeLane
  split
  · split
    · next hl hf =>
      have hok := admitted_of_bounds 0x02 [_, _] rfl (by decide) (And.intro (inIndex_lt hl) (inBool_lt hf))
      split
      · exact .ite (.same hok _ _) (.done hok (by decide))
      · exact .ite (.same hok _ _) (.done hok (by decide))
      · exact .done hok (by decide)
      · exact .same hok _ _
    · exact .malformed
  · exact .malformed

/-- The setting set of a SET-LANE: 16 bytes, each flag and each selection listed. -/
theorem rawSettings_admitted {b : Byte} {fs : List Byte} {g : Settings} (hb : b.toNat < 16) (h : rawSettings fs = some g) :
    Admitted 0x06 18 (b :: fs) := by
  unfold rawSettings at h
  split at h
  · next ts rw cl db ro gh mp td tp sw tw ak gt bt nm wk =>
    simp only [Option.bind_eq_bind, Option.bind_eq_some_iff, Option.some.injEq] at h
    obtain ⟨ghost, hghost, miss, hmiss, auto, hauto, good, hgood, bad, hbad, noMatch, hnoMatch, wake, hwake, -⟩ := h
    have h1 := inBool_lt hghost
    have h2 := inBool_lt hmiss
    have h3 := inAutoKick_listed hauto
    have h4 := inToneSel_listed hgood
    have h5 := inToneSel_listed hbad
    have h6 := inBool_lt hnoMatch
    have h7 := inBool_lt hwake
    refine ⟨rfl, ?_⟩
    simp [badFields, fieldBounds]
    omega
  · cases h

theorem setLane_row : Row 0x06 18 setLane := by
  intro fs d
  unfold setLane
  split
  · split
    · next hl hg =>
      exact .done (rawSettings_admitted (inIndex_lt hl) hg) (doneOr_lt _)
    · exact .malformed
  · exact .malformed

theorem readLane_row : Row 0x07 3 readLane := by
  intro fs d
  unfold readLane
  split
  · split
    · next hl hf =>
      exact .same (admitted_of_bounds 0x07 [_, _] rfl (by decide) (And.intro (inIndex_lt hl) (inBool_lt hf))) _ _
    · exact .malformed
  · exact .malformed

theorem setScan_row : Row 0x10 2 setScan := by
  intro fs d
  unfold setScan
  split
  · exact .done (admitted_of_bounds 0x10 [_] rfl (by decide) trivial) (doneOr_lt _)
  · exact .malformed

theorem readKeys_row : Row 0x11 4 readKeys := by
  intro fs d
  unfold readKeys
  split
  · split
    · next hl hr hf =>
      exact .done (admitted_of_bounds 0x11 [_, _, _] rfl (by decide)
        (And.intro (inIndex_lt hl) (And.intro (inIndex_lt hr) (inBool_lt hf))))
        (by decide)
    · exact .malformed
  · exact .malformed

/-! ### Requests of the keymap store -/

theorem readKeymap_row : Row 0x19 5 readKeymap := by
  intro fs d
  unfold readKeymap
  split
  · split
    · next hi =>
      have hlt := inIndex_lt hi
      split
      · next hrun =>
        simp only [runOk, Bool.and_eq_true, decide_eq_true_eq] at hrun
        unfold in2 at hrun
        refine .same ⟨rfl, ?_⟩ _ _
        simp [badFields, fieldBounds]
        omega
      · exact .malformed
    · exact .malformed
  · exact .malformed

theorem verifyKeymap_row : Row 0x1A 4 verifyKeymap := by
  intro fs d
  unfold verifyKeymap
  split
  · next b lo hi =>
    split
    · next hb =>
      have hok := admitted_of_bounds 0x1A [b, lo, hi] rfl (by decide) (inIndex_lt hb)
      exact .ite (.same hok _ _) (.progress hok _)
    · exact .malformed
  · exact .malformed

theorem eraseKeymap_row : Row 0x1B 2 eraseKeymap := by
  intro fs d
  unfold eraseKeymap
  split
  · split
    · next hi =>
      have hok := admitted_of_bounds 0x1B [_] rfl (by decide) (inIndex_lt hi)
      exact .ite (.same hok _ _) (.done hok (by decide))
    · exact .malformed
  · exact .malformed

theorem assignKeymap_row : Row 0x1C 3 assignKeymap := by
  intro fs d
  unfold assignKeymap
  split
  · split
    · next hl hi =>
      have hok := admitted_of_bounds 0x1C [_, _] rfl (by decide) (And.intro (inIndex_lt hl) (inIndex_lt hi))
      exact .ite (.done hok (by decide)) (.same hok _ _)
    · exact .malformed
  · exact .malformed

/-! ### Requests of ports and rules -/

theorem setPort_row : Row 0x20 6 setPort := by
  intro fs d
  unfold setPort
  split
  · split
    · next hn hr he =>
      exact .done (admitted_of_bounds 0x20 [_, _, _, _, _] rfl (by decide)
        (And.intro (inIndex_lt hn) (And.intro (portRate_lt hr) (inBool_lt he))))
        (doneOr_lt _)
    · exact .malformed
  · exact .malformed

theorem readPort_row : Row 0x21 3 readPort := by
  intro fs d
  unfold readPort
  split
  · split
    · next hn hf =>
      exact .done (admitted_of_bounds 0x21 [_, _] rfl (by decide) (And.intro (inIndex_lt hn) (inBool_lt hf))) (by decide)
    · exact .malformed
  · exact .malformed

theorem rawRule_admitted {b : Byte} {fs : List Byte} {r : ScanRule} (hb : b.toNat < 32) (h : rawRule fs = some r) :
    Admitted 0x28 13 (b :: fs) := by
  unfold rawRule at h
  split at h
  · split at h
    · cases h
    · simp only [Option.bind_eq_bind, Option.bind_eq_some_iff] at h
      obtain ⟨act, hact, check, hcheck, -⟩ := h
      have h1 := inAction_lt hact
      have h2 := inCheck_lt hcheck
      refine ⟨rfl, ?_⟩
      simp [badFields, fieldBounds]
      omega
  · cases h

theorem writeRule_row : Row 0x28 13 writeRule := by
  intro fs d
  unfold writeRule
  split
  · split
    · next hi hr => exact .ite .malformed (.done (rawRule_admitted (inIndex_lt hi) hr) (doneOr_lt _))
    · exact .malformed
  · exact .malformed

theorem readRule_row : Row 0x29 4 readRule := by
  intro fs d
  unfold readRule
  split
  · split
    · next hb hn hf =>
      exact .done (admitted_of_bounds 0x29 [_, _, _] rfl (by decide)
        (And.intro (inBool_lt hb) (And.intro (inIndex_lt hn) (inBool_lt hf))))
        (by decide)
    · exact .malformed
  · exact .malformed

theorem commitRules_row : Row 0x2A 1 commitRules := by
  intro fs d
  unfold commitRules
  split
  · exact .done (admitted_of_bounds 0x2A [] rfl (by decide) trivial) (by decide)
  · exact .malformed

/-! ### Requests of pool and delivery unit -/

theorem setAdmission_row : Row 0x30 3 setAdmission := by
  intro fs d
  unfold setAdmission
  split
  · exact .done (admitted_of_bounds 0x30 [_, _] rfl (by decide) trivial) (doneOr_lt _)
  · exact .malformed

theorem readPool_row : Row 0x31 2 readPool := by
  intro fs d
  unfold readPool
  split
  · split
    · next hf => exact .done (admitted_of_bounds 0x31 [_] rfl (by decide) (inBool_lt hf)) (by decide)
    · exact .malformed
  · exact .malformed

theorem tableRead_row : Row 0x38 2 tableRead := by
  intro fs d
  unfold tableRead
  split
  · split
    · next hi =>
      have hok := admitted_of_bounds 0x38 [_] rfl (by decide) (inIndex_lt hi)
      exact .ite (.same hok _ _) (.same hok _ _)
    · exact .malformed
  · exact .malformed

theorem tableEntry_admitted {b : Byte} {fs : List Byte} {e : TableEntry} (hb : b.toNat < 64) (h : inTableEntry fs = some e) :
    Admitted 0x39 9 (b :: fs) := by
  unfold inTableEntry at h
  split at h
  · split at h
    · cases h
    · next hfit =>
      obtain ⟨kind, hkind, -⟩ := Option.map_eq_some_iff.mp h
      refine ⟨rfl, ?_⟩
      simp [badFields, fieldBounds]
      exact ⟨by omega, fun hno => (inKindFilter_listed hkind).resolve_left hno⟩
  · cases h

theorem tableWrite_row : Row 0x39 9 tableWrite := by
  intro fs d
  unfold tableWrite
  split
  · split
    · next hi he =>
      refine .done (tableEntry_admitted (inIndex_lt hi) he) ?_
      split
      · decide
      · decide
    · exact .malformed
  · exact .malformed

theorem tableDelete_row : Row 0x3A 2 tableDelete := by
  intro fs d
  unfold tableDelete
  split
  · split
    · next hi =>
      have hok := admitted_of_bounds 0x3A [_] rfl (by decide) (inIndex_lt hi)
      exact .ite (.done hok (by decide)) (.same hok _ _)
    · exact .malformed
  · exact .malformed

theorem tableSearch_row : Row 0x3B 4 tableSearch := by
  intro fs d
  unfold tableSearch
  split
  · split
    · next hl hc hk =>
      split
      · next hclass =>
        have hlt := inIndex_lt hl
        refine .progress ⟨rfl, ?_⟩ _
        simp [badFields, fieldBounds]
        exact ⟨hlt, _, hk, hclass ▸ eventClass_code hc⟩
      · exact .malformed
    · exact .malformed
  · exact .malformed

theorem tableClear_row : Row 0x3C 3 tableClear := by
  intro fs d
  unfold tableClear
  split
  · split
    · split
      · next hmode _ hc =>
        have hlt := inIndex_lt hc
        refine .progress ⟨rfl, ?_⟩ _
        simp [badFields, fieldBounds]
        omega
      · exact .malformed
    · split
      · split
        · next hmode _ hq =>
          have hlt := inIndex_lt hq
          refine .progress ⟨rfl, ?_⟩ _
          simp [badFields, fieldBounds]
          omega
        · exact .malformed
      · exact .malformed
  · exact .malformed

theorem setUnmatched_row : Row 0x3D 3 setUnmatched := by
  intro fs d
  unfold setUnmatched
  split
  · split
    · next hp => exact .done (admitted_of_bounds 0x3D [_, _] rfl (by decide) (unmatchedPolicy_lt hp)) (by decide)
    · exact .malformed
  · exact .malformed

theorem setConsumer_row : Row 0x3E 4 setConsumer := by
  intro fs d
  unfold setConsumer
  split
  · split
    · next hc hst =>
      exact .done (admitted_of_bounds 0x3E [_, _, _] rfl (by decide) (And.intro (inIndex_lt hc) (inBool_lt hst))) (doneOr_lt _)
    · exact .malformed
  · exact .malformed

theorem flushConsumer_row : Row 0x3F 2 flushConsumer := by
  intro fs d
  unfold flushConsumer
  split
  · split
    · next hc => exact .done (admitted_of_bounds 0x3F [_] rfl (by decide) (inIndex_lt hc)) (by decide)
    · exact .malformed
  · exact .malformed

theorem setStall_row : Row 0x40 3 setStall := by
  intro fs d
  unfold setStall
  split
  · exact .done (admitted_of_bounds 0x40 [_, _] rfl (by decide) trivial) (doneOr_lt _)
  · exact .malformed

theorem readConsumer_row : Row 0x41 3 readConsumer := by
  intro fs d
  unfold readConsumer
  split
  · split
    · next hc hf =>
      exact .done (admitted_of_bounds 0x41 [_, _] rfl (by decide) (And.intro (inIndex_lt hc) (inBool_lt hf))) (by decide)
    · exact .malformed
  · exact .malformed

/-! ### Requests of drawers, but for SET-DRAWER -/

theorem onDrawer_row {code : Nat} {carry : Fin 32 → Device → Carried}
    (hok : ∀ b : Byte, b.toNat < 32 → Admitted code 2 [b]) (h : ∀ ok n d, ok → Handles ok d (carry n d)) :
    Row code 2 (onDrawer carry) := by
  intro fs d
  unfold onDrawer
  split
  · split
    · next hn => exact h _ _ _ (hok _ (inIndex_lt hn))
    · exact .malformed
  · exact .malformed

/-- KICK is no `Row`: its refusals queue an event (R151). -/
theorem kick_turns {fs : List Byte} (d : Device) (h : ¬ Admitted 0x48 2 fs) : onDrawer kickReq fs d = malformed d := by
  unfold onDrawer
  split
  · split
    · next hn => exact absurd (admitted_of_bounds 0x48 [_] rfl (by decide) (inIndex_lt hn)) h
    · rfl
  · rfl

theorem clearInhibit_row : Row 0x49 1 clearInhibit := by
  intro fs d
  unfold clearInhibit
  split
  · have hok : Admitted 0x49 1 [] := admitted_of_bounds 0x49 [] rfl (by decide) trivial
    exact .ite (.same hok _ _) (.done hok (by decide))
  · exact .malformed

theorem readDrawer_row : Row 0x4B 2 (onDrawer readDrawer) :=
  onDrawer_row (fun _ h => admitted_of_bounds 0x4B [_] rfl (by decide) h) fun _ _ _ hok => .same hok _ _

theorem clearCounter_row : Row 0x4C 2 (onDrawer clearCounter) :=
  onDrawer_row (fun _ h => admitted_of_bounds 0x4C [_] rfl (by decide) h) fun _ _ _ hok => .done hok (by decide)

/-! ### Requests of tones and lamps -/

theorem writeTone_row : Row 0x50 8 writeTone := by
  intro fs d
  unfold writeTone
  split
  · split
    · next he => exact .done (admitted_of_bounds 0x50 [_, _, _, _, _, _, _] rfl (by decide) (inIndex_lt he)) (doneOr_lt _)
    · exact .malformed
  · exact .malformed

theorem playTone_row : Row 0x51 3 playTone := by
  intro fs d
  unfold playTone
  split
  · split
    · next hl he =>
      refine .done (admitted_of_bounds 0x51 [_, _] rfl (by decide) (And.intro (inIndex_lt hl) (inIndex_lt he))) ?_
      split
      · decide
      · decide
    · exact .malformed
  · exact .malformed

theorem setLamp_row : Row 0x53 4 setLamp := by
  intro fs d
  unfold Machine.setLamp
  split
  · split
    · next hl hm hs =>
      exact .done (admitted_of_bounds 0x53 [_, _, _] rfl (by decide)
        (And.intro (inIndex_lt hl) (And.intro (lamp_lt hm) (inBool_lt hs))))
        (by decide)
    · exact .malformed
  · exact .malformed

/-! ### Requests of the trunk port -/

theorem status_row : Row 0x60 2 status := by
  intro fs d
  unfold status
  split
  · split
    · next hf => exact .done (admitted_of_bounds 0x60 [_] rfl (by decide) (inBool_lt hf)) (by decide)
    · exact .malformed
  · exact .malformed

theorem setTime_row : Row 0x61 5 setTime := by
  intro fs d
  unfold setTime
  split
  · exact .done (admitted_of_bounds 0x61 [_, _, _, _] rfl (by decide) trivial) (by decide)
  · exact .malformed

theorem deviceReset_row : Row 0x62 1 deviceReset := by
  intro fs d
  unfold deviceReset
  split
  · exact .done (admitted_of_bounds 0x62 [] rfl (by decide) trivial) (by decide)
  · exact .malformed

/-! ### WRITE-KEYMAP and SET-DRAWER, whose lengths vary -/

theorem inRole_lt {n : Nat} {r : Role} (h : inRole n = some r) : n < 3 := by
  unfold inRole at h
  split_ifs at h
  all_goals omega

theorem inKeyEntry_fits {a b c : Byte} {e : KeyEntry} (h : inKeyEntry a b c = some e) : b.toNat < 48 ∧ c.toNat < 32 := by
  unfold inKeyEntry at h
  split at h
  · cases h
  · obtain ⟨role, hrole, -⟩ := Option.map_eq_some_iff.mp h
    have hlt := inRole_lt hrole
    omega

theorem inKeyEntries_fit : ∀ {fs : List Byte} {es : List KeyEntry}, inKeyEntries fs = some es →
    fs.length = 3 * es.length ∧ ∀ j : Nat, j < es.length →
      (fs[3 * j + 1]?.getD 0).toNat < 48 ∧ (fs[3 * j + 2]?.getD 0).toNat < 32
  | [], es, h => by
    cases h
    exact ⟨rfl, nofun⟩
  | [_], _, h => by cases h
  | [_, _], _, h => by cases h
  | a :: b :: c :: rest, es, h => by
    simp only [inKeyEntries, Option.bind_eq_bind, Option.bind_eq_some_iff, Option.some.injEq] at h
    obtain ⟨e, he, es', hes, rfl⟩ := h
    obtain ⟨hlen, hfit⟩ := inKeyEntries_fit hes
    refine ⟨by simp only [List.length_cons]; omega, fun j hj => ?_⟩
    cases j with
    | zero => exact inKeyEntry_fits he
    | succ j => exact hfit j (Nat.lt_of_succ_lt_succ hj)

theorem writeKeymap_handles (fs : List Byte) (d : Device) : Handles (keymapFields fs) d (writeKeymap fs d) := by
  unfold writeKeymap
  split
  · next b lo hi n rest =>
    split
    · next i es hb hes =>
      split
      · exact .malformed
      · next hrun =>
        obtain ⟨hrun, hcount⟩ := not_or.mp hrun
        simp only [not_not, runOk, Bool.and_eq_true, decide_eq_true_eq] at hrun hcount
        obtain ⟨⟨h1, h16⟩, h512⟩ := hrun
        obtain ⟨hlen, hfit⟩ := inKeyEntries_fit hes
        rw [hcount] at hlen hfit
        have hok : keymapFields (b :: lo :: hi :: n :: rest) :=
          ⟨b, lo, hi, n, rest, rfl, inIndex_lt hb, h1, h16, h512, hlen, hfit⟩
        exact .ite (.same hok _ _) (.done hok (by decide))
    · exact .malformed
  · exact .malformed

theorem setDrawerForm_handles (fs : List Byte) (d : Device) : Handles (drawerFields fs) d (setDrawerForm fs d) := by
  unfold setDrawerForm
  split
  · next n on pw ct ol =>
    split
    · next hn hon =>
      have hok : drawerFields [n, on, pw, ct, ol] := ⟨n, on, pw, ct, ol, rfl, inIndex_lt hn, inBool_lt hon⟩
      exact .ite (.same hok _ _) (.done hok (doneOr_lt _))
    · exact .malformed
  · exact .malformed

theorem setSupplyForm_handles (fs : List Byte) (d : Device) : Handles (supplyFields fs) d (setSupplyForm fs d) := by
  unfold setSupplyForm
  split
  · next k g on =>
    split
    · next hon => exact .done ⟨k, g, on, rfl, inBool_lt hon⟩ (doneOr_lt _)
    · exact .malformed
  · exact .malformed

theorem Handles.mono {p q : Prop} {d : Device} {x : Carried} (h : Handles p d x) (hpq : p → q) : Handles q d x := by
  cases h with
  | malformed => exact .malformed
  | same hp => exact .same (hpq hp) _ _
  | done hp hc => exact .done (hpq hp) hc
  | progress hp => exact .progress (hpq hp) _

/-- The fields that SET-DRAWER admits: a scope code and its form's fields. -/
def scopeFields : List Byte → Prop
  | [] => False
  | scope :: fs => (scope = 0 ∧ drawerFields fs) ∨ (scope = 1 ∧ supplyFields fs)

theorem inBool_scope {b : Byte} {v : Bool} (h : inBool b = some v) : b = flag v := by
  unfold inBool at h
  split_ifs at h with h0 h1
  · cases h
    exact BitVec.eq_of_toNat_eq h0
  · cases h
    exact BitVec.eq_of_toNat_eq h1

theorem setDrawer_handles (fs : List Byte) (d : Device) : Handles (scopeFields fs) d (setDrawer fs d) := by
  unfold setDrawer
  split
  · split
    · next hs => exact (setDrawerForm_handles _ d).mono fun h => .inl ⟨inBool_scope hs, h⟩
    · next hs => exact (setSupplyForm_handles _ d).mono fun h => .inr ⟨inBool_scope hs, h⟩
    · exact .malformed
  · exact .malformed

/-! ### The rows -/

/-- A row that stands for the requests of one code turns away every request of another length and every one with a field
that is not admitted. -/
def TurnsAway (x : Nat × Instr × Nat) : Prop :=
  ∃ carry, (∀ s, exec x.2.1 s = s.takeCode x.1 carry) ∧ ∀ fs d, ¬ Admitted x.1 x.2.2 fs → carry fs d = malformed d

theorem Row.turnsAway {code len : Nat} {c : Instr} {carry : List Byte → Device → Carried} (h : Row code len carry)
    (hexec : ∀ s, exec c s = s.takeCode code carry) : TurnsAway (code, c, len) :=
  ⟨carry, hexec, fun fs d hno => (h fs d).turns hno⟩

theorem fixedLength_turnsAway : ∀ x ∈ fixedLength, TurnsAway x := by
  simp only [fixedLength, List.forall_mem_cons]
  exact ⟨openLane_row.turnsAway exec_openLane, closeLane_row.turnsAway exec_closeLane,
    suspendLane_row.turnsAway exec_suspendLane, resumeLane_row.turnsAway exec_resumeLane,
    resetLane_row.turnsAway exec_resetLane, setLane_row.turnsAway exec_setLane, readLane_row.turnsAway exec_readLane,
    setScan_row.turnsAway exec_setScan, readKeys_row.turnsAway exec_readKeys, readKeymap_row.turnsAway exec_readKeymap,
    verifyKeymap_row.turnsAway exec_verifyKeymap, eraseKeymap_row.turnsAway exec_eraseKeymap,
    assignKeymap_row.turnsAway exec_assignKeymap, setPort_row.turnsAway exec_setPort, readPort_row.turnsAway exec_readPort,
    writeRule_row.turnsAway exec_writeRule, readRule_row.turnsAway exec_readRule,
    commitRules_row.turnsAway exec_commitRules, setAdmission_row.turnsAway exec_setAdmission,
    readPool_row.turnsAway exec_readPool, tableRead_row.turnsAway exec_tableRead, tableWrite_row.turnsAway exec_tableWrite,
    tableDelete_row.turnsAway exec_tableDelete, tableSearch_row.turnsAway exec_tableSearch,
    tableClear_row.turnsAway exec_tableClear, setUnmatched_row.turnsAway exec_setUnmatched,
    setConsumer_row.turnsAway exec_setConsumer, flushConsumer_row.turnsAway exec_flushConsumer,
    setStall_row.turnsAway exec_setStall, readConsumer_row.turnsAway exec_readConsumer,
    ⟨_, exec_kick, fun _ => kick_turns⟩, clearInhibit_row.turnsAway exec_clearInhibit,
    readDrawer_row.turnsAway exec_readDrawer, clearCounter_row.turnsAway Machine.exec_clearCounter,
    writeTone_row.turnsAway exec_writeTone, playTone_row.turnsAway exec_playTone, stopTone_row.turnsAway exec_stopTone,
    setLamp_row.turnsAway exec_setLamp, status_row.turnsAway exec_status, setTime_row.turnsAway exec_setTime,
    deviceReset_row.turnsAway exec_deviceReset, nofun⟩

/-- R196 at a row: a request that is not admitted is answered REFUSED-MALFORMED and nothing else changes. -/
theorem malformed_refused {s : State} {r : Request} {x : Nat × Instr × Nat} (hx : x ∈ fixedLength) (hw : Waits s r)
    (hcode : r.code? = some x.1) (hbad : r.payload.length ≠ x.2.2 ∨ badFields x.1 r.fields) :
    exec x.2.1 s = .next (onlyAnswered s r .refusedMalformed []) := by
  obtain ⟨carry, hexec, hturns⟩ := fixedLength_turnsAway x hx
  have hlen : r.fields.length + 1 = r.payload.length := by
    obtain ⟨tag, payload⟩ := r
    cases payload with
    | nil => cases hcode
    | cons b fs => rfl
  have hno : ¬ Admitted x.1 x.2.2 r.fields := fun ⟨hfit, hgood⟩ =>
    hbad.elim (fun h => h (hlen.symm.trans hfit)) hgood
  rw [hexec]
  exact takeCode_of_answer (d := s.dev.begin r) hw (beq_iff_eq.mpr hcode) (hturns _ _ hno) rfl

/-! ### Refusals leave the part as it is -/

theorem trunk_rows {c : Instr} (hc : isRequestRow c = true) (h : Block.trunk ∈ footprint c) :
    c = .status ∨ c = .setTime ∨ c = .deviceReset := by
  cases c <;> simp_all [isRequestRow, footprint]

/-- A row's act leaves the replies and the request in progress to the request-taking part. -/
theorem act_reserved {c : Instr} {d e : Device} (h : Act c d e) (hc : isRequestRow c = true) :
    e.trunk.replies = d.trunk.replies ∧ e.trunk.inProgress = d.trunk.inProgress := by
  by_cases htrunk : Block.trunk ∈ footprint c
  · have hrow := trunk_rows hc htrunk
    cases h with
    | nothing | status | setTime | deviceReset => exact ⟨rfl, rfl⟩
    | setDrawer row | setSupply row | setSupplyFault row => cases row <;> simp [setDrawerRow] at hrow
    | _ => simp at hrow
  · have hsame := h.touches .trunk htrunk
    exact ⟨congrArg Trunk.replies hsame, congrArg Trunk.inProgress hsame⟩

/-- A row takes a request, does its act on it and turns away what is not admitted. -/
def Serves (c : Instr) : Prop :=
  ∃ (mine : Request → Bool) (carry : List Byte → Device → Carried) (ok : List Byte → Prop),
    (∀ s, exec c s = s.run (Device.take mine carry)) ∧ (∀ fs d, Act c d (carry fs d).1) ∧
    ∀ fs d, Handles (ok fs) d (carry fs d)

theorem requestRow_serves {c : Instr} (hc : isRequestRow c = true) : Serves c := by
  cases c with
  | openLane => exact ⟨_, _, _, exec_openLane, onLane_act openLaneReq_act, openLane_row⟩
  | closeLane => exact ⟨_, _, _, exec_closeLane, closeLane_act, closeLane_row⟩
  | suspendLane => exact ⟨_, _, _, exec_suspendLane, onLane_act suspendLaneReq_act, suspendLane_row⟩
  | resumeLane => exact ⟨_, _, _, exec_resumeLane, onLane_act resumeLaneReq_act, resumeLane_row⟩
  | resetLane => exact ⟨_, _, _, exec_resetLane, onLane_act resetLaneReq_act, resetLane_row⟩
  | setLane => exact ⟨_, _, _, exec_setLane, setLane_act, setLane_row⟩
  | readLane => exact ⟨_, _, _, exec_readLane, readLane_act, readLane_row⟩
  | setScan => exact ⟨_, _, _, exec_setScan, setScan_act, setScan_row⟩
  | readKeys => exact ⟨_, _, _, exec_readKeys, readKeys_act, readKeys_row⟩
  | writeKeymap => exact ⟨_, _, _, exec_writeKeymap, writeKeymap_act, writeKeymap_handles⟩
  | readKeymap => exact ⟨_, _, _, exec_readKeymap, readKeymap_act, readKeymap_row⟩
  | verifyKeymap => exact ⟨_, _, _, exec_verifyKeymap, verifyKeymap_act, verifyKeymap_row⟩
  | eraseKeymap => exact ⟨_, _, _, exec_eraseKeymap, eraseKeymap_act, eraseKeymap_row⟩
  | assignKeymap => exact ⟨_, _, _, exec_assignKeymap, assignKeymap_act, assignKeymap_row⟩
  | setPort => exact ⟨_, _, _, exec_setPort, setPort_act, setPort_row⟩
  | readPort => exact ⟨_, _, _, exec_readPort, readPort_act, readPort_row⟩
  | writeRule => exact ⟨_, _, _, exec_writeRule, writeRule_act, writeRule_row⟩
  | readRule => exact ⟨_, _, _, exec_readRule, readRule_act, readRule_row⟩
  | commitRules => exact ⟨_, _, _, exec_commitRules, commitRules_act, commitRules_row⟩
  | setAdmission => exact ⟨_, _, _, exec_setAdmission, setAdmission_act, setAdmission_row⟩
  | readPool => exact ⟨_, _, _, exec_readPool, readPool_act, readPool_row⟩
  | tableRead => exact ⟨_, _, _, exec_tableRead, tableRead_act, tableRead_row⟩
  | tableWrite => exact ⟨_, _, _, exec_tableWrite, tableWrite_act, tableWrite_row⟩
  | tableDelete => exact ⟨_, _, _, exec_tableDelete, tableDelete_act, tableDelete_row⟩
  | tableSearch => exact ⟨_, _, _, exec_tableSearch, tableSearch_act, tableSearch_row⟩
  | tableClear => exact ⟨_, _, _, exec_tableClear, tableClear_act, tableClear_row⟩
  | setUnmatched => exact ⟨_, _, _, exec_setUnmatched, setUnmatched_act, setUnmatched_row⟩
  | setConsumer => exact ⟨_, _, _, exec_setConsumer, setConsumer_act, setConsumer_row⟩
  | flushConsumer => exact ⟨_, _, _, exec_flushConsumer, flushConsumer_act, flushConsumer_row⟩
  | setStall => exact ⟨_, _, _, exec_setStall, setStall_act, setStall_row⟩
  | readConsumer => exact ⟨_, _, _, exec_readConsumer, readConsumer_act, readConsumer_row⟩
  | clearInhibit => exact ⟨_, _, _, exec_clearInhibit, clearInhibit_act, clearInhibit_row⟩
  | setDrawerDrawer => exact ⟨_, _, _, exec_setDrawerDrawer, setDrawer_act false, setDrawer_handles⟩
  | setDrawerSupply => exact ⟨_, _, _, exec_setDrawerSupply, setDrawer_act true, setDrawer_handles⟩
  | readDrawer => exact ⟨_, _, _, exec_readDrawer, onDrawer_act fun _ d => .nothing _ d, readDrawer_row⟩
  | clearCounter => exact ⟨_, _, _, Machine.exec_clearCounter, onDrawer_act fun n d => .clearCounter n d, clearCounter_row⟩
  | writeTone => exact ⟨_, _, _, exec_writeTone, writeTone_act, writeTone_row⟩
  | playTone => exact ⟨_, _, _, exec_playTone, playTone_act, playTone_row⟩
  | stopTone => exact ⟨_, _, _, exec_stopTone, onLane_act fun l d => .stopTone l d, stopTone_row⟩
  | setLamp => exact ⟨_, _, _, exec_setLamp, setLamp_act, setLamp_row⟩
  | status => exact ⟨_, _, _, exec_status, status_act, status_row⟩
  | setTime => exact ⟨_, _, _, exec_setTime, setTime_act, setTime_row⟩
  | deviceReset => exact ⟨_, _, _, exec_deviceReset, deviceReset_act, deviceReset_row⟩
  | unknownRequest =>
    exact ⟨_, _, fun _ => True, exec_unknownRequest, fun _ d => .nothing _ d, fun _ _ => .same trivial _ _⟩
  | emptyRequest => exact ⟨_, _, fun _ => True, exec_emptyRequest, fun _ d => .nothing _ d, fun _ _ => .malformed⟩
  | _ => cases hc

/-- A row that serves requests and adds a REFUSED reply has changed nothing but the two FIFOs. -/
theorem Serves.refused {c : Instr} {s t : State} (h : Serves c) (hc : isRequestRow c = true)
    (hidle : s.dev.trunk.inProgress = none) (hrun : exec c s = .next t) {a : Reply}
    (hreplies : t.dev.trunk.replies = s.dev.trunk.replies ++ [a]) (ha : 0x80 ≤ a.code.code) :
    t = { s with dev := { s.dev with trunk := { s.dev.trunk with
      requests := s.dev.trunk.requests.tail, replies := t.dev.trunk.replies } } } := by
  obtain ⟨mine, carry, ok, hexec, hact, hrow⟩ := h
  have hgrew : t.dev.trunk.replies ≠ s.dev.trunk.replies := by
    rw [hreplies]
    simp
  rw [hexec] at hrun
  rcases s.run_cases t _ hrun with rfl | ⟨-, rfl⟩
  · exact absurd rfl hgrew
  · by_cases htakes : ∃ r, s.dev.trunk.takeable = some r ∧ mine r = true
    · obtain ⟨r, htake, hmine⟩ := htakes
      obtain ⟨hkept, hin⟩ := act_reserved (hact r.fields (s.dev.begin r)) hc
      dsimp only at hreplies hgrew ⊢
      rw [Device.take_of_takeable _ _ _ r htake hmine] at hreplies hgrew ⊢
      have hx := hrow r.fields (s.dev.begin r)
      generalize carry r.fields (s.dev.begin r) = x at *
      obtain ⟨e, o⟩ := x
      cases o with
      | none => exact absurd hkept hgrew
      | some b =>
        have hfinish : Carried.finish (e, some b) = e.reply b := rfl
        rw [hfinish, Device.reply_of_inProgress e b r hin] at hreplies ⊢
        have hlast : b.code = a.code := congrArg Reply.code (List.cons.inj (List.append_inj' hreplies rfl).2).1
        obtain rfl : e = s.dev.begin r := hx.refused rfl (hlast ▸ ha)
        rw [← hidle]
        rfl
    · have hother : Device.take mine carry s.dev = s.dev := Device.take_of_other _ _ _ fun r htake =>
        Bool.eq_false_iff.mpr fun hmine => htakes ⟨r, htake, hmine⟩
      exact absurd (congrArg (fun d => d.trunk.replies) hother) hgrew

/-! ### The obligation -/

theorem setDrawer_turnsAway {s : State} {r : Request} {mine : Request → Bool} (hw : Waits s r) (hmine : mine r = true)
    (hno : ¬ scopeFields r.fields) :
    s.run (Device.take mine setDrawer) = .next (onlyAnswered s r .refusedMalformed []) :=
  take_of_answer (d := s.dev.begin r) hw hmine ((setDrawer_handles _ _).turns hno) rfl

/-- SET_DRAWER_DRAWER takes every scope code but SUPPLY (notes/assumptions/8.md). -/
theorem isSetDrawer_of_scope {scope : Byte} (tag : Byte) (fs : List Byte) (h : scope ≠ 1) :
    (request tag 0x4A (scope :: fs)).isSetDrawer = true := by
  have hscope : (request tag 0x4A (scope :: fs)).scopeSupply = false :=
    beq_eq_false_iff_ne.mpr fun heq => h (BitVec.eq_of_toNat_eq (Option.some.inj heq))
  unfold Request.isSetDrawer
  rw [hscope]
  rfl

/-- Settles O50: a row's answer is malformed, keeps the part, or is no refusal. -/
theorem refusalsChangeNothing : Obligations.RefusalsChangeNothing := by
  intro s t c r tag scope fs turnsAway
  refine ⟨fun hc hidle hrun ⟨a, hreplies, ha⟩ => (requestRow_serves hc).refused hc hidle hrun hreplies ha,
    fun code len hx hw hcode hbad => malformed_refused hx hw hcode hbad, fun hw hno => ?_, fun hw => ?_,
    fun hw => ⟨?_, ?_⟩⟩
  · exact takeCode_of_answer (code := rcWriteKeymap) (d := s.dev.begin _) hw rfl ((writeKeymap_handles _ _).turns hno) rfl
  · exact setDrawer_turnsAway hw rfl id
  · rintro (h2 | ⟨rfl, hno⟩)
    · refine setDrawer_turnsAway hw ?_ ?_
      · have hscope : scope ≠ 1 := by
          rintro rfl
          exact absurd h2 (by decide)
        exact isSetDrawer_of_scope tag fs hscope
      · rintro (⟨rfl, -⟩ | ⟨rfl, -⟩)
        · exact absurd h2 (by decide)
        · exact absurd h2 (by decide)
    · refine setDrawer_turnsAway hw rfl ?_
      rintro (⟨-, h⟩ | ⟨h, -⟩)
      · exact hno h
      · cases h
  · rintro ⟨rfl, hno⟩
    refine setDrawer_turnsAway hw rfl ?_
    rintro (⟨h, -⟩ | ⟨-, h⟩)
    · cases h
    · exact hno h

end Sys2Proof.Refusals
